-- ==== Sys2Proof/Word.lean ====
section
/-! DEFINITION. The plain values of the RWT-48 (widths and ranges, 00_scope.md section 6) and the names the
manual prints in capitals, one inductive type each. -/

namespace Sys2Proof

/-! ## Values -/

abbrev Byte := BitVec 8
abbrev Bytes := List Byte
/-- An Ethernet address (00_scope.md, "station address"). -/
abbrev Mac := BitVec 48
/-- A terminal identity: 8 characters, the first in the most significant byte. -/
abbrev TerminalId := BitVec 64
/-- A key of 16 bytes. -/
abbrev Key := BitVec 128
/-- A key as a STAGE carries it, wrapped: 24 bytes (13.3.1). -/
abbrev WrappedKey := BitVec 192
/-- A check value of 3 bytes (R47). -/
abbrev CheckValue := BitVec 24
/-- A tag of 8 bytes (3.2). -/
abbrev Tag := BitVec 64
/-- A chain sequence or probe number: 32 bits, the start epoch in the upper 10 (R65, R113). -/
abbrev ChainSeq := BitVec 32
/-- A control number (R162). -/
abbrev ControlNumber := BitVec 32
/-- A nonzero 16-bit syndrome (R153). -/
abbrev Syndrome := BitVec 16

abbrev LaneId := Fin 48
abbrev SlotId := Fin 96
abbrev EntryId := Fin 160
abbrev PlaceId := Fin 1024
abbrev CardClass := Fin 10
abbrev BufferId := Fin 4
/-- A fault map position: slots 0..95, lanes 96..143, the settings block 144 (9.1). -/
abbrev Position := Fin 145
/-- The number of an event kind, 0..17 (11.1). -/
abbrev EventNumber := Fin 18

/-! ## Ports and frames -/

/-- The S-port and the C-port (00_scope.md 1.2). -/
inductive Port where
  | s
  | c
deriving DecidableEq, Repr

/-- The port opposite to one port (R3). -/
def Port.opposite : Port → Port
  | .s => .c
  | .c => .s

/-- What a port hands over: one whole Ethernet frame with a good frame check (R1). The payload is what
stands between the protocol type and the frame check, without the padding an Ethernet MAC adds to a short
frame (log 8, PRESUMED). -/
structure EthFrame where
  dst : Mac
  src : Mac
  etype : BitVec 16
  payload : Bytes
deriving DecidableEq, Repr

/-- The four lane frame kinds a till sends (1.3.3). -/
inductive LaneKind where
  | pay
  | reverse
  | enrol
  | askState
deriving DecidableEq, Repr

/-- The fourteen reasons a lane frame is refused for (R12). -/
inductive TillReason where
  | noLane
  | identity
  | laneBusy
  | duplicate
  | tag
  | suspended
  | exhausted
  | faulted
  | chainDown
  | upstreamFull
  | draining
  | noExchange
  | spent
  | malformed
deriving DecidableEq, Repr

/-- The six kinds of chain envelope (6.1). -/
inductive EnvelopeKind where
  | payment
  | reversal
  | probe
  | answer
  | reversalAck
  | probeEcho
deriving DecidableEq, Repr

/-- The origin of an outbound message (R92, 13.2). -/
inductive Origin where
  | live
  | deferred
  | repeated
deriving DecidableEq, Repr

/-- The outcome an ANSWER's body opens with (R73). -/
inductive AnswerOutcome where
  | approved
  | declined
  | referred
deriving DecidableEq, Repr

/-- Why a payment is reversed (R92). -/
inductive ReversalCause where
  | timeout
  | till
deriving DecidableEq, Repr

/-- The Chain Link Monitor's state (R112). -/
inductive LinkState where
  | up
  | suspect
  | down
deriving DecidableEq, Repr

/-! ## Lanes and slots -/

inductive SuspendCause where
  | control
  | tagFailures
deriving DecidableEq, Repr

inductive FaultCause where
  | linkKey
  | baseKey
  | record
  | ceiling
deriving DecidableEq, Repr

/-- The six lane states (2.7). A suspend cause is present exactly in SUSPENDED and a fault cause exactly in
FAULTED (2.1.2), so each is held inside its state. -/
inductive LaneState where
  | unused
  | ready
  | suspended (cause : SuspendCause)
  | test
  | exhausted
  | faulted (cause : FaultCause)
deriving DecidableEq, Repr

inductive SlotState where
  | empty
  | active
  | faulted
deriving DecidableEq, Repr

inductive SlotUsage where
  | control
  | link
  | base
  | test
deriving DecidableEq, Repr

/-- The direction values that keep tags apart (R48, R49, R50). -/
inductive TagDirection where
  | outbound
  | inbound
  | till
  | part
  | request
  | reply
  | notice
  | probeOut
  | probeIn
deriving DecidableEq, Repr

/-! ## Exchanges and the log -/

inductive ExchangeKind where
  | payment
  | reversal
  | logSend
deriving DecidableEq, Repr

inductive ExchangeState where
  | awaiting
  | reversalDue
  | reversing
deriving DecidableEq, Repr

inductive LogKind where
  | payment
  | reversal
deriving DecidableEq, Repr

inductive LogState where
  | queued
  | sent
deriving DecidableEq, Repr

/-- Where a recent list item's payment stands (R27), without the index. -/
inductive PlaceKind where
  | exchange
  | log
  | done
  | reversed
deriving DecidableEq, Repr

/-- What LOG-ENTRY-ABANDONED says of a log entry (R172); a field that could not be read is absent. -/
structure LogDetails where
  lane : Option LaneId
  kind : Option LogKind
  seq : Option ChainSeq
  orig : Option ChainSeq
  xchg : Option Nat
deriving DecidableEq, Repr, Inhabited

/-! ## Control -/

/-- The thirteen reasons of a control refusal (R164). -/
inductive ControlReason where
  | tag
  | stale
  | malformed
  | full
  | empty
  | notHeld
  | holdExists
  | conflict
  | checkValue
  | inUse
  | badReference
  | notAllowed
  | state
deriving DecidableEq, Repr

/-- The four tables a change set can name (R137). -/
inductive StageTable where
  | lane
  | slot
  | standIn
  | settings
deriving DecidableEq, Repr

/-- The five actions of SET-LANE (R32). -/
inductive LaneAction where
  | ready
  | suspend
  | test
  | unused
  | clearVolatile
deriving DecidableEq, Repr

/-! ## Events, scrubbing and persistence -/

/-- The 18 event kinds in the order of 11.1. -/
inductive EventKind where
  | chainDown
  | chainUp
  | counterWarn
  | laneExhausted
  | laneSuspended
  | laneFaulted
  | slotFaulted
  | scrubCorrected
  | scrubHard
  | exchangeTimeout
  | reversalAbandoned
  | deferredDeclined
  | logHigh
  | logEntryAbandoned
  | holdRevoked
  | changeSetAbandoned
  | persistFail
  | restarted
deriving DecidableEq, Repr

/-- Where the notices of an event kind go (R173). -/
inductive Destination where
  | shop
  | chain
  | both
deriving DecidableEq, Repr

/-- Who made a check of a record (R153). -/
inductive Agent where
  | scrubber
  | engine
deriving DecidableEq, Repr

/-- The kind of a finding in the fault capture (R159). -/
inductive FindingKind where
  | soft
  | hard
  | uncorrectable
deriving DecidableEq, Repr

/-- Why the monitor went DOWN (R115). -/
inductive DownCause where
  | carrier
  | probes
deriving DecidableEq, Repr

inductive StartKind where
  | cold
  | warm
deriving DecidableEq, Repr

/-- The result the Persist Queue reports of a write (R181). -/
inductive WriteResult where
  | completed
  | failed
deriving DecidableEq, Repr

/-- The kinds of persist write (R172). -/
inductive WriteKind where
  | commitGroup
  | ceiling
  | laneState
  | slotState
  | append
  | update
  | removal
  | epoch
deriving DecidableEq, Repr

/-- One record of the Persistent Store (R178). -/
inductive RecordName where
  | settings
  | slot (n : SlotId)
  | lane (n : LaneId)
  | ceiling (n : LaneId)
  | standIn (n : CardClass)
  | logPlace (n : PlaceId)
  | epoch
deriving DecidableEq, Repr

/-- Where an event's PERSIST-FAIL came from (R172). -/
inductive FailSource where
  | write
  | restore
  | scrub
deriving DecidableEq, Repr

/-- The holders the C-port takes frames from (R106); the S-port has the first alone. -/
inductive Holder where
  | order
  | sendQueue
deriving DecidableEq, Repr

/-! ## Wear: what the outside does to the part's memories -/

/-- The wrong bits of one checked record as its check code sees them (R153). `stuck` says that the memory
does not take the right value when the record is written again. -/
inductive Upset where
  | single (syndrome : Syndrome) (stuck : Bool)
  /-- One bit is wrong, and the second read of a check shows an error the code cannot correct. -/
  | worsening (syndrome : Syndrome) (stuck : Bool)
  | uncorrectable (stuck : Bool)
deriving DecidableEq, Repr

/-- Whether the memory itself holds the wrong bits. -/
def Upset.stuck : Upset → Bool
  | .single _ k => k
  | .worsening _ k => k
  | .uncorrectable k => k

/-- A persistent record whose stored copies have gone bad (R178): the present copy, or both. -/
structure Decay where
  record : RecordName
  both : Bool
deriving DecidableEq, Repr

/-- What has happened to the memories since a command last looked: an input from the outside (log 10). -/
structure Wear where
  upsets : List (Position × Upset)
  decays : List Decay
deriving DecidableEq, Repr

/-! ## Unlisted codes -/

/-- The values that stand in a reply or a notice under a code which the layouts of chapter 13 do not list
(log 28). -/
inductive UnlistedCode where
  | suspendCause (c : SuspendCause)
  | faultCause (c : FaultCause)
  | slotState (c : SlotState)
  | exchangeKind (c : ExchangeKind)
  | exchangeState (c : ExchangeState)
  | entryUse (used : Bool)
  | logKind (c : LogKind)
  | logState (c : LogState)
  | recentPlace (c : PlaceKind)
  | agent (c : Agent)
  | findingKind (c : FindingKind)
  | captureState (locked : Bool)
  | downCause (c : DownCause)
  | port (p : Port)
  | startKind (c : StartKind)
  | failSource (c : FailSource)
  | writeKind (c : WriteKind)
  | recordName (r : RecordName)
deriving DecidableEq, Repr

/-- A count that stops at its largest value (00_scope.md 5.1, "saturating"). -/
def satInc (max n : Nat) : Nat := if n < max then n + 1 else max

/-- Adding `k` to a saturating count. -/
def satAdd (max n k : Nat) : Nat := min max (n + k)

end Sys2Proof
end

