-- ==== Sys2Proof/Syntax.lean ====
section
/-! DEFINITION. The commands of the RWT-48: one constructor per row of spec/opcode_table.json, in the table's
order. A frame's command carries the whole Ethernet frame, so that everything the layouts of chapter 13 say of
reading it stands in the meaning; a row that may come on either port carries the port. -/

namespace Sys2Proof

/-- The commands that may be sent to the part. Each is one whole and indivisible step
(95_what_each_step_holds.md). -/
inductive Instr where
  /-- Power is applied: a cold start. `decays`: the persistent copies that no longer check good. -/
  | powerApplied (decays : List Decay)
  /-- The reset line is asserted with power present: a warm start. -/
  | resetLine (decays : List Decay)
  /-- The reply to an accepted RESTART has left its port: a warm start. -/
  | restartReplyLeft (decays : List Decay)
  /-- The epoch write is reported and the part enters SERVING. -/
  | enterServing (result : WriteResult)
  /-- A port hands over a frame that is no lane frame, chain envelope or control request. -/
  | frameReceived (port : Port) (frame : EthFrame)
  /-- The MAC of a port takes a pause request for so many quanta of 512 bit times. -/
  | pauseFrame (port : Port) (quanta : BitVec 16)
  /-- The S-port hands over a PAY. -/
  | pay (frame : EthFrame)
  | reverse (frame : EthFrame)
  | enrol (frame : EthFrame)
  | askState (frame : EthFrame)
  /-- The C-port hands over an ANSWER, or one segment of it. -/
  | answerEnvelope (frame : EthFrame)
  | reversalAck (frame : EthFrame)
  | probeEcho (frame : EthFrame)
  /-- A port hands over a control frame with the request ASK of the LANE table. -/
  | askLane (port : Port) (frame : EthFrame)
  | askSlot (port : Port) (frame : EthFrame)
  | askExchange (port : Port) (frame : EthFrame)
  | askLog (port : Port) (frame : EthFrame)
  | askStandin (port : Port) (frame : EthFrame)
  | askSettings (port : Port) (frame : EthFrame)
  | askCounters (port : Port) (frame : EthFrame)
  | askFaults (port : Port) (frame : EthFrame)
  | askEvents (port : Port) (frame : EthFrame)
  | stage (port : Port) (frame : EthFrame)
  | commit (port : Port) (frame : EthFrame)
  | discard (port : Port) (frame : EthFrame)
  | hold (port : Port) (frame : EthFrame)
  | release (port : Port) (frame : EthFrame)
  | setLaneReady (port : Port) (frame : EthFrame)
  | setLaneSuspend (port : Port) (frame : EthFrame)
  | setLaneTest (port : Port) (frame : EthFrame)
  | setLaneUnused (port : Port) (frame : EthFrame)
  | setLaneClearVolatile (port : Port) (frame : EthFrame)
  | restart (port : Port) (frame : EthFrame)
  /-- A port hands over a control frame whose request is none of these. -/
  | unknownRequest (port : Port) (frame : EthFrame)
  /-- The Engine Arbiter looks for work. `wear`: what has happened to the memories it reads. -/
  | engineGrant (wear : Wear)
  | payJob
  | reverseJob
  | enrolJob
  | askStateJob
  | answerJob
  | reversalJob
  | repeatJob
  /-- The deadline of a PAYMENT entry is taken. -/
  | paymentDeadline (entry : EntryId)
  | reversingDeadline (entry : EntryId)
  | logSendDeadline (entry : EntryId)
  | drainSend
  | holdGrant
  | holdLimit (port : Port)
  | changeSetIdleLimit (port : Port)
  | probeTimer
  | reassemblyLimit (buffer : BufferId)
  /-- The scrub step interval elapses. `wear`: what has happened to the memories it reads. -/
  | scrubStep (wear : Wear)
  | portFrameTransmit (port : Port)
  | sendQueueTransmit
  | sPortCarrierLost
  | sPortCarrierReturns
  /-- The C-port loses carrier. `firstSegmentGone`: the first of the two segments of the envelope being
  transmitted has left already. -/
  | cPortCarrierLost (firstSegmentGone : Bool)
  | cPortCarrierReturns
  | commitGroupWrite (result : WriteResult)
  | ceilingWriteDone
  | ceilingWriteFailed
  | laneStateWrite (result : WriteResult)
  | slotStateWrite (result : WriteResult)
  | appendWriteDone
  | appendWriteFailed
  | logUpdateWrite (result : WriteResult)
  | logRemovalWrite (result : WriteResult)
  /-- The S-port hands over a lane frame that is none of the four kinds or fails the outer checks. -/
  | malformedLaneFrame (frame : EthFrame)
  /-- The C-port hands over a chain-type frame that fails the envelope outer checks. -/
  | malformedEnvelope (frame : EthFrame)
deriving DecidableEq, Repr

end Sys2Proof
end

