-- ==== Sys2Proof/Config.lean ====
section
/-! DEFINITION. What an implementation fixes: the manual's figures (00_scope.md section 6) as numbers, and the
values the manual leaves open as constants without a body. -/

namespace Sys2Proof.Config

/-! ## Figures -/

/-- COUNTER_MAX (00_scope.md 6, R52). -/
def counterMax : Nat := 4194303
/-- The bound of every counter and ceiling, COUNTER_MAX + 1 (R52). -/
def counterEnd : Nat := 4194304
/-- The payment counter limit (R54). -/
def paymentLimit : Nat := 4194047
/-- The ceiling step (R52). -/
def ceilingStep : Nat := 512
/-- The distance from the ceiling at which an advance is requested (R52). -/
def advanceMargin : Nat := 64
/-- Frames one transmit order holds (R4, R106). -/
def orderCapacity : Nat := 256
/-- Envelopes the Send Queue holds (R59, R107). -/
def sendCapacity : Nat := 64
/-- Envelopes the Answer Queue holds (R111). -/
def answerCapacity : Nat := 16
/-- Items of a recent list (R27). -/
def recentCapacity : Nat := 4
/-- Entries of the Deferred Log (R122). -/
def logCapacity : Nat := 1024
/-- Log entries that payments leave free (R119, R122). -/
def logReserve : Nat := 64
/-- The number of log entries above which LOG-HIGH is raised (R123). -/
def logHighMark : Nat := 768
/-- The drain window (R127). -/
def drainWindow : Nat := 8
/-- The drain reserve (R127). -/
def drainReserve : Nat := 16
/-- The repeat limit (R131). -/
def repeatLimit : Nat := 4
/-- Staged entries of a change set (R137). -/
def stageCapacity : Nat := 32
/-- Pairs of the suppress list (R156). -/
def suppressCapacity : Nat := 16
/-- Bound identities of a slot (R45). -/
def boundCapacity : Nat := 48
/-- Writes of the Persist Queue (R179). -/
def persistCapacity : Nat := 4096
/-- Consecutive tag failures that suspend a lane (R30). -/
def tagFailureLimit : Nat := 5
/-- The largest generation (R39). -/
def generationMax : Nat := 65535
/-- The largest value of a 32-bit counter (R5, R36, R176). -/
def count32Max : Nat := 4294967295
/-- The largest value of an 8-bit count (R155, R159, R173, 6.6). -/
def count8Max : Nat := 255
/-- The number of running numbers and of probe counts, 2^22 (R65, R113). -/
def runningNumbers : Nat := 4194304
/-- The number of epochs (R184). -/
def epochs : Nat := 1024
/-- Body bytes of a lane frame or envelope (1.3.1, R104). -/
def bodyMax : Nat := 2048
/-- Body bytes of one segment (R108). -/
def segmentMax : Nat := 1216
/-- The largest amount in minor units (00_scope.md 5.2). -/
def amountMax : Nat := 99999999
/-- Bytes of data one control reply carries (13.3.2). -/
def replyDataMax : Nat := 1478
/-- The longest frame a port takes, frame check included (R186). -/
def frameMax : Port → Nat
  | .s => 2083
  | .c => 1518

/-- The broadcast address: all ones (log 9, PRESUMED from Ethernet; R11 names "the S-port broadcast address"
and R174 "the port's broadcast address" without giving them). -/
def broadcast : Mac := BitVec.allOnes 48

/-- The protocol types of chapter 13. -/
def laneType : BitVec 16 := 0x9A41
def chainType : BitVec 16 := 0x9A42
def controlType : BitVec 16 := 0x9A43
/-- The protocol type of a MAC control frame, and the operation code of its pause request (log 12, PRESUMED from
Ethernet; R1 names them and gives no code). -/
def macControlType : BitVec 16 := 0x8808
def pauseCode : Nat := 1

/-! ## Free values: the cipher

The internal working of the cipher is outside the manual; each derivation and tag gives equal outputs for equal
inputs (00_scope.md section 3, 3.2). The constants below have no body, so nothing rests on what they are. -/

/-- Encryption of a body of n bytes under a key: a permutation of the n-byte strings (an encrypted body has the
length of its clear body, R186; decryption undoes it). Free, log 2. -/
opaque cipher : Key → (n : Nat) → Equiv.Perm { b : Bytes // b.length = n }

/-- The tag over the named bytes under a key with a direction value (3.2, R48 to R50). Free, log 1. -/
opaque tag : Key → TagDirection → Bytes → Tag

/-- The transaction key of a base key, a terminal identity and a counter value (R48). Free, log 1. -/
opaque transactionKey : Key → TerminalId → Nat → Key

/-- The check value of a key (R47). Free, log 1. -/
opaque checkValue : Key → CheckValue

/-- Key wrapping under a control key (R47): a permutation of the 24-byte strings, of which a wrapped key is the
image of the check block and the 16-byte key. Free, log 2. -/
opaque wrapCipher : Key → Equiv.Perm WrappedKey

/-- The 8-byte block that shows a wrapped key unwraps (R47). Free, log 2. -/
opaque wrapCheckBlock : BitVec 64

/-! ## Free values: what a part or a site fixes -/

/-- A port's factory control key (00_scope.md section 3, R43). Free, log 3. -/
opaque factoryControlKey : Port → Key

/-- A port's factory station address (1.1, R14). Free, log 3. -/
opaque factoryStation : Port → Mac

/-- The Ethernet address that envelopes are sent to, which the manual does not give. Free, log 3. -/
opaque gatewayStation : Mac

/-- A code value that chapter 13 does not list. Free, log 28. -/
opaque unlistedCode : UnlistedCode → Byte

/-- The ceiling, less one, of a lane whose record fails its restore: the manual states none (R37, R157).
Free, drawn with the counter `freeCount`; log 24. -/
opaque lostCeiling : Nat → Fin 4194304

/-- Which fields of a log record that fails its restore can be read, and as what: the manual leaves it open
(R134, R172). Free, drawn with the counter `freeCount`; log 25. -/
opaque lostLogDetails : Nat → LogDetails

end Sys2Proof.Config
end

