-- ==== Sys2Proof/Machine/Bytes.lean ====
section
/-! DEFINITION. Bytes and numbers: big-endian fields (00_scope.md 5.3), and the cipher of Config over byte lists. -/

namespace Sys2Proof.Machine

/-- A number as `k` bytes, most significant first. -/
def beBytes : (k : Nat) → Nat → Bytes
  | 0, _ => []
  | k + 1, n => beBytes k (n / 256) ++ [BitVec.ofNat 8 n]

/-- The number a list of bytes spells, most significant first. -/
def beNat (b : Bytes) : Nat := b.foldl (fun n x => n * 256 + x.toNat) 0

/-- The `k` bytes at an offset; none when the list ends before them. -/
def field (b : Bytes) (offset k : Nat) : Option Bytes :=
  if offset + k ≤ b.length then some ((b.drop offset).take k) else none

/-- The number in the `k` bytes at an offset. -/
def numField (b : Bytes) (offset k : Nat) : Option Nat := (field b offset k).map beNat

/-- An Ethernet address as bytes. -/
def macBytes (m : Mac) : Bytes := beBytes 6 m.toNat

/-- A flag's byte: 1 set, 0 clear (log 40). -/
def flagByte (b : Bool) : Byte := if b then 1 else 0

/-- A flag's value; a byte other than 0 and 1 cannot be read (log 40). -/
def readFlag (n : Nat) : Option Bool :=
  if n = 0 then some false else if n = 1 then some true else none

/-- Whether an Ethernet address is an individual one (R143, R145): the group bit of its first byte is clear
(log 9, PRESUMED from Ethernet). -/
def individual (m : Mac) : Bool := m.getLsbD 40 == false

/-- Whether a byte is a printable character: 0x20 to 0x7E (log 9, PRESUMED ASCII). -/
def printable (b : Byte) : Bool := 0x20 ≤ b.toNat && b.toNat ≤ 0x7E

/-- Whether a terminal identity is 8 printable characters (2.1.2, R143). -/
def printableIdentity (t : TerminalId) : Bool := (beBytes 8 t.toNat).all printable

/-! ## The cipher over bytes (log 1, log 2) -/

/-- The encryption of a body under a key: as long as the body (R186). -/
def encrypt (k : Key) (b : Bytes) : Bytes := (Config.cipher k b.length ⟨b, rfl⟩).val

/-- The decryption of a body under a key. -/
def decrypt (k : Key) (b : Bytes) : Bytes := ((Config.cipher k b.length).symm ⟨b, rfl⟩).val

/-- Wrapping a key under a control key (R47). -/
def wrapKey (k key : Key) : WrappedKey := Config.wrapCipher k (Config.wrapCheckBlock ++ key)

/-- Unwrapping a key under a control key: none when it does not unwrap to 16 bytes (R47). -/
def unwrapKey (k : Key) (w : WrappedKey) : Option Key :=
  let x := (Config.wrapCipher k).symm w
  if x.extractLsb' 128 64 = Config.wrapCheckBlock then some (x.extractLsb' 0 128) else none

end Sys2Proof.Machine
end

