-- ==== Sys2Proof/Machine/State.lean ====
section
/-! DEFINITION. The state of the RWT-48 as plain data: every register, table, queue, counter and record the manual
gives the part, the Persistent Store under them, the queue of commands, and the few fields of the model's own
(each named as such). `State.reset` is the factory part just after power is applied. -/

namespace Sys2Proof.Machine

/-! ## One of each per port -/

/-- A pair of like things, one per port. -/
structure PerPort (α : Type) where
  s : α
  c : α
deriving DecidableEq, Repr

/-- The one at a port. -/
def PerPort.at {α : Type} (x : PerPort α) : Port → α
  | .s => x.s
  | .c => x.c

/-- The pair with the one at a port replaced. -/
def PerPort.put {α : Type} (x : PerPort α) (p : Port) (a : α) : PerPort α :=
  match p with
  | .s => { x with s := a }
  | .c => { x with c := a }

/-! ## Frames and envelopes -/

/-- A lane frame that passed the outer checks (R6), with its source station. -/
structure LaneFrame where
  src : Mac
  kind : LaneKind
  till : Nat
  xchg : Nat
  /-- The reverse target, present in a REVERSE only. -/
  target : Option Nat
  /-- The body as carried, encrypted under the link key. -/
  body : Bytes
  tag : Tag
deriving DecidableEq, Repr

/-- A chain envelope (6.1), whole: segment fields belong to the frames that carry it (R108). -/
structure Envelope where
  kind : EnvelopeKind
  identity : TerminalId
  /-- The chain sequence; in PROBE and PROBE-ECHO the probe number. -/
  seq : ChainSeq
  /-- The original sequence, 0 when absent (R186). -/
  orig : ChainSeq
  counter : Nat
  origin : Origin
  /-- The body as carried, encrypted. -/
  body : Bytes
  tag : Tag
deriving DecidableEq, Repr

/-- What a frame to the tills says, in clear (1.3.4, 13.1.2). -/
inductive TillContent where
  | answer (clear : Bytes)
  | deferred
  | refused (reason : TillReason)
  | timedOut
  | reversalTaken
  | state (lane : LaneState) (link : LinkState)
  | testEcho (clear : Bytes)
  | chainState (link : LinkState)
  | restart
deriving DecidableEq, Repr

/-- A frame to one till or to all (1.3.4). -/
structure TillFrame where
  dst : Mac
  src : Mac
  till : Nat
  xchg : Nat
  content : TillContent
  /-- The body as carried: encrypted when the frame is tagged, clear otherwise (R49). -/
  body : Bytes
  tag : Option Tag
deriving DecidableEq, Repr

/-! ## Events -/

/-- The subject of a PERSIST-FAIL (R172). -/
inductive FailSubject where
  | lane (n : LaneId)
  | slot (n : SlotId)
  | logPlace (n : PlaceId)
  /-- The tables a commit group touches (log 36). -/
  | tables (touched : List StageTable)
  | record (r : RecordName)
  | position (n : Position)
deriving DecidableEq, Repr

/-- The details of each event kind (R172). -/
inductive EventDetails where
  | chainDown (cause : DownCause)
  | chainUp (kind : EnvelopeKind)
  | counterWarn (lane : LaneId) (counter : Nat)
  | laneExhausted (lane : LaneId) (counter : Nat)
  | laneSuspended (lane : LaneId) (cause : SuspendCause)
  | laneFaulted (lane : LaneId) (cause : FaultCause)
  | slotFaulted (slot : SlotId) (usage : Option SlotUsage)
  | scrubCorrected (pos : Position) (syndrome : Syndrome) (agent : Agent)
  | scrubHard (pos : Position) (syndrome : Syndrome) (agent : Agent)
  | exchangeTimeout (lane : LaneId) (entry : EntryId) (xchg : Nat) (seq : ChainSeq)
  | reversalAbandoned (lane : LaneId) (seq : Option ChainSeq)
  | deferredDeclined (lane : LaneId) (xchg amount : Nat) (seq : ChainSeq)
  | logHigh (entries payments : Nat)
  | logEntryAbandoned (details : LogDetails)
  | holdRevoked (port : Port) (low high : Nat) (discarded : Nat)
  | changeSetAbandoned (port : Port) (discarded : Nat)
  | persistFail (source : FailSource) (kind : Option WriteKind) (subject : Option FailSubject)
  | restarted (kind : StartKind) (count : Nat)
deriving DecidableEq, Repr

/-- The kind of an event (11.1). -/
def EventDetails.kind : EventDetails → EventKind
  | .chainDown _ => .chainDown
  | .chainUp _ => .chainUp
  | .counterWarn _ _ => .counterWarn
  | .laneExhausted _ _ => .laneExhausted
  | .laneSuspended _ _ => .laneSuspended
  | .laneFaulted _ _ => .laneFaulted
  | .slotFaulted _ _ => .slotFaulted
  | .scrubCorrected _ _ _ => .scrubCorrected
  | .scrubHard _ _ _ => .scrubHard
  | .exchangeTimeout _ _ _ _ => .exchangeTimeout
  | .reversalAbandoned _ _ => .reversalAbandoned
  | .deferredDeclined _ _ _ _ => .deferredDeclined
  | .logHigh _ _ => .logHigh
  | .logEntryAbandoned _ => .logEntryAbandoned
  | .holdRevoked _ _ _ _ => .holdRevoked
  | .changeSetAbandoned _ _ => .changeSetAbandoned
  | .persistFail _ _ _ => .persistFail
  | .restarted _ _ => .restarted

/-- The latch and the count of one event kind (R173). -/
structure EventLatch where
  latched : Bool
  count : Nat
deriving DecidableEq, Repr

/-! ## The settings block and the Stand-In Table -/

structure NoticeSetting where
  enabled : Bool
  destination : Destination
deriving DecidableEq, Repr

/-- The settings block: every field a SETTINGS entry carries (R138). Times in the units of R138 and R145:
seconds, but the scrub step interval in milliseconds. -/
structure SettingsBlock where
  sStation : Mac
  cStation : Mac
  bridging : Bool
  warnMargin : Nat
  reversalTimeout : Nat
  probeInterval : Nat
  missLimit : Nat
  reassemblyLimit : Nat
  scrubInterval : Nat
  holdLimit : Nat
  idleLimit : Nat
  notices : Vector NoticeSetting 18
deriving DecidableEq, Repr

/-- The station address of a port (1.1). -/
def SettingsBlock.station (b : SettingsBlock) : Port → Mac
  | .s => b.sStation
  | .c => b.cStation

/-- One card class of the Stand-In Table (R118). The answer timeout is in seconds. -/
structure ClassRecord where
  allowed : Bool
  low : Nat
  high : Nat
  laneCap : Nat
  answerTimeout : Nat
deriving DecidableEq, Repr

/-! ## Key slots -/

/-- A key slot's record (R39). The reference count is computed from the lanes (`State.refCount`). -/
structure SlotRecord where
  state : SlotState
  usage : Option SlotUsage
  generation : Nat
  check : Option CheckValue
  key : Option Key
  bound : List TerminalId
deriving DecidableEq, Repr

/-! ## Lanes -/

/-- A lane record's persistent fields (2.1.2). -/
structure LaneConfig where
  state : LaneState
  till : Option Nat
  identity : Option TerminalId
  station : Option Mac
  frozen : Bool
  link : Option SlotId
  base : Option SlotId
  baseGen : Option Nat
  classes : BitVec 10
  ceiling : Nat
deriving DecidableEq, Repr

/-- Where a recent list item's payment stands (R27). -/
inductive RecentPlace where
  | exchange (entry : EntryId)
  | log (place : PlaceId)
  | done (outcome : AnswerOutcome)
  | reversed
deriving DecidableEq, Repr

structure RecentItem where
  xchg : Nat
  seq : ChainSeq
  place : RecentPlace
deriving DecidableEq, Repr

/-- A lane's counters (R36). `refusals` holds the thirteen of `TillReason.index`. -/
structure LaneCounters where
  live : Nat
  deferred : Nat
  answers : Nat
  timeouts : Nat
  reversals : Nat
  refusals : Vector Nat 13
deriving DecidableEq, Repr

/-- A lane record (R15, R16). The log count and the job-in-flight flag are computed (`State.logCount`,
`State.jobInFlight`). -/
structure LaneRecord where
  config : LaneConfig
  counter : Nat
  mailbox : Option LaneFrame
  openPayment : Option EntryId
  tagFailures : Nat
  lastAccepted : Option Nat
  recent : List RecentItem
  advancePending : Bool
  counters : LaneCounters
  /-- The record the lane was last committed with, where the writing of its group has failed: the model's own (R34,
  R180; log 23). -/
  lostCommit : Option LaneConfig
deriving DecidableEq, Repr

/-! ## Exchanges -/

/-- An exchange entry in use (R79). -/
structure Exchange where
  kind : ExchangeKind
  state : ExchangeState
  lane : LaneId
  xchg : Nat
  seq : ChainSeq
  orig : Option ChainSeq
  cause : Option ReversalCause
  base : SlotId
  gen : Nat
  counter : Nat
  cardClass : Option CardClass
  /-- A time on the part's clock, in milliseconds. -/
  deadline : Nat
  repeatDue : Bool
  logRef : Option PlaceId
  /-- The model's own: which allocation this is (log 18). -/
  stamp : Nat
deriving DecidableEq, Repr

/-! ## The Deferred Log -/

/-- A Deferred Log entry (R122). -/
structure LogEntry where
  place : PlaceId
  lane : LaneId
  kind : LogKind
  state : LogState
  written : Bool
  seq : ChainSeq
  orig : Option ChainSeq
  cause : Option ReversalCause
  counter : Nat
  base : SlotId
  gen : Nat
  cardClass : Option CardClass
  amount : Option Nat
  xchg : Nat
  repeatCount : Nat
  message : Envelope
  /-- The entry's position in the order of reservation, kept across starts (R122, R134; log 18). -/
  serial : Nat
  /-- The model's own: the entry has been sent before (R36; log 19). -/
  sentBefore : Bool
deriving DecidableEq, Repr

/-! ## The engine's job -/

/-- A copy of a key with the slot and generation it came from (R64). -/
structure LoadedKey where
  slot : SlotId
  gen : Nat
  key : Key
deriving DecidableEq, Repr

/-- What a lane job does, with the base key copy where it loads one (R58). -/
inductive LaneWork where
  | pay (base : LoadedKey)
  | payTest
  | reverse (base : LoadedKey)
  | enrol
  | askState
deriving DecidableEq, Repr

/-- The job in flight (R57, R58). -/
inductive Job where
  | lane (lane : LaneId) (frame : LaneFrame) (link : LoadedKey) (work : LaneWork)
  /-- `found` is the entry found at the grant with its stamp; `lane` is that entry's lane. -/
  | answer (env : Envelope) (found : Option (EntryId × Nat)) (lane : Option LaneId)
      (base : Option LoadedKey) (link : Option LoadedKey)
  | reversal (entry : EntryId) (lane : LaneId) (base : Option LoadedKey)
  | repetition (entry : EntryId) (lane : LaneId) (base : Option LoadedKey)
deriving DecidableEq, Repr

/-- The Wrap Engine and its arbiter (R57, R63, R65). IDLE is `job = none`. -/
structure Engine where
  job : Option Job
  lastServed : LaneId
  running : Nat
deriving DecidableEq, Repr

/-! ## The chain side -/

/-- A held first segment (R109): its fields, the body length it names, and when its limit is reached. -/
structure HeldSegment where
  env : Envelope
  bodyLength : Nat
  limit : Nat
deriving DecidableEq, Repr

/-- The Chain Link Monitor (6.6). -/
structure Monitor where
  state : LinkState
  missed : Nat
  /-- The probe timer: its expiry, or none when it is stopped. -/
  timer : Option Nat
  lastProbe : ChainSeq
  lastEcho : ChainSeq
deriving DecidableEq, Repr

/-! ## Change sets, holds and control state -/

/-- The record of a staged LANE entry (R138). Slots are the bytes staged, 0 for absent. -/
structure StagedLane where
  till : Nat
  identity : TerminalId
  station : Option Mac
  frozen : Bool
  link : Nat
  base : Nat
  classes : BitVec 16
deriving DecidableEq, Repr

/-- The record of a staged entry, by table (R138). A WRITE holds the unwrapped key (R47). -/
inductive StagedRecord where
  | lane (r : StagedLane)
  | slotWrite (usage : SlotUsage) (key : Key) (check : CheckValue)
  | slotErase
  | standIn (r : ClassRecord)
  | settings (b : SettingsBlock)
deriving DecidableEq, Repr

/-- The table a staged record is of. -/
def StagedRecord.table : StagedRecord → StageTable
  | .lane _ => .lane
  | .slotWrite _ _ _ => .slot
  | .slotErase => .slot
  | .standIn _ => .standIn
  | .settings _ => .settings

structure StagedEntry where
  index : Nat
  record : StagedRecord
deriving DecidableEq, Repr

/-- A port's change set (R137). It is OPEN exactly while it holds an entry. -/
structure ChangeSet where
  entries : List StagedEntry
  /-- The most recent index accepted per table. -/
  lastLane : Option Nat
  lastSlot : Option Nat
  lastStandIn : Option Nat
  lastSettings : Option Nat
  /-- The idle timer: its expiry, or none when it is stopped. -/
  idle : Option Nat
deriving DecidableEq, Repr

/-- A hold's range, the control number of the HOLD that made it and that frame's source (R148, R168). -/
structure HoldRequest where
  low : Nat
  high : Nat
  number : ControlNumber
  source : Mac
deriving DecidableEq, Repr

/-- A port's hold (R148). -/
inductive Hold where
  | none
  | pending (r : HoldRequest)
  | granted (r : HoldRequest) (limit : Nat)
deriving DecidableEq, Repr

/-- How far the reply to an accepted RESTART has come (R170; log 37). -/
inductive RestartReply where
  | none
  | waiting
  | left
deriving DecidableEq, Repr

/-- What the Control Responder and the Event Unit hold per port (chapter 10, R174). -/
structure ControlState where
  lastNumber : Nat
  noticeAddress : Option Mac
  changeSet : ChangeSet
  hold : Hold
  restart : RestartReply
deriving DecidableEq, Repr

/-! ## Scrubbing -/

/-- One entry of the fault map (R155). -/
structure FaultEntry where
  soft : Nat
  hard : Bool
  uncorrectable : Bool
  syndrome : Option Syndrome
deriving DecidableEq, Repr

/-- The finding a LOCKED fault capture holds (R159). -/
structure Finding where
  pos : Position
  kind : FindingKind
  syndrome : Option Syndrome
  agent : Agent
  seconds : Nat
deriving DecidableEq, Repr

/-- The Store Scrubber (chapter 9). -/
structure Scrubber where
  walk : Position
  /-- When the next scrub step is due, in milliseconds. -/
  nextStep : Nat
  map : Vector FaultEntry 145
  suppress : List (Position × Syndrome)
  capture : Option Finding
  missed : Nat
deriving DecidableEq, Repr

/-! ## Counters -/

/-- A port's counters (R5). -/
structure PortCounters where
  framesIn : Nat
  framesOut : Nat
  bridged : Nat
  noCarrier : Nat
  fullOrder : Nat
  malformed : Nat
  tagFailures : Nat
deriving DecidableEq, Repr

/-- The device counters (R176). -/
structure DeviceCounters where
  late : Nat
  unmatched : Nat
  overflows : Nat
  reassemblyDrops : Nat
  missedCaptures : Nat
  droppedStarting : Nat
deriving DecidableEq, Repr

/-! ## Control replies -/

/-- The status of a control reply (R164). -/
inductive ReplyStatus where
  | done
  | pending
  | granted
  | refused (reason : ControlReason)
deriving DecidableEq, Repr

/-- A lane as ASK of LANE returns it (R166). -/
structure LaneSnapshot where
  config : LaneConfig
  counter : Nat
  openPayment : Option EntryId
  tagFailures : Nat
  lastAccepted : Option Nat
  recent : List RecentItem
  logCount : Nat
  jobInFlight : Bool
  advancePending : Bool
  mailbox : Option (LaneKind × Nat)
deriving DecidableEq, Repr

/-- A slot as ASK of SLOT returns it (R39): no key. -/
structure SlotSnapshot where
  state : SlotState
  usage : Option SlotUsage
  generation : Nat
  check : Option CheckValue
  refCount : Nat
  boundCount : Nat
deriving DecidableEq, Repr

/-- A log entry as ASK of LOG returns it (R135): the message's length, not the message. -/
structure LogSnapshot where
  place : PlaceId
  lane : LaneId
  kind : LogKind
  state : LogState
  written : Bool
  seq : ChainSeq
  orig : Option ChainSeq
  cause : Option ReversalCause
  counter : Nat
  base : SlotId
  gen : Nat
  cardClass : Option CardClass
  amount : Option Nat
  xchg : Nat
  repeatCount : Nat
  messageLength : Nat
deriving DecidableEq, Repr

/-- One item of an ASK reply, by table (R166). -/
inductive AskItem where
  | lane (s : LaneSnapshot)
  | slot (s : SlotSnapshot)
  /-- An entry with the milliseconds remaining until its deadline (R101), or free. -/
  | exchange (e : Option (Exchange × Nat))
  | log (s : LogSnapshot)
  | standIn (r : ClassRecord)
  | settings (b : SettingsBlock)
  | portCounters (c : PortCounters)
  | deviceCounters (c : DeviceCounters)
  | laneCounters (c : LaneCounters)
  | fault (e : FaultEntry)
  | event (l : EventLatch) (n : NoticeSetting)
deriving DecidableEq, Repr

/-- What an ASK reply carries after its items (R101, R135, R160). -/
inductive AskTotals where
  | none
  | exchange (free : Nat)
  | log (entries payments sent free : Nat)
  | faults (capture : Option Finding) (missed : Nat) (suppress : List (Position × Syndrome)) (walk : Position)
deriving DecidableEq, Repr

/-- The data of a control reply (13.3.2). -/
inductive ReplyData where
  | none
  | ask (items : List AskItem) (totals : AskTotals)
  | staged (index count : Nat)
  | applied (count : Nat)
  | failed (table : StageTable) (index position : Nat)
  /-- Of a COMMIT refused for no entry: every field absent. -/
  | noEntry
  /-- Of a HOLD refused without a hold to tell of: every field absent. -/
  | noHold
  | hold (granted : Bool) (low high : Nat)
deriving DecidableEq, Repr

/-- A control reply (R164). -/
structure ReplyFrame where
  dst : Mac
  src : Mac
  number : ControlNumber
  /-- The request as the frame gave it. -/
  request : Byte
  status : ReplyStatus
  data : ReplyData
  tag : Tag
deriving DecidableEq, Repr

/-- A notice frame (R174). -/
structure NoticeFrame where
  dst : Mac
  src : Mac
  details : EventDetails
  count : Nat
  seconds : Nat
  tag : Tag
deriving DecidableEq, Repr

/-- A frame in a port's transmit order (R4, R106). -/
inductive OutFrame where
  | till (f : TillFrame)
  /-- `restart` marks the reply whose leaving begins a warm start (R170). -/
  | reply (f : ReplyFrame) (restart : Bool)
  | notice (f : NoticeFrame)
  | bridged (f : EthFrame)
deriving DecidableEq, Repr

/-- A port (1.1, R4, R106). -/
structure PortState where
  carrier : Bool
  order : List OutFrame
  /-- The holder whose frame the port is transmitting now. -/
  transmitting : Option Holder
  lastTaken : Holder
  /-- Until when the link partner asks the port to hold back (R106). -/
  pausedUntil : Nat
  counters : PortCounters
deriving DecidableEq, Repr

/-! ## Persistence -/

/-- A record in two alternate copies (R178); a copy that does not check good is none. -/
structure Stored (α : Type) where
  present : Option α
  alternate : Option α
deriving DecidableEq, Repr

/-- A ceiling record (R178). -/
structure CeilingRecord where
  base : Option SlotId
  gen : Option Nat
  ceiling : Nat
deriving DecidableEq, Repr

/-- A commit group (R180): the persistent copy of every record a COMMIT changed. -/
structure CommitGroup where
  settings : Option SettingsBlock
  slots : List (SlotId × SlotRecord)
  lanes : List (LaneId × LaneConfig)
  classes : List (CardClass × ClassRecord)
deriving DecidableEq, Repr

/-- The REVERSAL-TAKEN that follows a till's cancel (R132): the lane and the REVERSE's exchange number. -/
structure CancelReply where
  lane : LaneId
  xchg : Nat
deriving DecidableEq, Repr

/-- One write of the Persist Queue (R178, R179). -/
inductive Write where
  | group (g : CommitGroup)
  /-- `stale` marks a write that R53 has made stale. -/
  | ceiling (lane : LaneId) (base : Option SlotId) (gen : Option Nat) (target : Nat) (stale : Bool)
  | laneState (lane : LaneId) (state : LaneState)
  | slotState (slot : SlotId) (record : SlotRecord)
  /-- `src` and `till` are those of the PAY's frame, for the refusal of R125 (log 27). -/
  | append (entry : LogEntry) (src : Option Mac) (till : Nat)
  | update (entry : LogEntry)
  | removal (place : PlaceId) (serial : Nat) (cancel : Option CancelReply)
  | epoch (n : Nat)
deriving DecidableEq, Repr

/-- The Persist Queue (R179): the write being written, and those waiting, first to be written first. -/
structure PersistQueue where
  current : Option Write
  waiting : List Write
  /-- The whole lane record that the lane-state write being written writes (R178): its state and causes, and every
  other field as the record's present contents stood when the write began; none for any other write. -/
  image : Option LaneConfig
deriving DecidableEq, Repr

/-- The Persistent Store (R178). `log` lists the places that are not as the factory left them, in rising
order. -/
structure PersistentStore where
  settings : Stored SettingsBlock
  slots : Vector (Stored SlotRecord) 96
  lanes : Vector (Stored LaneConfig) 48
  ceilings : Vector (Stored (Option CeilingRecord)) 48
  standIn : Vector (Stored ClassRecord) 10
  log : List (PlaceId × Stored (Option LogEntry))
  epoch : Stored Nat
deriving DecidableEq, Repr

/-- STARTING or SERVING (12.3). -/
inductive Phase where
  | starting
  | serving
deriving DecidableEq, Repr

/-! ## The whole state -/

/-- The state of the part. -/
structure State where
  phase : Phase
  startKind : StartKind
  startCount : Nat
  /-- The part's clock in milliseconds (log 5). -/
  clock : Nat
  /-- The clock at the last entry into SERVING (R185). -/
  servingSince : Nat
  epoch : Nat
  settings : SettingsBlock
  standIn : Vector ClassRecord 10
  slots : Vector SlotRecord 96
  lanes : Vector LaneRecord 48
  exchanges : Vector (Option Exchange) 160
  engine : Engine
  sendQueue : List Envelope
  reassembly : Vector (Option HeldSegment) 4
  answerQueue : List Envelope
  monitor : Monitor
  /-- The Deferred Log in its order, oldest first (R122). -/
  log : List LogEntry
  scrub : Scrubber
  /-- The model's own: the bits now wrong in the working copies (log 10). -/
  upsets : List (Position × Upset)
  events : Vector EventLatch 18
  device : DeviceCounters
  ports : PerPort PortState
  control : PerPort ControlState
  store : PersistentStore
  persist : PersistQueue
  /-- The model's own: the next allocation stamp (log 18). -/
  nextStamp : Nat
  /-- The model's own: the next log position (log 18). -/
  nextSerial : Nat
  /-- The model's own: how many free values have been drawn (log 24). -/
  freeCount : Nat
  /-- The model's own: the frames transmitted so far, oldest first, as bytes (log 38). -/
  wire : List (Port × Bytes)
  /-- The commands that are waiting, first in, first out. -/
  pending : List Instr
deriving DecidableEq, Repr

/-! ## Outcomes -/

/-- Reasons a step could stop with a fault. There is none: the manual describes nothing that stops the part, and
every error is an effect on the state (log 46). -/
inductive Fault where
deriving DecidableEq, Repr

/-- Reasons a step could be refused. -/
inductive Refusal where
  /-- Raised by `exec` for a command that has no meaning yet (none is left). Safe: the machine stops. -/
  | notModelled (mnemonic : String)
deriving DecidableEq, Repr

abbrev StepOutcome := Host.Outcome State Fault Refusal

/-! ## Factory values -/

/-- The factory notice settings (11.1). -/
def factoryNotices : Vector NoticeSetting 18 :=
  #v[⟨true, .both⟩, ⟨true, .both⟩, ⟨true, .chain⟩, ⟨true, .both⟩, ⟨true, .shop⟩, ⟨true, .both⟩,
     ⟨true, .both⟩, ⟨false, .shop⟩, ⟨true, .both⟩, ⟨true, .shop⟩, ⟨true, .both⟩, ⟨true, .chain⟩,
     ⟨true, .both⟩, ⟨true, .both⟩, ⟨true, .both⟩, ⟨true, .both⟩, ⟨true, .both⟩, ⟨true, .both⟩]

/-- The factory settings block (R157): the default each chapter gives. -/
def factorySettings : SettingsBlock where
  sStation := Config.factoryStation .s
  cStation := Config.factoryStation .c
  bridging := true
  warnMargin := 65536
  reversalTimeout := 20
  probeInterval := 5
  missLimit := 3
  reassemblyLimit := 2
  scrubInterval := 20
  holdLimit := 60
  idleLimit := 120
  notices := factoryNotices

/-- The factory Stand-In record (R118). -/
def factoryClass : ClassRecord := ⟨false, 0, 0, 0, 30⟩

/-- An EMPTY slot as the factory leaves it (R39). -/
def emptySlot : SlotRecord := ⟨.empty, none, 0, none, none, []⟩

/-- A control slot as the factory leaves it (R39). -/
def factoryControlSlot (p : Port) : SlotRecord :=
  ⟨.active, some .control, 0, some (Config.checkValue (Config.factoryControlKey p)),
    some (Config.factoryControlKey p), []⟩

/-- The 96 slots as the factory leaves them (R39). -/
def factorySlots : Vector SlotRecord 96 :=
  ((Vector.replicate 96 emptySlot).set 0 (factoryControlSlot .s)).set 1 (factoryControlSlot .c)

/-- A lane record as the factory leaves it (2.1.2). -/
def factoryLaneConfig : LaneConfig :=
  ⟨.unused, none, none, none, false, none, none, none, 0, 1⟩

/-- Lane counters at 0 (R36). -/
def zeroLaneCounters : LaneCounters := ⟨0, 0, 0, 0, 0, Vector.replicate 13 0⟩

/-- A lane's working record with given persistent fields right after a start (R37). -/
def LaneConfig.started (c : LaneConfig) (counters : LaneCounters) : LaneRecord :=
  ⟨c, c.ceiling, none, none, 0, none, [], false, counters, none⟩

/-- Port counters at 0 (R5). -/
def zeroPortCounters : PortCounters := ⟨0, 0, 0, 0, 0, 0, 0⟩

/-- Device counters at 0 (R176). -/
def zeroDeviceCounters : DeviceCounters := ⟨0, 0, 0, 0, 0, 0⟩

/-- A fault map entry with nothing recorded (R161). -/
def clearFaultEntry : FaultEntry := ⟨0, false, false, none⟩

/-- An event kind with nothing recorded (R173). -/
def clearLatch : EventLatch := ⟨false, 0⟩

/-- An EMPTY change set (R137). -/
def emptyChangeSet : ChangeSet := ⟨[], none, none, none, none, none⟩

/-- A record both of whose copies hold one value. -/
def Stored.both {α : Type} (a : α) : Stored α := ⟨some a, some a⟩

/-- The Persistent Store as the factory leaves it (R178). -/
def factoryStore : PersistentStore where
  settings := .both factorySettings
  slots := factorySlots.map .both
  lanes := Vector.replicate 48 (.both factoryLaneConfig)
  ceilings := Vector.replicate 48 (.both none)
  standIn := Vector.replicate 10 (.both factoryClass)
  log := []
  epoch := .both 0

/-- A port at reset: without carrier, nothing waiting (log 4, log 12). -/
def resetPort : PortState := ⟨false, [], none, .order, 0, zeroPortCounters⟩

/-- A port's control state at reset (R171, R174). -/
def resetControl : ControlState := ⟨0, none, emptyChangeSet, .none, .none⟩

/-- The machine right after reset: a factory part to which power has just been applied (R182 to R184). It is
STARTING, and the write of epoch 1 is being written. Values the manual does not give are those of log 4. -/
def State.reset : State where
  phase := .starting
  startKind := .cold
  startCount := 0
  clock := 0
  servingSince := 0
  epoch := 1
  settings := factorySettings
  standIn := Vector.replicate 10 factoryClass
  slots := factorySlots
  lanes := Vector.replicate 48 (factoryLaneConfig.started zeroLaneCounters)
  exchanges := Vector.replicate 160 none
  engine := ⟨none, 47, 0⟩
  sendQueue := []
  reassembly := Vector.replicate 4 none
  answerQueue := []
  monitor := ⟨.down, 3, none, 0, 0⟩
  log := []
  scrub := ⟨0, 0, Vector.replicate 145 clearFaultEntry, [], none, 0⟩
  upsets := []
  events := Vector.replicate 18 clearLatch
  device := zeroDeviceCounters
  ports := ⟨resetPort, resetPort⟩
  control := ⟨resetControl, resetControl⟩
  store := { factoryStore with epoch := ⟨some 0, none⟩ }
  persist := ⟨some (.epoch 1), [], none⟩
  nextStamp := 0
  nextSerial := 0
  freeCount := 0
  wire := []
  pending := []

end Sys2Proof.Machine
end

