-- ==== Sys2Proof/Machine/Layout.lean ====
section
/-! DEFINITION. The frames the part forms (R186, chapter 13): code values, the fields each tag covers, and each
frame as bytes. Widths that the layouts leave open, in ASK items and notice details, are those of log 28. -/

namespace Sys2Proof

/-! ## Codes -/

/-- Lane frame kinds, till to part (13.1.3). -/
def LaneKind.code : LaneKind → Byte
  | .pay => 1
  | .reverse => 2
  | .enrol => 3
  | .askState => 4

/-- Refusal reasons (13.1.3). -/
def TillReason.code : TillReason → Byte
  | .noLane => 1
  | .identity => 2
  | .laneBusy => 3
  | .duplicate => 4
  | .tag => 5
  | .suspended => 6
  | .exhausted => 7
  | .faulted => 8
  | .chainDown => 9
  | .upstreamFull => 10
  | .draining => 11
  | .noExchange => 12
  | .spent => 13
  | .malformed => 14

/-- Lane states (13.1.3). -/
def LaneState.code : LaneState → Byte
  | .unused => 0
  | .ready => 1
  | .suspended _ => 2
  | .test => 3
  | .exhausted => 4
  | .faulted _ => 5

/-- Chain link states (13.1.3). -/
def LinkState.code : LinkState → Byte
  | .up => 1
  | .suspect => 2
  | .down => 3

/-- Envelope kinds (13.2). -/
def EnvelopeKind.code : EnvelopeKind → Byte
  | .payment => 1
  | .reversal => 2
  | .probe => 3
  | .answer => 17
  | .reversalAck => 18
  | .probeEcho => 19

/-- Origins (13.2). -/
def Origin.code : Origin → Byte
  | .live => 1
  | .deferred => 2
  | .repeated => 3

/-- Outcomes (13.2). -/
def AnswerOutcome.code : AnswerOutcome → Byte
  | .approved => 1
  | .declined => 2
  | .referred => 3

/-- Reversal causes (13.2). -/
def ReversalCause.code : ReversalCause → Byte
  | .timeout => 1
  | .till => 2

/-- Slot usages (13.3.1). -/
def SlotUsage.code : SlotUsage → Byte
  | .control => 1
  | .link => 2
  | .base => 3
  | .test => 4

/-- Tables (13.3.1). -/
def StageTable.code : StageTable → Byte
  | .lane => 1
  | .slot => 2
  | .standIn => 3
  | .settings => 4

/-- Notice destinations (13.3.1). -/
def Destination.code : Destination → Byte
  | .shop => 1
  | .chain => 2
  | .both => 3

/-- Control refusal reasons (13.3.2). -/
def ControlReason.code : ControlReason → Byte
  | .tag => 1
  | .stale => 2
  | .malformed => 3
  | .full => 4
  | .empty => 5
  | .notHeld => 6
  | .holdExists => 7
  | .conflict => 8
  | .checkValue => 9
  | .inUse => 10
  | .badReference => 11
  | .notAllowed => 12
  | .state => 13

/-- Event kinds are numbered 0..17 (11.1). -/
def EventKind.number : EventKind → EventNumber
  | .chainDown => 0
  | .chainUp => 1
  | .counterWarn => 2
  | .laneExhausted => 3
  | .laneSuspended => 4
  | .laneFaulted => 5
  | .slotFaulted => 6
  | .scrubCorrected => 7
  | .scrubHard => 8
  | .exchangeTimeout => 9
  | .reversalAbandoned => 10
  | .deferredDeclined => 11
  | .logHigh => 12
  | .logEntryAbandoned => 13
  | .holdRevoked => 14
  | .changeSetAbandoned => 15
  | .persistFail => 16
  | .restarted => 17

/-- The suspend cause of a lane state. -/
def LaneState.suspendCause : LaneState → Option SuspendCause
  | .suspended c => some c
  | _ => none

/-- The fault cause of a lane state. -/
def LaneState.faultCause : LaneState → Option FaultCause
  | .faulted c => some c
  | _ => none

end Sys2Proof

namespace Sys2Proof.Machine

/-- Reply statuses (13.3.2). -/
def ReplyStatus.code : ReplyStatus → Byte
  | .done => 1
  | .pending => 2
  | .granted => 3
  | .refused _ => 4

/-- The reason byte of a reply, 0 where there is none (R186). -/
def ReplyStatus.reasonCode : ReplyStatus → Byte
  | .refused r => r.code
  | _ => 0

/-- The request code HOLD (13.3.1), which a GRANTED reply carries (R168). -/
def holdRequestCode : Byte := 5

/-! ## Frames to the tills (13.1.2) -/

/-- The kind code of a frame to the tills (13.1.3). -/
def TillContent.kindCode : TillContent → Byte
  | .answer _ => 16
  | .deferred => 17
  | .refused _ => 18
  | .timedOut => 19
  | .reversalTaken => 20
  | .state _ _ => 21
  | .testEcho _ => 22
  | .chainState _ => 23
  | .restart => 24

/-- The body of a frame to the tills, in clear (13.1.2). -/
def TillContent.clearBody : TillContent → Bytes
  | .answer b => b
  | .refused r => [r.code]
  | .state l k => [l.code, k.code]
  | .testEcho b => b
  | .chainState k => [k.code]
  | .deferred => []
  | .timedOut => []
  | .reversalTaken => []
  | .restart => []

/-- What an untagged frame of this content carries: an ANSWER goes with an empty body (R75, 13.1.2). -/
def TillContent.untagged : TillContent → TillContent
  | .answer _ => .answer []
  | c => c

/-- The fields a lane tag covers (R49): till number, till exchange number, kind, reverse target where present,
body length and encrypted body. -/
def laneTagInput (till xchg : Nat) (kind : Byte) (target : Option Nat) (body : Bytes) : Bytes :=
  beBytes 2 till ++ beBytes 2 xchg ++ [kind] ++ (target.map (beBytes 2)).getD [] ++
    beBytes 2 body.length ++ body

/-- The lane tag of a frame a till sends (R49, direction TILL). -/
def LaneFrame.expectedTag (f : LaneFrame) (k : Key) : Tag :=
  Config.tag k .till (laneTagInput f.till f.xchg f.kind.code f.target f.body)

/-- The payload of a frame to the tills (13.1.2). -/
def TillFrame.payload (f : TillFrame) : Bytes :=
  beBytes 2 f.till ++ beBytes 2 f.xchg ++ [f.content.kindCode, flagByte f.tag.isSome] ++
    beBytes 2 f.body.length ++ f.body ++ (f.tag.map (fun t => beBytes 8 t.toNat)).getD []

/-! ## Envelopes (13.2) -/

/-- The fields an envelope's tag covers, in their places (R48, 13.2): all but the segment fields and the tag. -/
def Envelope.tagInput (kind : EnvelopeKind) (identity : TerminalId) (seq orig : ChainSeq) (counter : Nat)
    (origin : Origin) (body : Bytes) : Bytes :=
  [kind.code] ++ beBytes 8 identity.toNat ++ beBytes 4 seq.toNat ++ beBytes 4 orig.toNat ++
    beBytes 4 counter ++ [origin.code] ++ beBytes 2 body.length ++ body

/-- The fields this envelope's tag covers. -/
def Envelope.covered (e : Envelope) : Bytes :=
  Envelope.tagInput e.kind e.identity e.seq e.orig e.counter e.origin e.body

/-- How many frames carry an envelope: two when its body is above 1,216 bytes (R108). -/
def Envelope.frames (e : Envelope) : Nat := if Config.segmentMax < e.body.length then 2 else 1

/-- The payload of one segment of an envelope (13.2, R108). -/
def Envelope.segment (e : Envelope) (index count : Nat) (part : Bytes) : Bytes :=
  [e.kind.code] ++ beBytes 8 e.identity.toNat ++ beBytes 4 e.seq.toNat ++ beBytes 4 e.orig.toNat ++
    beBytes 4 e.counter ++ [e.origin.code, BitVec.ofNat 8 index, BitVec.ofNat 8 count] ++
    beBytes 2 e.body.length ++ part ++ beBytes 8 e.tag.toNat

/-- The payloads an envelope is transmitted as (R108). -/
def Envelope.payloads (e : Envelope) : List Bytes :=
  if Config.segmentMax < e.body.length then
    [e.segment 1 2 (e.body.take Config.segmentMax), e.segment 2 2 (e.body.drop Config.segmentMax)]
  else [e.segment 1 1 e.body]

/-- The length of the wrapped message a log entry holds (13.2): 32 bytes more than its body. -/
def Envelope.messageLength (e : Envelope) : Nat := 32 + e.body.length

/-- The clear body of a reversal (R92, 13.2): cause, then till exchange number. -/
def reversalBody (cause : ReversalCause) (xchg : Nat) : Bytes := cause.code :: beBytes 2 xchg

/-! ## Control replies (13.3.2) -/

/-- An optional number in `k` bytes, 0 when absent (R186). -/
def optBytes (k : Nat) (n : Option Nat) : Bytes := beBytes k (n.getD 0)

/-- A code of its own enumeration, or 0 when absent (R186). -/
def optCode (c : Option UnlistedCode) : Byte := (c.map Config.unlistedCode).getD 0

/-- A recent list item: number, sequence, place and the index or outcome of the place, in 2 bytes whichever it is (R166;
log 28). -/
def RecentItem.bytes (i : RecentItem) : Bytes :=
  beBytes 2 i.xchg ++ beBytes 4 i.seq.toNat ++
    (match i.place with
     | .exchange e => Config.unlistedCode (.recentPlace .exchange) :: beBytes 2 e.val
     | .log p => Config.unlistedCode (.recentPlace .log) :: beBytes 2 p.val
     | .done o => Config.unlistedCode (.recentPlace .done) :: beBytes 2 o.code.toNat
     | .reversed => Config.unlistedCode (.recentPlace .reversed) :: beBytes 2 0)

/-- The persistent fields of a lane, in the order of 2.1.2. -/
def LaneConfig.bytes (c : LaneConfig) : Bytes :=
  [c.state.code] ++ optBytes 2 c.till ++ optBytes 8 (c.identity.map BitVec.toNat) ++
    optBytes 6 (c.station.map BitVec.toNat) ++ [flagByte c.frozen] ++
    optBytes 1 (c.link.map Fin.val) ++ optBytes 1 (c.base.map Fin.val) ++ optBytes 2 c.baseGen ++
    beBytes 2 c.classes.toNat ++ beBytes 4 c.ceiling ++
    [optCode (c.state.suspendCause.map .suspendCause), optCode (c.state.faultCause.map .faultCause)]

/-- The settings block in the form of a SETTINGS entry (13.3.1). -/
def SettingsBlock.bytes (b : SettingsBlock) : Bytes :=
  macBytes b.sStation ++ macBytes b.cStation ++ [flagByte b.bridging] ++ beBytes 4 b.warnMargin ++
    beBytes 1 b.reversalTimeout ++ beBytes 2 b.probeInterval ++ beBytes 1 b.missLimit ++
    beBytes 1 b.reassemblyLimit ++ beBytes 2 b.scrubInterval ++ beBytes 2 b.holdLimit ++
    beBytes 2 b.idleLimit ++ b.notices.toList.flatMap (fun n => [flagByte n.enabled, n.destination.code])

/-- A class record in the form of a STANDIN entry (13.3.1). -/
def ClassRecord.bytes (r : ClassRecord) : Bytes :=
  [flagByte r.allowed] ++ beBytes 4 r.low ++ beBytes 4 r.high ++ beBytes 2 r.laneCap ++
    beBytes 1 r.answerTimeout

/-- An exchange entry's fields in the order of R79, the deadline as milliseconds remaining (R101). -/
def Exchange.bytes (e : Exchange) (remaining : Nat) : Bytes :=
  [Config.unlistedCode (.exchangeKind e.kind), Config.unlistedCode (.exchangeState e.state)] ++
    beBytes 1 e.lane.val ++ beBytes 2 e.xchg ++ beBytes 4 e.seq.toNat ++
    optBytes 4 (e.orig.map BitVec.toNat) ++ optBytes 1 (e.cause.map (fun c => c.code.toNat)) ++
    beBytes 1 e.base.val ++ beBytes 2 e.gen ++ beBytes 4 e.counter ++
    optBytes 1 (e.cardClass.map Fin.val) ++ beBytes 4 remaining ++ [flagByte e.repeatDue] ++
    optBytes 2 (e.logRef.map Fin.val)

/-- The fields of one ASK item, in the order R166 names them (widths: log 28). -/
def AskItem.bytes : AskItem → Bytes
  | .lane s =>
    s.config.bytes ++ beBytes 4 s.counter ++ optBytes 1 (s.openPayment.map Fin.val) ++
      beBytes 1 s.tagFailures ++ optBytes 2 s.lastAccepted ++ s.recent.flatMap RecentItem.bytes ++
      beBytes 2 s.logCount ++ [flagByte s.jobInFlight, flagByte s.advancePending] ++
      optBytes 1 (s.mailbox.map (fun m => m.1.code.toNat)) ++ optBytes 2 (s.mailbox.map Prod.snd)
  | .slot s =>
    [Config.unlistedCode (.slotState s.state)] ++ optBytes 1 (s.usage.map (fun u => u.code.toNat)) ++
      beBytes 2 s.generation ++ optBytes 3 (s.check.map BitVec.toNat) ++ beBytes 1 s.refCount ++
      beBytes 1 s.boundCount
  | .exchange none => [Config.unlistedCode (.entryUse false)]
  | .exchange (some (e, remaining)) => Config.unlistedCode (.entryUse true) :: e.bytes remaining
  | .log s =>
    beBytes 2 s.place.val ++ beBytes 1 s.lane.val ++
      [Config.unlistedCode (.logKind s.kind), Config.unlistedCode (.logState s.state), flagByte s.written] ++
      beBytes 4 s.seq.toNat ++ optBytes 4 (s.orig.map BitVec.toNat) ++
      optBytes 1 (s.cause.map (fun c => c.code.toNat)) ++ beBytes 4 s.counter ++ beBytes 1 s.base.val ++
      beBytes 2 s.gen ++ optBytes 1 (s.cardClass.map Fin.val) ++ optBytes 4 s.amount ++ beBytes 2 s.xchg ++
      beBytes 1 s.repeatCount ++ beBytes 2 s.messageLength
  | .standIn r => r.bytes
  | .settings b => b.bytes
  | .portCounters c =>
    [c.framesIn, c.framesOut, c.bridged, c.noCarrier, c.fullOrder, c.malformed, c.tagFailures].flatMap
      (beBytes 4)
  | .deviceCounters c =>
    [c.late, c.unmatched, c.overflows, c.reassemblyDrops, c.missedCaptures, c.droppedStarting].flatMap
      (beBytes 4)
  | .laneCounters c =>
    ([c.live, c.deferred, c.answers, c.timeouts, c.reversals] ++ c.refusals.toList).flatMap (beBytes 4)
  | .fault e =>
    beBytes 1 e.soft ++ [flagByte e.hard, flagByte e.uncorrectable] ++
      optBytes 2 (e.syndrome.map BitVec.toNat)
  | .event l n => [flagByte l.latched] ++ beBytes 1 l.count ++ [flagByte n.enabled, n.destination.code]

/-- The totals of an ASK reply (R101, R135, R160; widths: log 28). -/
def AskTotals.bytes : AskTotals → Bytes
  | .none => []
  | .exchange free => beBytes 2 free
  | .log n p q f => beBytes 2 n ++ beBytes 2 p ++ beBytes 2 q ++ beBytes 2 f
  | .faults capture missed suppress walk =>
    (match capture with
     | .none => [Config.unlistedCode (.captureState false)]
     | some f =>
       [Config.unlistedCode (.captureState true)] ++ beBytes 1 f.pos.val ++
         [Config.unlistedCode (.findingKind f.kind)] ++ optBytes 2 (f.syndrome.map BitVec.toNat) ++
         [Config.unlistedCode (.agent f.agent)] ++ beBytes 4 f.seconds) ++
      beBytes 1 missed ++ suppress.flatMap (fun x => beBytes 1 x.1.val ++ beBytes 2 x.2.toNat) ++
      beBytes 1 suppress.length ++ beBytes 1 walk.val

/-- One item with its length before it (13.3.2). -/
def AskItem.lengthed (i : AskItem) : Bytes := beBytes 2 i.bytes.length ++ i.bytes

/-- The data of a control reply (13.3.2), absent fields as 0 (R186). -/
def ReplyData.bytes : ReplyData → Bytes
  | .none => []
  | .ask items totals => beBytes 1 items.length ++ items.flatMap AskItem.lengthed ++ totals.bytes
  | .staged index count => beBytes 2 index ++ beBytes 1 count
  | .applied count => beBytes 1 count
  | .failed table index position => table.code :: (beBytes 2 index ++ beBytes 1 position)
  | .noEntry => 0 :: (beBytes 2 0 ++ beBytes 1 0)
  | .noHold => 0 :: (beBytes 1 0 ++ beBytes 1 0)
  | .hold granted low high => (if granted then 3 else 2) :: (beBytes 1 low ++ beBytes 1 high)

/-- The fields of a control reply before its tag (13.3.2). -/
def replyFields (number : ControlNumber) (request : Byte) (status : ReplyStatus) (data : ReplyData) : Bytes :=
  [2] ++ beBytes 4 number.toNat ++ [request, status.code, status.reasonCode] ++
    beBytes 2 data.bytes.length ++ data.bytes

/-! ## Notices (13.3.3) -/

/-- The index of a persistent record within its kind (R178). -/
def recordNumber : RecordName → Nat
  | .settings => 0
  | .slot n => n.val
  | .lane n => n.val
  | .ceiling n => n.val
  | .standIn n => n.val
  | .logPlace n => n.val
  | .epoch => 0

/-- The subject of a PERSIST-FAIL as bytes, a number in 2 bytes whatever it numbers (R172; log 28, log 36). -/
def FailSubject.bytes : FailSubject → Bytes
  | .lane n => beBytes 2 n.val
  | .slot n => beBytes 2 n.val
  | .logPlace n => beBytes 2 n.val
  | .tables ts => ts.map StageTable.code
  | .record r => Config.unlistedCode (.recordName r) :: beBytes 2 (recordNumber r)
  | .position n => beBytes 2 n.val

/-- The details of an event in the order R172 lists them (widths: log 28). -/
def EventDetails.bytes : EventDetails → Bytes
  | .chainDown c => [Config.unlistedCode (.downCause c)]
  | .chainUp k => [k.code]
  | .counterWarn l c => beBytes 1 l.val ++ beBytes 4 c
  | .laneExhausted l c => beBytes 1 l.val ++ beBytes 4 c
  | .laneSuspended l c => beBytes 1 l.val ++ [Config.unlistedCode (.suspendCause c)]
  | .laneFaulted l c => beBytes 1 l.val ++ [Config.unlistedCode (.faultCause c)]
  | .slotFaulted n u => beBytes 1 n.val ++ optBytes 1 (u.map (fun x => x.code.toNat))
  | .scrubCorrected p y a => beBytes 1 p.val ++ beBytes 2 y.toNat ++ [Config.unlistedCode (.agent a)]
  | .scrubHard p y a => beBytes 1 p.val ++ beBytes 2 y.toNat ++ [Config.unlistedCode (.agent a)]
  | .exchangeTimeout l e x q => beBytes 1 l.val ++ beBytes 1 e.val ++ beBytes 2 x ++ beBytes 4 q.toNat
  | .reversalAbandoned l q => beBytes 1 l.val ++ optBytes 4 (q.map BitVec.toNat)
  | .deferredDeclined l x a q => beBytes 1 l.val ++ beBytes 2 x ++ beBytes 4 a ++ beBytes 4 q.toNat
  | .logHigh n p => beBytes 2 n ++ beBytes 2 p
  | .logEntryAbandoned d =>
    optBytes 1 (d.lane.map Fin.val) ++ [optCode (d.kind.map .logKind)] ++
      optBytes 4 (d.seq.map BitVec.toNat) ++ optBytes 4 (d.orig.map BitVec.toNat) ++ optBytes 2 d.xchg
  | .holdRevoked p low high n =>
    [Config.unlistedCode (.port p)] ++ beBytes 1 low ++ beBytes 1 high ++ beBytes 1 n
  | .changeSetAbandoned p n => [Config.unlistedCode (.port p)] ++ beBytes 1 n
  | .persistFail source kind subject =>
    [Config.unlistedCode (.failSource source)] ++ (kind.map (fun k => [Config.unlistedCode (.writeKind k)])).getD [] ++
      (subject.map FailSubject.bytes).getD []
  | .restarted k n => [Config.unlistedCode (.startKind k)] ++ beBytes 2 n

/-- The fields of a notice before its tag (13.3.3). -/
def noticeFields (details : EventDetails) (count seconds : Nat) : Bytes :=
  [3] ++ beBytes 1 details.kind.number.val ++ beBytes 1 count ++ beBytes 4 seconds ++
    beBytes 2 details.bytes.length ++ details.bytes

/-- What a control tag covers: every field of the frame after the destination address (R50). -/
def controlTagInput (src : Mac) (fields : Bytes) : Bytes :=
  macBytes src ++ beBytes 2 Config.controlType.toNat ++ fields

/-! ## Whole frames -/

/-- An Ethernet frame without its frame check (chapter 13). -/
def ethernetBytes (dst src : Mac) (etype : BitVec 16) (payload : Bytes) : Bytes :=
  macBytes dst ++ macBytes src ++ beBytes 2 etype.toNat ++ payload

/-- A frame of a transmit order as it is transmitted (R186). -/
def OutFrame.bytes : OutFrame → Bytes
  | .till f => ethernetBytes f.dst f.src Config.laneType f.payload
  | .reply f _ =>
    ethernetBytes f.dst f.src Config.controlType
      (replyFields f.number f.request f.status f.data ++ beBytes 8 f.tag.toNat)
  | .notice f =>
    ethernetBytes f.dst f.src Config.controlType
      (noticeFields f.details f.count f.seconds ++ beBytes 8 f.tag.toNat)
  | .bridged f => ethernetBytes f.dst f.src f.etype f.payload

end Sys2Proof.Machine
end

