-- ==== Sys2Proof/Machine/Ops.lean ====
section
/-! DEFINITION. The shared operations on the tables and the ports: one accessor per table, the counts the manual
derives from them (log count, reference count, free places), and the two ports' transmit orders and the Send Queue
(R4, R106 to R108). -/

namespace Sys2Proof.Machine

/-! ## Reading and writing the tables -/

def State.lane (s : State) (l : LaneId) : LaneRecord := s.lanes[l]

def State.setLane (s : State) (l : LaneId) (r : LaneRecord) : State :=
  { s with lanes := s.lanes.set l r }

/-- Replace a lane record by a function of it. -/
def State.modLane (s : State) (l : LaneId) (f : LaneRecord → LaneRecord) : State :=
  s.setLane l (f (s.lane l))

def State.slot (s : State) (n : SlotId) : SlotRecord := s.slots[n]

def State.setSlot (s : State) (n : SlotId) (r : SlotRecord) : State :=
  { s with slots := s.slots.set n r }

def State.exchange (s : State) (i : EntryId) : Option Exchange := s.exchanges[i]

def State.setExchange (s : State) (i : EntryId) (e : Option Exchange) : State :=
  { s with exchanges := s.exchanges.set i e }

def State.port (s : State) (p : Port) : PortState := s.ports.at p

def State.setPort (s : State) (p : Port) (x : PortState) : State := { s with ports := s.ports.put p x }

/-- Change one port's counters. -/
def State.countPort (s : State) (p : Port) (f : PortCounters → PortCounters) : State :=
  s.setPort p { s.port p with counters := f (s.port p).counters }

def State.ctl (s : State) (p : Port) : ControlState := s.control.at p

def State.setCtl (s : State) (p : Port) (x : ControlState) : State := { s with control := s.control.put p x }

/-- A change set with nothing staged and its timer stopped (R137). -/
def State.emptySet (s : State) (p : Port) : State := s.setCtl p { s.ctl p with changeSet := emptyChangeSet }

/-- Every lane in ascending order. -/
def allLanes : List LaneId := List.finRange 48

/-- The fault map position of a slot (9.1). -/
def slotPosition (n : SlotId) : Position := ⟨n.val, by omega⟩

/-- The fault map position of a lane record (9.1). -/
def lanePosition (l : LaneId) : Position := ⟨96 + l.val, by omega⟩

/-- The fault map position of the settings block (9.1). -/
def settingsPosition : Position := 144

/-! ## Counts the manual derives -/

/-- A lane's log count (R16): the log entries whose lane it is. -/
def State.logCount (s : State) (l : LaneId) : Nat := s.log.countP (fun e => e.lane = l)

/-- A lane's PAYMENT log entries (R119). -/
def State.logPayments (s : State) (l : LaneId) : Nat :=
  s.log.countP (fun e => e.lane = l ∧ e.kind = .payment)

/-- The PAYMENT entries of the whole log (R123, R135). -/
def State.logPaymentTotal (s : State) : Nat := s.log.countP (fun e => e.kind = .payment)

/-- The SENT entries of the log (R127). -/
def State.logSent (s : State) : Nat := s.log.countP (fun e => e.state = .sent)

/-- The free places of the log (R122). -/
def State.logFree (s : State) : Nat := Config.logCapacity - s.log.length

/-- The lowest free place of the log (R122). -/
def State.freePlace (s : State) : Option PlaceId :=
  (List.finRange 1024).find? (fun p => s.log.all (fun e => e.place ≠ p))

/-- The log entry in a place. -/
def State.logAt (s : State) (p : PlaceId) : Option LogEntry := s.log.find? (fun e => e.place = p)

/-- Whether a lane record names a slot, the lane not being UNUSED (R44). -/
def LaneConfig.names (c : LaneConfig) (n : SlotId) : Bool :=
  c.state ≠ .unused && (c.link == some n || c.base == some n)

/-- How many of some lane records name a slot (R44). -/
def countNaming (lanes : Vector LaneRecord 48) (n : SlotId) : Nat :=
  lanes.toList.countP (fun r => r.config.names n)

/-- A slot's reference count (R44). -/
def State.refCount (s : State) (n : SlotId) : Nat := countNaming s.lanes n

/-- The lane a job concerns (R16). -/
def Job.concerns : Job → Option LaneId
  | .lane l _ _ _ => some l
  | .answer _ _ l _ _ => l
  | .reversal _ l _ => some l
  | .repetition _ l _ => some l

/-- A lane's job-in-flight flag (R16). -/
def State.jobInFlight (s : State) (l : LaneId) : Bool :=
  match s.engine.job with
  | some j => j.concerns == some l
  | none => false

/-- Whether a lane job's work may wrap (R51, R58): an ENROL, an ASK-STATE and a PAY in TEST take no value. -/
def LaneWork.wraps : LaneWork → Bool
  | .pay _ => true
  | .reverse _ => true
  | .payTest => false
  | .enrol => false
  | .askState => false

/-- Whether a job may wrap (R51, R58): an answer job does not, nor reversal work without its base key (R76, R77). -/
def Job.wraps : Job → Bool
  | .lane _ _ _ work => work.wraps
  | .answer _ _ _ _ _ => false
  | .reversal _ _ base => base.isSome
  | .repetition _ _ base => base.isSome

/-- Whether the job in flight may take a value of a lane's counter (R51). -/
def State.wrapInFlight (s : State) (l : LaneId) : Bool := s.jobInFlight l && s.engine.job.any Job.wraps

/-- The slots whose keys a lane job's work copied. -/
def LaneWork.loaded : LaneWork → List SlotId
  | .pay b => [b.slot]
  | .reverse b => [b.slot]
  | .payTest => []
  | .enrol => []
  | .askState => []

/-- The slots a job loaded keys from at its grant (R149). -/
def Job.loaded : Job → List SlotId
  | .lane _ _ link work => link.slot :: work.loaded
  | .answer _ _ _ b k => (b.map LoadedKey.slot).toList ++ (k.map LoadedKey.slot).toList
  | .reversal _ _ b => (b.map LoadedKey.slot).toList
  | .repetition _ _ b => (b.map LoadedKey.slot).toList

/-- Whether a job holds a reserved place in the Send Queue (R58, R59). -/
def Job.reserves : Job → Bool
  | .lane _ _ _ _ => true
  | .reversal _ _ _ => true
  | .answer _ _ _ _ _ => false
  | .repetition _ _ _ => false

/-- The places of the Send Queue reserved by the job in flight (R59). -/
def State.reserved (s : State) : Nat :=
  match s.engine.job with
  | some j => if j.reserves then 1 else 0
  | none => 0

/-- Whether a Send Queue place is free (R59, R107). -/
def State.sendPlaceFree (s : State) : Bool := s.sendQueue.length + s.reserved < Config.sendCapacity

/-- The entries in use, with their indexes, in ascending order. -/
def State.findEntry (s : State) (p : Exchange → Bool) : Option (EntryId × Exchange) :=
  (List.finRange 160).findSome? (fun i =>
    match s.exchange i with
    | some e => if p e then some (i, e) else none
    | none => none)

/-- The lowest free exchange entry (R81). -/
def State.freeEntry (s : State) : Option EntryId :=
  (List.finRange 160).find? (fun i => (s.exchange i).isNone)

/-- The number of free exchange entries (R81, R127). -/
def State.freeEntries (s : State) : Nat := s.exchanges.toList.countP Option.isNone

/-- Whether a lane owns an exchange entry (R100). -/
def State.ownsEntry (s : State) (l : LaneId) : Bool :=
  s.exchanges.toList.any (fun e => match e with
    | some e => e.lane == l
    | none => false)

/-- The whole seconds since the last entry into SERVING (R159, R174). -/
def State.seconds (s : State) : Nat := (s.clock - s.servingSince) / 1000

/-- A time so many seconds from now on the part's clock. -/
def State.after (s : State) (seconds : Nat) : Nat := s.clock + 1000 * seconds

/-- Whether a slot lies inside a hold GRANTED to a port (R150). -/
def Hold.covers (h : Hold) (n : Nat) : Bool :=
  match h with
  | .granted r _ => decide (r.low ≤ n) && decide (n ≤ r.high)
  | .pending _ => false
  | .none => false

/-- Whether a slot lies inside a hold GRANTED to either port (R150). -/
def State.held (s : State) (n : Nat) : Bool := (s.ctl .s).hold.covers n || (s.ctl .c).hold.covers n

/-- Whether an optional slot lies inside a GRANTED hold; an absent one does not. -/
def State.heldOpt (s : State) (n : Option SlotId) : Bool :=
  match n with
  | some n => s.held n.val
  | none => false

/-- The first element that passes a test, and the list without it. -/
def takeFirst {α : Type} (p : α → Bool) : List α → Option (α × List α)
  | [] => none
  | x :: r => if p x then some (x, r) else (takeFirst p r).map (fun y => (y.1, x :: y.2))

/-! ## Transmission (R4, R106, R107) -/

/-- Whether the link partner asks a port to hold back (R106). -/
def State.paused (s : State) (p : Port) : Bool := s.clock < (s.port p).pausedUntil

/-- Which holder a free port takes its next frame from (R106). -/
def nextHolder (order send : Bool) (last : Holder) : Option Holder :=
  match order, send with
  | false, false => none
  | true, false => some .order
  | false, true => some .sendQueue
  | true, true => some (match last with
    | .order => .sendQueue
    | .sendQueue => .order)

/-- Whether the Send Queue has an envelope for a port: it feeds the C-port alone. -/
def State.sendWaits (s : State) (p : Port) : Bool :=
  match p with
  | .s => false
  | .c => !s.sendQueue.isEmpty

/-- A port that is free to transmit takes its next frame, if one waits (R106). -/
def State.takeNext (s : State) (p : Port) : State :=
  let ps := s.port p
  if ps.carrier = true ∧ ps.transmitting = none ∧ s.paused p = false then
    match nextHolder (!ps.order.isEmpty) (s.sendWaits p) ps.lastTaken with
    | some h => s.setPort p { ps with transmitting := some h, lastTaken := h }
    | none => s
  else s

/-- Whether a frame is the reply to an accepted RESTART (R170). -/
def OutFrame.isRestart : OutFrame → Bool
  | .reply _ r => r
  | .till _ => false
  | .notice _ => false
  | .bridged _ => false

/-- The reply to an accepted RESTART has left its port (R170). -/
def State.restartLeft (s : State) (p : Port) (gone : Bool) : State :=
  if gone then s.setCtl p { s.ctl p with restart := .left } else s

/-- A frame is handed to a port for transmission (R4, R106): it joins the order, or is discarded and counted. -/
def State.handFrame (s : State) (p : Port) (f : OutFrame) : State :=
  if (s.port p).carrier = false then
    (s.countPort p (fun c => { c with noCarrier := satInc Config.count32Max c.noCarrier })).restartLeft p f.isRestart
  else if Config.orderCapacity ≤ (s.port p).order.length then
    (s.countPort p (fun c => { c with fullOrder := satInc Config.count32Max c.fullOrder })).restartLeft p f.isRestart
  else
    (s.setPort p { s.port p with order := (s.port p).order ++ [f] }).takeNext p

/-- An envelope is placed in the Send Queue (R107); without carrier it is discarded as soon as it is placed and
each of its frames is counted. That one so discarded does not make the Send Queue the holder taken from last is the model's
choice (log 13). -/
def State.placeEnvelope (s : State) (e : Envelope) : State :=
  if (s.port .c).carrier = false then
    s.countPort .c (fun c => { c with noCarrier := satAdd Config.count32Max c.noCarrier e.frames })
  else
    State.takeNext { s with sendQueue := s.sendQueue ++ [e] } .c

/-- A port finishes transmitting the next frame of its order (R4, R106): when that frame is what it is
transmitting, or is what it takes next. -/
def State.transmitOrder (s : State) (p : Port) : State :=
  let t := s.takeNext p
  match (t.port p).transmitting, (t.port p).order with
  | some .order, f :: rest =>
    let u := t.setPort p { t.port p with
      order := rest
      transmitting := none
      counters := { (t.port p).counters with framesOut := satInc Config.count32Max (t.port p).counters.framesOut } }
    State.takeNext ({ u with wire := u.wire ++ [(p, f.bytes)] }.restartLeft p f.isRestart) p
  | _, _ => s

/-- The frames an envelope leaves as, on the wire (R108). -/
def State.envelopeWire (s : State) (e : Envelope) : List (Port × Bytes) :=
  e.payloads.map (fun b =>
    (Port.c, ethernetBytes Config.gatewayStation s.settings.cStation Config.chainType b))

/-- The C-port finishes transmitting the oldest envelope, whole (R106 to R108): both segments of one of two are counted
and leave here (log 14). -/
def State.transmitEnvelope (s : State) : State :=
  let t := s.takeNext .c
  match (t.port .c).transmitting, t.sendQueue with
  | some .sendQueue, e :: rest =>
    let u := t.setPort .c { t.port .c with
      transmitting := none
      counters := { (t.port .c).counters with
        framesOut := satAdd Config.count32Max (t.port .c).counters.framesOut e.frames } }
    State.takeNext { u with sendQueue := rest, wire := u.wire ++ t.envelopeWire e } .c
  | _, _ => s

/-- Every frame of a port's order is discarded for want of carrier and counted (R4, R106). A pause request outlasts the
loss (log 12). -/
def State.dropOrder (s : State) (p : Port) : State :=
  let ps := s.port p
  (s.setPort p { ps with
    carrier := false
    order := []
    transmitting := none
    counters := { ps.counters with
      noCarrier := satAdd Config.count32Max ps.counters.noCarrier ps.order.length } }).restartLeft p
    (ps.order.any OutFrame.isRestart)

/-- Every envelope of the Send Queue is discarded for want of carrier, each of its frames counted (R107). When
`gone`, the first segment of the envelope in transmission had left: it is counted in frames out and is on the wire
(log 14). The holder taken from last stays as it was (log 13). -/
def State.dropSendQueue (s : State) (gone : Bool) : State :=
  let frames := (s.sendQueue.map Envelope.frames).sum
  let left := if gone then (s.sendQueue.head?.elim [] s.envelopeWire).take 1 else []
  { s with sendQueue := [], wire := s.wire ++ left }.countPort .c (fun c => { c with
    framesOut := satAdd Config.count32Max c.framesOut left.length
    noCarrier := satAdd Config.count32Max c.noCarrier (frames - left.length) })

end Sys2Proof.Machine
end

