-- ==== Sys2Proof/Machine/Flags.lean ====
section
/-! DEFINITION. Latches, counts and notices: the Event Unit (R172 to R175), the lane, port and device counters
(R5, R36, R176), the control key of a port (R43, R50), and control replies (R164). -/

namespace Sys2Proof

/-- The place of a refusal reason among the thirteen refusal counters (R36): the order of the codes of 13.1.3,
NO-LANE left out (log 42). -/
def TillReason.index : TillReason → Option (Fin 13)
  | .noLane => none
  | .identity => some 0
  | .laneBusy => some 1
  | .duplicate => some 2
  | .tag => some 3
  | .suspended => some 4
  | .exhausted => some 5
  | .faulted => some 6
  | .chainDown => some 7
  | .upstreamFull => some 8
  | .draining => some 9
  | .noExchange => some 10
  | .spent => some 11
  | .malformed => some 12

end Sys2Proof

namespace Sys2Proof.Machine

/-! ## Control keys -/

/-- The control slot of a port: 0 for the S-port, 1 for the C-port (R40). -/
def controlSlot : Port → SlotId
  | .s => 0
  | .c => 1

/-- The key that a port's control frames, replies, notices and probes go under (R43, R50): its control slot's, or
its factory control key while that slot is FAULTED. The key is read as stored while an error stands in the slot that no
check has found (log 10). -/
def State.controlKey (s : State) (p : Port) : Key :=
  let r := s.slot (controlSlot p)
  if r.state = .faulted then Config.factoryControlKey p else r.key.getD (Config.factoryControlKey p)

/-! ## Events -/

/-- The notice a port sends of an occurrence (R174). -/
def State.notice (s : State) (p : Port) (d : EventDetails) (count : Nat) : OutFrame :=
  let src := s.settings.station p
  .notice ⟨(s.ctl p).noticeAddress.getD Config.broadcast, src, d, count, s.seconds,
    Config.tag (s.controlKey p) .notice (controlTagInput src (noticeFields d count s.seconds))⟩

/-- The ports a destination names (R174). -/
def destinationPorts : Destination → List Port
  | .shop => [.s]
  | .chain => [.c]
  | .both => [.s, .c]

/-- Latch and count one occurrence (R173). -/
def State.latchEvent (s : State) (k : EventNumber) : State :=
  { s with events := s.events.set k ⟨true, satInc Config.count8Max s.events[k].count⟩ }

/-- An event occurs (R173 to R175): latched and counted; in STARTING added to the start count, in SERVING
reported by notices where the kind's notice enable is set. -/
def State.raise (s : State) (d : EventDetails) : State :=
  let k := d.kind.number
  let t := s.latchEvent k
  match s.phase with
  | .starting => { t with startCount := t.startCount + 1 }
  | .serving =>
    if s.settings.notices[k].enabled then
      (destinationPorts s.settings.notices[k].destination).foldl
        (fun u p => u.handFrame p (u.notice p d t.events[k].count)) t
    else t

/-! ## Counters -/

/-- Count a refusal of a frame resolved to a lane (R12, R36). -/
def LaneCounters.refuse (c : LaneCounters) (r : TillReason) : LaneCounters :=
  match r.index with
  | some i => { c with refusals := c.refusals.set i (satInc Config.count32Max c.refusals[i]) }
  | none => c

def State.countRefusal (s : State) (l : LaneId) (r : TillReason) : State :=
  s.modLane l (fun x => { x with counters := x.counters.refuse r })

def State.countLive (s : State) (l : LaneId) : State :=
  s.modLane l (fun x => { x with counters := { x.counters with live := satInc Config.count32Max x.counters.live } })

def State.countDeferred (s : State) (l : LaneId) : State :=
  s.modLane l (fun x => { x with counters := { x.counters with
    deferred := satInc Config.count32Max x.counters.deferred } })

def State.countAnswer (s : State) (l : LaneId) : State :=
  s.modLane l (fun x => { x with counters := { x.counters with
    answers := satInc Config.count32Max x.counters.answers } })

def State.countTimeout (s : State) (l : LaneId) : State :=
  s.modLane l (fun x => { x with counters := { x.counters with
    timeouts := satInc Config.count32Max x.counters.timeouts } })

def State.countReversal (s : State) (l : LaneId) : State :=
  s.modLane l (fun x => { x with counters := { x.counters with
    reversals := satInc Config.count32Max x.counters.reversals } })

/-- An answer is counted LATE (R87). -/
def State.countLate (s : State) : State :=
  { s with device := { s.device with late := satInc Config.count32Max s.device.late } }

/-- An envelope is counted UNMATCHED (R87). -/
def State.countUnmatched (s : State) : State :=
  { s with device := { s.device with unmatched := satInc Config.count32Max s.device.unmatched } }

/-- An envelope is dropped at a full Answer Queue (R111). -/
def State.countOverflow (s : State) : State :=
  { s with device := { s.device with overflows := satInc Config.count32Max s.device.overflows } }

/-- Segments are dropped or replaced in reassembly (R109, R110). -/
def State.countDrops (s : State) (k : Nat) : State :=
  { s with device := { s.device with reassemblyDrops := satAdd Config.count32Max s.device.reassemblyDrops k } }

/-- A frame is counted malformed at a port (R5). -/
def State.countMalformed (s : State) (p : Port) : State :=
  s.countPort p (fun c => { c with malformed := satInc Config.count32Max c.malformed })

/-! ## Control replies -/

/-- A control reply is handed to a port (R164), tagged under the given key. -/
def State.reply (s : State) (p : Port) (dst : Mac) (number : ControlNumber) (request : Byte)
    (status : ReplyStatus) (data : ReplyData) (key : Key) (restart : Bool) : State :=
  let src := s.settings.station p
  s.handFrame p (.reply ⟨dst, src, number, request, status, data,
    Config.tag key .reply (controlTagInput src (replyFields number request status data))⟩ restart)

end Sys2Proof.Machine
end

