-- ==== Sys2Proof/Machine/Tills.lean ====
section
/-! DEFINITION. Usable keys (R40) and the frames to the tills: how each is addressed (R9), tagged (R10) and handed
to the S-port, the broadcasts (R11) and the refusals (R12). -/

namespace Sys2Proof.Machine

/-! ## Usable keys (R40) -/

/-- The link key of a lane, when it is usable (R10, R40). -/
def State.linkKey (s : State) (l : LaneId) : Option LoadedKey :=
  let c := (s.lane l).config
  match c.link with
  | some n =>
    let r := s.slot n
    if r.state = .active ∧ r.usage = some .link ∧ c.state ≠ .faulted .linkKey ∧ c.state ≠ .faulted .record then
      r.key.map (fun k => ⟨n, r.generation, k⟩)
    else none
  | none => none

/-- The key of a base slot at a generation, when it is usable for that work (R40, R99). -/
def State.baseKey (s : State) (n : SlotId) (gen : Nat) : Option LoadedKey :=
  let r := s.slot n
  if r.state = .active ∧ r.usage = some .base ∧ r.generation = gen then
    r.key.map (fun k => ⟨n, r.generation, k⟩)
  else none

/-- The base key of a lane at its base generation, when it is usable for a new wrap (R40). -/
def State.laneBaseKey (s : State) (l : LaneId) : Option LoadedKey :=
  match (s.lane l).config.base, (s.lane l).config.baseGen with
  | some n, some gen => s.baseKey n gen
  | _, _ => none

/-- Whether a position shows an uncorrectable error to a read that is no check (R158). -/
def State.unreadable (s : State) (p : Position) : Bool :=
  s.upsets.any (fun x => x.1 == p && (match x.2 with
    | .uncorrectable _ => true
    | .single _ _ => false
    | .worsening _ _ => false))

/-- The key that a frame tagged at handing goes under (R10): the link slot as it stands, unless the read of it
shows an uncorrectable error (R158). -/
def State.handKey (s : State) (l : LaneId) : Option Key :=
  match s.linkKey l with
  | some k => if s.unreadable (slotPosition k.slot) then none else some k.key
  | none => none

/-! ## Frames to one till -/

/-- A frame to the tills: tagged and encrypted under a key, or untagged with a clear body (R10, R49). -/
def makeTill (dst src : Mac) (till xchg : Nat) (c : TillContent) (key : Option Key) : TillFrame :=
  match key with
  | some k =>
    let body := encrypt k c.clearBody
    ⟨dst, src, till, xchg, c, body, some (Config.tag k .part (laneTagInput till xchg c.kindCode none body))⟩
  | none => ⟨dst, src, till, xchg, c.untagged, c.untagged.clearBody, none⟩

/-- A frame to the tills is handed to the S-port, from its station address (R9). -/
def State.handTill (s : State) (dst : Mac) (till xchg : Nat) (c : TillContent) (key : Option Key) : State :=
  s.handFrame .s (.till (makeTill dst s.settings.sStation till xchg c key))

/-- A reply to a lane frame in hand (R9): to its source, with the lane's till number, or the frame's when the
lane has none. -/
def State.replyInHand (s : State) (l : LaneId) (f : LaneFrame) (c : TillContent) (key : Option Key) : State :=
  s.handTill f.src ((s.lane l).config.till.getD f.till) f.xchg c key

/-- A frame sent for an earlier frame (R9): to the lane's station address, or broadcast when it is absent; not
handed at all when the lane's till number is absent. -/
def State.sendEarlier (s : State) (l : LaneId) (xchg : Nat) (c : TillContent) (key : Option Key) : State :=
  match (s.lane l).config.till with
  | some t => s.handTill ((s.lane l).config.station.getD Config.broadcast) t xchg c key
  | none => s

/-- A broadcast to the tills (R11): till number 0, exchange number 0, no tag. -/
def State.broadcastTills (s : State) (c : TillContent) : State := s.handTill Config.broadcast 0 0 c none

/-! ## Refusals (R12) -/

/-- A refusal of Lane Table acceptance, of a grant or of a state entry (R10, R12): tagged at handing, and
counted. -/
def State.refuseAtHand (s : State) (l : LaneId) (f : LaneFrame) (r : TillReason) : State :=
  (s.replyInHand l f (.refused r) (s.handKey l)).countRefusal l r

/-- A refusal inside a lane job (R10, R12): tagged with the job's copy of the link key, and counted. -/
def State.refuseInJob (s : State) (l : LaneId) (f : LaneFrame) (link : LoadedKey) (r : TillReason) : State :=
  (s.replyInHand l f (.refused r) (some link.key)).countRefusal l r

end Sys2Proof.Machine
end

