-- ==== Sys2Proof/Machine/Persist.lean ====
section
/-! DEFINITION. The Persistent Store and the Persist Queue (chapter 12): records in two copies (R178), how a write
joins the queue (R179), and what its completion does to the store (R180, R181). -/

namespace Sys2Proof.Machine

/-! ## Records in two copies (R178) -/

/-- A record as a restore reads it: its present copy, or the other when that one does not check good. -/
def Stored.read {α : Type} (x : Stored α) : Option α :=
  match x.present with
  | some a => some a
  | none => x.alternate

/-- A write begins: the copy that does not hold the present contents is being written (log 11). -/
def Stored.begin {α : Type} (x : Stored α) : Stored α := ⟨x.read, none⟩

/-- A write completes: its copy becomes the record's present contents. -/
def Stored.complete {α : Type} (x : Stored α) (a : α) : Stored α := ⟨some a, x.present⟩

/-- Copies of a record go bad (log 10). -/
def Stored.decay {α : Type} (x : Stored α) (both : Bool) : Stored α :=
  if both then ⟨none, none⟩ else { x with present := none }

/-! ## The log's places in the store

A list of the places that are not as the factory left them, in strictly rising order. -/

/-- A log place as the factory leaves it. -/
def freeStored : Stored (Option LogEntry) := .both none

/-- The contents of a log place. -/
def logGet (m : List (PlaceId × Stored (Option LogEntry))) (p : PlaceId) : Stored (Option LogEntry) :=
  match m with
  | [] => freeStored
  | (q, w) :: rest => if q = p then w else logGet rest p

/-- Write a log place, keeping the list's form. -/
def logPut (m : List (PlaceId × Stored (Option LogEntry))) (p : PlaceId) (v : Stored (Option LogEntry)) :
    List (PlaceId × Stored (Option LogEntry)) :=
  match m with
  | [] => if v = freeStored then [] else [(p, v)]
  | (q, w) :: rest =>
    if p < q then (if v = freeStored then (q, w) :: rest else (p, v) :: (q, w) :: rest)
    else if q = p then (if v = freeStored then rest else (p, v) :: rest)
    else (q, w) :: logPut rest p v

/-- The form of the list: places strictly rising, none as the factory left it. -/
def logForm : List (PlaceId × Stored (Option LogEntry)) → Bool
  | [] => true
  | (p, v) :: rest => decide (v ≠ freeStored) && rest.all (fun x => decide (p < x.1)) && logForm rest

/-! ## What a write does to the store -/

def PersistentStore.modSlot (t : PersistentStore) (n : SlotId) (f : Stored SlotRecord → Stored SlotRecord) :
    PersistentStore := { t with slots := t.slots.set n (f t.slots[n]) }

def PersistentStore.modLane (t : PersistentStore) (l : LaneId) (f : Stored LaneConfig → Stored LaneConfig) :
    PersistentStore := { t with lanes := t.lanes.set l (f t.lanes[l]) }

def PersistentStore.modCeiling (t : PersistentStore) (l : LaneId)
    (f : Stored (Option CeilingRecord) → Stored (Option CeilingRecord)) : PersistentStore :=
  { t with ceilings := t.ceilings.set l (f t.ceilings[l]) }

def PersistentStore.modClass (t : PersistentStore) (c : CardClass)
    (f : Stored ClassRecord → Stored ClassRecord) : PersistentStore :=
  { t with standIn := t.standIn.set c (f t.standIn[c]) }

def PersistentStore.modPlace (t : PersistentStore) (p : PlaceId)
    (f : Stored (Option LogEntry) → Stored (Option LogEntry)) : PersistentStore :=
  { t with log := logPut t.log p (f (logGet t.log p)) }

/-- Change every record a commit group touches. -/
def CommitGroup.onStore (g : CommitGroup) (t : PersistentStore)
    (settings : SettingsBlock → Stored SettingsBlock → Stored SettingsBlock)
    (slots : SlotRecord → Stored SlotRecord → Stored SlotRecord)
    (lanes : LaneConfig → Stored LaneConfig → Stored LaneConfig)
    (classes : ClassRecord → Stored ClassRecord → Stored ClassRecord) : PersistentStore :=
  let t := match g.settings with
    | some b => { t with settings := settings b t.settings }
    | none => t
  let t := g.slots.foldl (fun t x => t.modSlot x.1 (slots x.2)) t
  let t := g.lanes.foldl (fun t x => t.modLane x.1 (lanes x.2)) t
  g.classes.foldl (fun t x => t.modClass x.1 (classes x.2)) t

/-- A write begins (R178, log 11). -/
def Write.beginOn (w : Write) (t : PersistentStore) : PersistentStore :=
  match w with
  | .group g => g.onStore t (fun _ => .begin) (fun _ => .begin) (fun _ => .begin) (fun _ => .begin)
  | .ceiling l _ _ _ _ => t.modCeiling l .begin
  | .laneState l _ => t.modLane l .begin
  | .slotState n _ => t.modSlot n .begin
  | .append e _ _ => t.modPlace e.place .begin
  | .update e => t.modPlace e.place .begin
  | .removal p _ _ => t.modPlace p .begin
  | .epoch _ => { t with epoch := t.epoch.begin }

/-- The whole lane record of a lane-state write that begins (R178): the state and causes it carries, in the record's
other present contents. None where the record is bad, which stays so (R183, log 26). -/
def Write.imageOn (w : Write) (t : PersistentStore) : Option LaneConfig :=
  match w with
  | .laneState l st => t.lanes[l].read.map (fun c => { c with state := st })
  | _ => none

/-- A lane-state write completes with the record it began with. -/
def completeLaneState (image : Option LaneConfig) (x : Stored LaneConfig) : Stored LaneConfig :=
  match image with
  | some c => x.complete c
  | none => x

/-- A write completes (R178, R180, R181). `image` is the whole record of a lane-state write. -/
def Write.completeOn (w : Write) (image : Option LaneConfig) (t : PersistentStore) : PersistentStore :=
  match w with
  | .group g =>
    g.onStore t (fun b x => x.complete b) (fun r x => x.complete r) (fun c x => x.complete c)
      (fun r x => x.complete r)
  | .ceiling l base gen target _ => t.modCeiling l (fun x => x.complete (some ⟨base, gen, target⟩))
  | .laneState l _ => t.modLane l (completeLaneState image)
  | .slotState n r => t.modSlot n (fun x => x.complete r)
  | .append e _ _ => t.modPlace e.place (fun x => x.complete (some { e with written := true }))
  | .update e => t.modPlace e.place (fun x => x.complete (some e))
  | .removal p _ _ => t.modPlace p (fun x => x.complete none)
  | .epoch n => { t with epoch := t.epoch.complete n }

/-! ## The queue (R179) -/

/-- The queue takes the next write when it is writing none. -/
def State.pump (s : State) : State :=
  match s.persist.current, s.persist.waiting with
  | none, w :: rest => { s with persist := ⟨some w, rest, w.imageOn s.store⟩, store := w.beginOn s.store }
  | _, _ => s

/-- Whether the queue holds 4,096 writes (R179). -/
def PersistQueue.full (q : PersistQueue) : Bool :=
  decide (Config.persistCapacity ≤ q.waiting.length + (if q.current.isSome then 1 else 0))

/-- Put the writes that wait in a new order or number, and begin the next if none is being written. -/
def State.setWaiting (s : State) (ws : List Write) : State :=
  State.pump { s with persist := { s.persist with waiting := ws } }

/-- A write joins the queue at a given place among those waiting, or fails at once when the queue is full
(R179). -/
def State.enqueue (s : State) (join : List Write → List Write) (failed : State → State) : State :=
  if s.persist.full then failed s else s.setWaiting (join s.persist.waiting)

/-- A PERSIST-FAIL of a write (R172, R181). -/
def State.writeFailed (s : State) (k : WriteKind) (subject : FailSubject) : State :=
  s.raise (.persistFail .write (some k) (some subject))

/-- Replace the last write that a test finds, in place, unless a stopping write is found behind it (R179). The
list is given last write first. -/
def replaceLast (stop hit : Write → Bool) (new : Write) : List Write → Option (List Write)
  | [] => none
  | w :: r =>
    if stop w then none
    else if hit w then some (new :: r)
    else (replaceLast stop hit new r).map (fun x => w :: x)

/-- Join at the tail, or in place of an earlier write that the new one replaces (R179). -/
def State.replaceOrAppend (s : State) (stop hit : Write → Bool) (new : Write) (failed : State → State) : State :=
  match replaceLast stop hit new s.persist.waiting.reverse with
  | some ws => s.setWaiting ws.reverse
  | none => s.enqueue (fun ws => ws ++ [new]) failed

/-- Whether a write is a commit group that touches a lane. -/
def Write.touchesLane (l : LaneId) : Write → Bool
  | .group g => g.lanes.any (fun x => x.1 == l)
  | _ => false

/-- Whether a write is a lane-state write of a lane. -/
def Write.isLaneState (l : LaneId) : Write → Bool
  | .laneState k _ => k == l
  | _ => false

/-- Whether a write is a ceiling write. -/
def Write.isCeiling : Write → Bool
  | .ceiling _ _ _ _ _ => true
  | _ => false

/-- Whether a write is a ceiling write of a lane. -/
def Write.isCeilingOf (l : LaneId) : Write → Bool
  | .ceiling k _ _ _ _ => k == l
  | _ => false

/-- Whether a write is an update of a log entry. -/
def Write.isUpdateOf (serial : Nat) : Write → Bool
  | .update e => e.serial == serial
  | _ => false

/-- Whether a write is a removal of a log entry. -/
def Write.isRemovalOf (serial : Nat) : Write → Bool
  | .removal _ n _ => n == serial
  | _ => false

/-- A lane-state write is queued with the lane's present state and causes (R15, R179). -/
def State.queueLaneState (s : State) (l : LaneId) : State :=
  s.replaceOrAppend (Write.touchesLane l) (Write.isLaneState l) (.laneState l (s.lane l).config.state)
    (fun t => t.writeFailed .laneState (.lane l))

/-- A slot-state write is queued (R43, R179). -/
def State.queueSlotState (s : State) (n : SlotId) (r : SlotRecord) : State :=
  s.enqueue (fun ws => ws ++ [.slotState n r]) (fun t => t.writeFailed .slotState (.slot n))

/-- An update write of a log entry is queued (R126, R179). -/
def State.queueUpdate (s : State) (e : LogEntry) : State :=
  s.replaceOrAppend (fun _ => false) (Write.isUpdateOf e.serial) (.update e)
    (fun t => t.writeFailed .update (.logPlace e.place))

/-- The REVERSAL-TAKEN of a till's cancel (R132), where a removal carries one. -/
def State.cancelReply (s : State) (c : Option CancelReply) : State :=
  match c with
  | some r => s.sendEarlier r.lane r.xchg .reversalTaken (s.handKey r.lane)
  | none => s

/-- A removal write fails (R126, R132). -/
def State.removalFailed (s : State) (p : PlaceId) (c : Option CancelReply) : State :=
  (s.writeFailed .removal (.logPlace p)).cancelReply c

/-- A removal write of a log entry is queued (R126, R179). -/
def State.queueRemoval (s : State) (e : LogEntry) (c : Option CancelReply) : State :=
  s.replaceOrAppend (fun _ => false) (Write.isUpdateOf e.serial) (.removal e.place e.serial c)
    (fun t => t.removalFailed e.place c)

/-- A ceiling write joins behind the ceiling writes at the head of those waiting (R53, R179; log 20). -/
def joinCeiling (new : Write) : List Write → List Write
  | [] => [new]
  | w :: r => if w.isCeiling then w :: joinCeiling new r else new :: w :: r

/-- A ceiling write joins directly behind the last waiting commit group that touches its lane and the ceiling writes
there, or at the head where no such group waits (R53, R147; log 20). -/
def joinBehind (l : LaneId) (new : Write) : List Write → List Write
  | [] => [new]
  | w :: r => if (w :: r).any (Write.touchesLane l) then w :: joinBehind l new r else joinCeiling new (w :: r)

/-- The write being written ends: it leaves the queue, the store takes its result, and the next begins (R179; log
21). -/
def State.endWrite (s : State) (w : Write) (r : WriteResult) : State :=
  State.pump { s with
    persist := { s.persist with current := none, image := none }
    store := match r with
      | .completed => w.completeOn s.persist.image s.store
      | .failed => s.store }

/-! ## The copy a fault restores from -/

/-- The writes whose result is not known yet, in the order in which they are written. -/
def PersistQueue.unwritten (q : PersistQueue) : List Write := q.current.toList ++ q.waiting

/-- A slot's persistent copy, or the record of the last commit group that is still to be written (R43). -/
def State.slotCopy (s : State) (n : SlotId) : Option SlotRecord :=
  let queued := s.persist.unwritten.filterMap (fun w => match w with
    | .group g => (g.slots.find? (fun x => x.1 == n)).map Prod.snd
    | _ => none)
  match queued.getLast? with
  | some r => some r
  | none => s.store.slots[n].read

/-- The record a commit group carries for a lane. -/
def CommitGroup.laneOf (g : CommitGroup) (l : LaneId) : Option LaneConfig :=
  (g.lanes.find? (fun x => x.1 == l)).map Prod.snd

/-- A lane's persistent copy, or the record of the last commit group that is still to be written, or the one it was last
committed with where that group's writing has failed (R34; log 23). -/
def State.laneCopy (s : State) (l : LaneId) : Option LaneConfig :=
  let queued := s.persist.unwritten.filterMap (fun w => match w with
    | .group g => g.laneOf l
    | _ => none)
  match (s.lane l).lostCommit with
  | some c => some c
  | none =>
    match queued.getLast? with
    | some c => some c
    | none => s.store.lanes[l].read

/-- The tables a commit group touches (log 36). -/
def CommitGroup.tables (g : CommitGroup) : List StageTable :=
  (if g.lanes.isEmpty then [] else [.lane]) ++ (if g.slots.isEmpty then [] else [.slot]) ++
    (if g.classes.isEmpty then [] else [.standIn]) ++ (if g.settings.isNone then [] else [.settings])

/-- A lane keeps the record a lost commit group carried for it, where that was its last commit (R34; log 23). -/
def CommitGroup.keepLost (g : CommitGroup) (last : LaneId → Bool) (l : LaneId) (r : LaneRecord) : LaneRecord :=
  match last l, g.laneOf l with
  | true, some c => { r with lostCommit := some c }
  | _, _ => r

/-- The writing of a commit group fails (R147, R180): the working copies stay as they are, and PERSIST-FAIL is raised. -/
def State.loseGroup (s : State) (g : CommitGroup) (last : LaneId → Bool) : State :=
  State.writeFailed { s with lanes := Vector.ofFn (fun l => g.keepLost last l (s.lane l)) } .commitGroup
    (.tables g.tables)

/-- Whether the last commit of a lane has neither failed nor a place among the writes that wait. -/
def State.lastCommitWritten (s : State) (l : LaneId) : Bool :=
  (s.lane l).lostCommit.isNone && !s.persist.waiting.any (Write.touchesLane l)

/-- The ceiling a lane record comes back with (R183): the larger of its own and its ceiling record's, when that
record names its base slot and generation. -/
def restoredCeiling (c : LaneConfig) (x : Stored (Option CeilingRecord)) : Nat :=
  match x.read with
  | some (some r) => if c.base.isSome ∧ r.base = c.base ∧ r.gen = c.baseGen then max r.ceiling c.ceiling else c.ceiling
  | _ => c.ceiling

/-- Whether a start would find the commit that a ceiling write belongs to, and would restore no lower ceiling for that
write (R51, R53, R183; log 20). A bad lane record names no base slot, and its ceiling record is ignored. -/
def PersistentStore.founds (t : PersistentStore) : Write → Bool
  | .ceiling l base gen target _ =>
    (match t.lanes[l].read with
     | some c => decide (c.base = base) && decide (c.baseGen = gen) && decide (restoredCeiling c t.ceilings[l] ≤ target)
     | none => true)
  | _ => true

/-- The lanes of a commit group being written whose advances stand directly behind it and could not be found without
it (R53). -/
def PersistQueue.standOn (q : PersistQueue) (g : CommitGroup) (t : PersistentStore) : List LaneId :=
  (g.lanes.map Prod.fst).filter (fun l =>
    (q.waiting.takeWhile Write.isCeiling).any (fun w => w.isCeilingOf l && !t.founds w))

/-- A ceiling write of a lane becomes stale (R53). -/
def Write.stale (l : LaneId) : Write → Write
  | .ceiling k base gen target old => .ceiling k base gen target (old || k == l)
  | w => w

/-- A lane's ceiling writes leave the queue (R53): those that wait are dropped, the one being written is stale. -/
def State.dropCeilings (s : State) (l : LaneId) : State :=
  { s with persist := { s.persist with
    current := s.persist.current.map (Write.stale l)
    waiting := s.persist.waiting.filter (fun w => !w.isCeilingOf l) } }

end Sys2Proof.Machine
end

