-- ==== Sys2Proof/Machine/Lanes.lean ====
section
/-! DEFINITION. The Lane Table (chapter 2) and the transaction counters (3.3): lane resolution and acceptance,
state entry, faults, SET-LANE, the counter's take and its ceiling advances, and the recent list. -/

namespace Sys2Proof.Machine

/-! ## The door (R7, R18 to R22) -/

/-- Lane resolution (R7). Of two lanes that a start brought back with one till number the lowest is taken (log 51). -/
def State.resolve (s : State) (till : Nat) : Option LaneId :=
  allLanes.find? (fun l => decide ((s.lane l).config.state ≠ .unused) && (s.lane l).config.till == some till)

/-- The reason for which a lane's state does not take a frame kind (R21). A lane in UNUSED is never resolved. -/
def doorReason (st : LaneState) (k : LaneKind) : Option TillReason :=
  match st with
  | .unused => none
  | .ready => none
  | .test => none
  | .exhausted => if k = .pay then some .exhausted else none
  | .suspended _ => if k = .askState then none else some .suspended
  | .faulted _ => some .faulted

/-- The identity check (R19). -/
def identityPasses (c : LaneConfig) (k : LaneKind) (src : Mac) : Bool :=
  match c.station with
  | none => true
  | some a => a == src || (k == .enrol && !c.frozen)

/-- The first acceptance check that refuses a frame (R18, R22). -/
def doorCheck (r : LaneRecord) (f : LaneFrame) : Option TillReason :=
  match r.config.state with
  | .faulted _ => some .faulted
  | _ =>
    if identityPasses r.config f.kind f.src = false then some .identity
    else
      match doorReason r.config.state f.kind with
      | some reason => some reason
      | none =>
        if r.mailbox.isSome then some .laneBusy
        else if f.kind = .pay ∧ r.openPayment.isSome then some .laneBusy
        else if r.lastAccepted = some f.xchg then some .duplicate
        else none

/-- Lane Table acceptance (R18): the frame is refused, or placed in the mailbox. -/
def State.acceptFrame (s : State) (l : LaneId) (f : LaneFrame) : State :=
  match doorCheck (s.lane l) f with
  | some reason => s.refuseAtHand l f reason
  | none => s.modLane l (fun r => { r with mailbox := some f })

/-- The checks made again at the grant (R23). -/
def grantCheck (r : LaneRecord) (f : LaneFrame) : Option TillReason :=
  if identityPasses r.config f.kind f.src = false then some .identity
  else if f.kind = .pay ∧ r.openPayment.isSome then some .laneBusy
  else if r.lastAccepted = some f.xchg then some .duplicate
  else none

/-! ## Entering a state (R24, R34) -/

/-- The mailbox after a lane has entered its state (R24). -/
def State.clearMailbox (s : State) (l : LaneId) : State :=
  match (s.lane l).mailbox with
  | none => s
  | some f =>
    match doorReason (s.lane l).config.state f.kind with
    | some reason => (s.modLane l (fun r => { r with mailbox := none })).refuseAtHand l f reason
    | none => s

/-- A lane's state and causes change (R15, R24): the event, if any, is raised, the mailbox frame is refused where
the new state does not take it, and a lane-state write is queued. -/
def State.changeState (s : State) (l : LaneId) (st : LaneState) (event : Option EventDetails) : State :=
  let t := s.modLane l (fun r => { r with config := { r.config with state := st } })
  let u := match event with
    | some d => t.raise d
    | none => t
  (u.clearMailbox l).queueLaneState l

/-- A lane enters FAULTED (R34); a lane UNUSED or already FAULTED is left as it is. -/
def State.faultLane (s : State) (l : LaneId) (c : FaultCause) : State :=
  match (s.lane l).config.state with
  | .unused => s
  | .faulted _ => s
  | _ => s.changeState l (.faulted c) (some (.laneFaulted l c))

/-- The persistent fields of a lane whose record is lost (R37, R157): no numbers, no slots, the given state and
ceiling. -/
def lostLane (st : LaneState) (ceiling : Nat) : LaneConfig :=
  ⟨st, none, none, none, false, none, none, none, 0, ceiling⟩

/-- A slot field of a restored lane record: absent when it names a slot now EMPTY (R44). -/
def State.liveSlot (s : State) (n : Option SlotId) : Option SlotId :=
  n.filter (fun n => decide ((s.slot n).state ≠ .empty))

/-- Whether some other lane not UNUSED has a property. -/
def State.otherLane (s : State) (l : LaneId) (p : LaneConfig → Bool) : Bool :=
  allLanes.any (fun k => decide (k ≠ l) && decide ((s.lane k).config.state ≠ .unused) && p (s.lane k).config)

/-- The ceiling a lane takes from its persistent copy while the part serves (R34): the copy's, but the present one where
the counter, or the counter after the take of a job in flight that may wrap, would exceed the copy's (R51, R52; log
23). -/
def copiedCeiling (wraps : Bool) (r : LaneRecord) (copy : Nat) : Nat :=
  if r.counter + (if wraps then 1 else 0) ≤ copy then copy else r.config.ceiling

/-- A lane's persistent fields other than state and causes, from its persistent copy (R34, R44, R157). -/
def State.copiedLane (s : State) (l : LaneId) : LaneConfig :=
  let now := (s.lane l).config
  match s.laneCopy l with
  | none => lostLane now.state now.ceiling
  | some c =>
    { c with
      state := now.state
      till := c.till.filter (fun t => !s.otherLane l (fun k => k.till == some t))
      identity := c.identity.filter (fun t => !s.otherLane l (fun k => k.identity == some t))
      link := s.liveSlot c.link
      base := s.liveSlot c.base
      ceiling := copiedCeiling (s.wrapInFlight l) (s.lane l) (restoredCeiling c s.store.ceilings[l]) }

/-- An uncorrectable error is found in a lane record (R34, R157): its volatile fields, the counter among them, are kept
(log 23). -/
def State.faultRecord (s : State) (l : LaneId) : State :=
  let c := s.copiedLane l
  (s.modLane l (fun r => { r with config := c })).faultLane l .record

/-! ## Ceiling advances (R52, R53) -/

/-- A ceiling write of a lane fails, and R53 has not made it stale (R52, R181). -/
def State.ceilingFailed (s : State) (l : LaneId) : State :=
  (((s.writeFailed .ceiling (.lane l))).modLane l (fun r => { r with advancePending := false })).faultLane l .ceiling

/-- The ceiling write that an advance of a lane queues (R52): its target is the ceiling plus 512, 4,194,304 at most. -/
def State.advanceWrite (s : State) (l : LaneId) : Write :=
  let c := (s.lane l).config
  .ceiling l c.base c.baseGen (min (c.ceiling + Config.ceilingStep) Config.counterEnd) false

/-- An advance is requested (R52): its ceiling write joins the queue at the given place. -/
def State.requestAdvance (s : State) (l : LaneId) (join : Write → List Write → List Write) : State :=
  (s.modLane l (fun r => { r with advancePending := true })).enqueue (join (s.advanceWrite l))
    (fun t => t.ceilingFailed l)

/-- Whether an advance is to be requested (R52). -/
def LaneRecord.wantsAdvance (r : LaneRecord) : Bool :=
  !r.advancePending && decide (r.config.state ≠ .unused) && decide (r.config.state ≠ .faulted .ceiling) &&
    decide (r.config.ceiling < Config.counterEnd) && decide (r.config.ceiling ≤ r.counter + Config.advanceMargin)

/-- The advance test (R52). -/
def State.advanceTest (s : State) (l : LaneId) : State :=
  if (s.lane l).wantsAdvance then s.requestAdvance l joinCeiling else s

/-- The advance test of a lane whose last commit may not be in the store (R51 to R53; log 20): an advance that a start
would find without its commit stands behind the commit group that is still to be written, fails at once at a full queue
(R179), and is not requested where there is no such group. -/
def State.foundedAdvanceTest (s : State) (l : LaneId) : State :=
  if (s.lane l).wantsAdvance then
    if s.store.founds (s.advanceWrite l) then s.requestAdvance l joinCeiling
    else if s.persist.full || s.persist.unwritten.any (Write.touchesLane l) then s.requestAdvance l (joinBehind l)
    else s
  else s

/-- A lane's fields after the completion of its ceiling write (R52): the ceiling becomes the target, but stands where the
lane has another base slot or base generation than the write carries (R53; log 23). -/
def advancedConfig (c : LaneConfig) (base : Option SlotId) (gen : Option Nat) (target : Nat) : LaneConfig :=
  if c.base = base ∧ c.baseGen = gen then { c with ceiling := target } else c

/-- The ceiling write that a lane waited for completes (R52). -/
def State.ceilingDone (s : State) (l : LaneId) (base : Option SlotId) (gen : Option Nat) (target : Nat) : State :=
  (s.modLane l (fun r => { r with
    config := advancedConfig r.config base gen target, advancePending := false })).advanceTest l

/-! ## The counter's take (R33, R51 to R55) -/

/-- Whether a lane's counter has passed the payment counter limit (R54). -/
def LaneRecord.spentForPayments (r : LaneRecord) : Bool := decide (Config.paymentLimit < r.counter)

/-- COUNTER-WARN when a take passes the warning margin (R55), as often as the margins read at the takes let one pass (log
54). -/
def State.warnTake (s : State) (l : LaneId) (c : Nat) : State :=
  if c = Config.counterMax - s.settings.warnMargin then s.raise (.counterWarn l (c + 1)) else s

/-- A take of the last payment value (R33, R54). -/
def State.limitTake (s : State) (l : LaneId) (c : Nat) : State :=
  if c = Config.paymentLimit ∧ (s.lane l).config.state = .ready then
    s.changeState l .exhausted (some (.laneExhausted l (c + 1)))
  else s

/-- A job takes a lane's counter value (R51): the value, and the state with all that follows from the take. -/
def State.takeCounter (s : State) (l : LaneId) : Nat × State :=
  let c := (s.lane l).counter
  let t := s.modLane l (fun r => { r with counter := c + 1 })
  (c, ((t.warnTake l c).limitTake l c).advanceTest l)

/-! ## The recent list (R27, R28) -/

/-- An item joins a lane's recent list (R27). -/
def joinRecent (items : List RecentItem) (i : RecentItem) : List RecentItem :=
  let kept := items.filter (fun x => x.xchg ≠ i.xchg) ++ [i]
  kept.drop (kept.length - Config.recentCapacity)

def State.joinRecent (s : State) (l : LaneId) (i : RecentItem) : State :=
  s.modLane l (fun r => { r with recent := Machine.joinRecent r.recent i })

/-- The items of a lane that stand at a place move to another (R28). -/
def State.moveItem (s : State) (l : LaneId) (old new : RecentPlace) : State :=
  s.modLane l (fun r => { r with recent := r.recent.map (fun x => if x.place = old then { x with place := new } else x) })

/-- The items of a lane that stand at a place leave the list (R28). -/
def State.dropItem (s : State) (l : LaneId) (old : RecentPlace) : State :=
  s.modLane l (fun r => { r with recent := r.recent.filter (fun x => x.place ≠ old) })

/-- The item of a payment moves to a place, found by its till exchange number (R71). -/
def State.placeItem (s : State) (l : LaneId) (xchg : Nat) (new : RecentPlace) : State :=
  s.modLane l (fun r => { r with recent := r.recent.map (fun x => if x.xchg = xchg then { x with place := new } else x) })

/-! ## SET-LANE (R32, R38) -/

/-- Whether a lane is idle (R32, R38). -/
def State.laneIdle (s : State) (l : LaneId) : Bool :=
  !s.ownsEntry l && s.logCount l == 0 && (s.lane l).mailbox.isNone && !s.jobInFlight l

/-- Whether a slot is ACTIVE with a usage. -/
def State.activeAs (s : State) (n : Option SlotId) (u : SlotUsage) : Bool :=
  match n with
  | some n => decide ((s.slot n).state = .active) && decide ((s.slot n).usage = some u)
  | none => false

/-- Whether a lane record is complete (R17). -/
def State.laneComplete (s : State) (l : LaneId) : Bool :=
  let c := (s.lane l).config
  c.till.isSome && c.identity.isSome && s.activeAs c.link .link && s.activeAs c.base .base &&
    (match c.base with
     | some n => c.baseGen == some (s.slot n).generation
     | none => false) &&
    !s.otherLane l (fun k => k.till == c.till || k.identity == c.identity)

/-- A lane leaves SUSPENDED, TEST or UNUSED by READY (R32): into EXHAUSTED when its counter has passed the
limit. -/
def State.bringReady (s : State) (l : LaneId) : State :=
  let t := s.modLane l (fun r => { r with tagFailures := 0 })
  if (t.lane l).spentForPayments then
    t.changeState l .exhausted (some (.laneExhausted l (t.lane l).counter))
  else t.changeState l .ready none

/-- SET-LANE READY (R32). -/
def State.setReady (s : State) (l : LaneId) : State × ReplyStatus :=
  match (s.lane l).config.state with
  | .unused =>
    if s.laneComplete l then ((s.bringReady l).foundedAdvanceTest l, .done) else (s, .refused .badReference)
  | .ready => (s, .done)
  | .test => (s.bringReady l, .done)
  | .suspended _ => (s.bringReady l, .done)
  | .exhausted => (s, .done)
  | .faulted _ => (s, .refused .state)

/-- SET-LANE SUSPEND (R32). -/
def State.setSuspend (s : State) (l : LaneId) : State × ReplyStatus :=
  match (s.lane l).config.state with
  | .unused => (s, .refused .state)
  | .faulted _ => (s, .refused .state)
  | .suspended .control => (s, .done)
  | .suspended .tagFailures => (s.changeState l (.suspended .control) none, .done)
  | .ready => (s.changeState l (.suspended .control) none, .done)
  | .test => (s.changeState l (.suspended .control) none, .done)
  | .exhausted => (s.changeState l (.suspended .control) none, .done)

/-- SET-LANE TEST (R32). -/
def State.setTest (s : State) (l : LaneId) : State × ReplyStatus :=
  match (s.lane l).config.state with
  | .ready => (s.changeState l .test none, .done)
  | .test => (s, .done)
  | _ => (s, .refused .state)

/-- SET-LANE UNUSED (R32). -/
def State.setUnused (s : State) (l : LaneId) : State × ReplyStatus :=
  match (s.lane l).config.state with
  | .unused => (s, .done)
  | _ =>
    if s.laneIdle l then
      ((s.modLane l (fun r => { r with recent := [], lastAccepted := none, tagFailures := 0 })).changeState l .unused
        none, .done)
    else (s, .refused .conflict)

/-- SET-LANE CLEAR-VOLATILE (R38). -/
def State.clearVolatile (s : State) (l : LaneId) : State × ReplyStatus :=
  if s.laneIdle l then
    (s.modLane l (fun r => { r with
      tagFailures := 0, lastAccepted := none, recent := [], counters := zeroLaneCounters }), .done)
  else (s, .refused .conflict)

/-- SET-LANE (R32, R38, R169). -/
def State.setLaneAs (s : State) (l : LaneId) : LaneAction → State × ReplyStatus
  | .ready => s.setReady l
  | .suspend => s.setSuspend l
  | .test => s.setTest l
  | .unused => s.setUnused l
  | .clearVolatile => s.clearVolatile l

end Sys2Proof.Machine
end

