-- ==== Sys2Proof/Machine/Scrub.lean ====
section
/-! DEFINITION. The check of a record by either agent (R153), the fault map, suppress list and fault capture
(R155, R156, R159), what an uncorrectable finding does to its owner (R43, R157), and the scrub step (R154). -/

namespace Sys2Proof.Machine

/-! ## Wear (log 10) -/

/-- One persistent record's copies go bad (R178, log 10). -/
def PersistentStore.decay (t : PersistentStore) (d : Decay) : PersistentStore :=
  match d.record with
  | .settings => { t with settings := t.settings.decay d.both }
  | .slot n => t.modSlot n (fun x => x.decay d.both)
  | .lane l => t.modLane l (fun x => x.decay d.both)
  | .ceiling l => t.modCeiling l (fun x => x.decay d.both)
  | .standIn c => t.modClass c (fun x => x.decay d.both)
  | .logPlace p => t.modPlace p (fun x => x.decay d.both)
  | .epoch => { t with epoch := t.epoch.decay d.both }

/-- The bits now wrong: an upset for a position stands in place of what stood there. -/
def addUpsets (old new : List (Position × Upset)) : List (Position × Upset) :=
  new.foldl (fun l x => l.filter (fun y => y.1 ≠ x.1) ++ [x]) old

/-- What has happened to the memories takes effect. -/
def State.applyWear (s : State) (w : Wear) : State :=
  { s with upsets := addUpsets s.upsets w.upsets, store := w.decays.foldl PersistentStore.decay s.store }

/-- The wrong bits at a position. -/
def State.upsetAt (s : State) (p : Position) : Option Upset :=
  (s.upsets.find? (fun x => x.1 = p)).map Prod.snd

/-- A record is written again whole: its wrong bits are gone, but for those the memory itself holds (log 45). -/
def State.rewritten (s : State) (p : Position) : State :=
  { s with upsets := s.upsets.filter (fun x => x.1 ≠ p || x.2.stuck) }

/-! ## Recording a finding -/

/-- A finding is offered to the fault capture (R159). -/
def State.offerCapture (s : State) (p : Position) (k : FindingKind) (syn : Option Syndrome) (a : Agent) : State :=
  match s.scrub.capture with
  | none => { s with scrub := { s.scrub with capture := some ⟨p, k, syn, a, s.seconds⟩ } }
  | some _ =>
    { s with
      scrub := { s.scrub with missed := satInc Config.count8Max s.scrub.missed }
      device := { s.device with missedCaptures := satInc Config.count32Max s.device.missedCaptures } }

/-- A fault map entry changes. -/
def State.modFault (s : State) (p : Position) (f : FaultEntry → FaultEntry) : State :=
  { s with scrub := { s.scrub with map := s.scrub.map.set p (f s.scrub.map[p]) } }

/-- A pair joins the suppress list as the newest (R156). -/
def joinSuppress (l : List (Position × Syndrome)) (x : Position × Syndrome) : List (Position × Syndrome) :=
  (if l.length < Config.suppressCapacity then l else l.drop 1) ++ [x]

/-- A soft finding (R155, R156). -/
def State.softFinding (s : State) (p : Position) (syn : Syndrome) (a : Agent) : State :=
  ((s.modFault p (fun e => { e with soft := satInc Config.count8Max e.soft, syndrome := some syn })).raise
    (.scrubCorrected p syn a)).offerCapture p .soft (some syn) a

/-- SCRUB-HARD is raised unless the pair is suppressed (R156). -/
def State.reportHard (s : State) (p : Position) (syn : Syndrome) (a : Agent) : State :=
  if (p, syn) ∈ s.scrub.suppress then s
  else
    let t := s.raise (.scrubHard p syn a)
    { t with scrub := { t.scrub with suppress := joinSuppress t.scrub.suppress (p, syn) } }

/-- A hard finding (R155, R156). -/
def State.hardFinding (s : State) (p : Position) (syn : Syndrome) (a : Agent) : State :=
  ((s.modFault p (fun e =>
    { e with soft := satInc Config.count8Max e.soft, hard := true, syndrome := some syn })).reportHard p syn
      a).offerCapture p .hard (some syn) a

/-! ## The owners of an uncorrectable record -/

/-- A slot record without its key, as a FAULTED slot's working copy is rebuilt (R43, R157). -/
def State.faultedSlot (s : State) (n : SlotId) : SlotRecord :=
  match s.slotCopy n with
  | some p => ⟨.faulted, p.usage, p.generation, p.check, none, p.bound⟩
  | none => ⟨.faulted, (s.slot n).usage, Config.generationMax, (s.slot n).check, none, []⟩

/-- A lane that names a slot now FAULTED enters FAULTED (R34). -/
def State.faultNaming (s : State) (n : SlotId) (l : LaneId) : State :=
  let c := (s.lane l).config
  if c.link = some n then s.faultLane l .linkKey
  else if c.base = some n then s.faultLane l .baseKey
  else s

/-- Every lane that names a slot now FAULTED enters FAULTED, in ascending order (R34, log 34). -/
def State.faultLanesOf (s : State) (n : SlotId) : State := allLanes.foldl (fun t l => t.faultNaming n l) s

/-- A slot's working copy is found uncorrectable (R43, R157). -/
def State.faultSlot (s : State) (n : SlotId) : State :=
  let r := s.faultedSlot n
  let was := (s.slot n).state
  let t := (s.setSlot n r).rewritten (slotPosition n)
  if was = .faulted then t
  else ((t.raise (.slotFaulted n r.usage)).queueSlotState n r).faultLanesOf n

/-- The settings block is found uncorrectable (R157). -/
def State.faultSettings (s : State) : State :=
  (({ s with settings := factorySettings }).rewritten settingsPosition).raise
    (.persistFail .scrub none (some (.position settingsPosition)))

/-- The owner of a position acts on an uncorrectable finding (R157). -/
def State.ownerActs (s : State) (p : Position) : State :=
  if h : p.val < 96 then s.faultSlot ⟨p.val, h⟩
  else if h : p.val - 96 < 48 then (s.rewritten p).faultRecord ⟨p.val - 96, h⟩
  else s.faultSettings

/-- An uncorrectable finding (R155, R157, R159). -/
def State.uncorrectableFinding (s : State) (p : Position) (a : Agent) : State :=
  ((s.modFault p (fun e => { e with uncorrectable := true })).offerCapture p .uncorrectable none a).ownerActs p

/-- A check of one record (R153): the state after it, and whether the record could be read. A single wrong bit is
written back and read again: right (soft), wrong (hard), or past correcting (uncorrectable). -/
def State.checkRecord (s : State) (p : Position) (a : Agent) : State × Bool :=
  match s.upsetAt p with
  | none => (s, true)
  | some (.single syn stuck) =>
    if stuck then (s.hardFinding p syn a, true) else ((s.rewritten p).softFinding p syn a, true)
  | some (.worsening _ _) => (s.uncorrectableFinding p a, false)
  | some (.uncorrectable _) => (s.uncorrectableFinding p a, false)

/-! ## The walk (R154) -/

/-- The position after one in the walk. -/
def nextPosition (p : Position) : Position := if h : p.val + 1 < 145 then ⟨p.val + 1, h⟩ else 0

/-- Whether a position is a slot inside a GRANTED range. -/
def State.heldPosition (s : State) (p : Position) : Bool := decide (p.val < 96) && s.held p.val

/-- The first position not held, from one on (R154). -/
def State.walkFrom (s : State) : (fuel : Nat) → Position → Position
  | 0, p => p
  | k + 1, p => if s.heldPosition p then s.walkFrom k (nextPosition p) else p

/-- A scrub step is taken (R154). The interval is read as the step is taken: before the check, when that finds the
settings block uncorrectable (log 50). -/
def State.scrubWalk (s : State) : State :=
  let p := s.walkFrom 145 s.scrub.walk
  let t := (s.checkRecord p .scrubber).1
  { t with scrub := { t.scrub with walk := nextPosition p, nextStep := s.clock + s.settings.scrubInterval } }

end Sys2Proof.Machine
end

