-- ==== Sys2Proof/Machine/Monitor.lean ====
section
/-! DEFINITION. The Chain Link Monitor (6.6): probes, echoes, valid envelopes, carrier, and what a passage does
outside it (R112 to R115). -/

namespace Sys2Proof.Machine

/-- A probe number's count (R113): its lower 22 bits. -/
def probeCount (n : ChainSeq) : Nat := n.toNat % Config.runningNumbers

/-- The number with an epoch above and a count below (R65, R113). -/
def epochNumber (epoch count : Nat) : ChainSeq := BitVec.ofNat 32 (epoch * Config.runningNumbers + count)

def State.setMonitor (s : State) (m : Monitor) : State := { s with monitor := m }

/-- The probe timer restarts (R113): only with C-port carrier and in SERVING. -/
def State.restartProbeTimer (s : State) : State :=
  if (s.port .c).carrier = true ∧ s.phase = .serving then
    s.setMonitor { s.monitor with timer := some (s.after s.settings.probeInterval) }
  else s

/-- A PROBE (6.1, R50, R113). -/
def State.probe (s : State) (n : ChainSeq) : Envelope :=
  ⟨.probe, 0, n, 0, 0, .live, [],
    Config.tag (s.controlKey .c) .probeOut (Envelope.tagInput .probe 0 n 0 0 .live [])⟩

/-- The monitor sends a probe (R113): nothing when the Send Queue has no free place. -/
def State.sendProbe (s : State) : State :=
  if s.sendPlaceFree then
    let wraps : Bool := decide (Config.counterMax ≤ probeCount s.monitor.lastProbe)
    let count := if wraps then 1 else probeCount s.monitor.lastProbe + 1
    let n := epochNumber s.epoch count
    (s.setMonitor { s.monitor with
      lastProbe := n
      lastEcho := if wraps then 0 else s.monitor.lastEcho }).placeEnvelope (s.probe n)
  else s

/-- The monitor passes into DOWN (R115). -/
def State.passDown (s : State) (missed : Nat) (cause : DownCause) : State :=
  let t := s.setMonitor { s.monitor with state := .down, missed := missed }
  match s.monitor.state with
  | .up => (t.broadcastTills (.chainState .down)).raise (.chainDown cause)
  | .suspect => t.raise (.chainDown cause)
  | .down => t

/-- The effect of an expiry on the missed count and the state (R112). -/
def State.missProbe (s : State) : State :=
  let n := satInc Config.count8Max s.monitor.missed
  match s.monitor.state with
  | .up => if s.settings.missLimit ≤ 1 then s.passDown 1 .probes
    else s.setMonitor { s.monitor with state := .suspect, missed := 1 }
  | .suspect => if s.settings.missLimit ≤ n then s.passDown n .probes
    else s.setMonitor { s.monitor with missed := n }
  | .down => s.setMonitor { s.monitor with missed := n }

/-- The probe timer expires (R112, R113). -/
def State.probeExpired (s : State) : State := (s.missProbe.sendProbe).restartProbeTimer

/-- A valid chain envelope is taken by the monitor (R112 to R115), whether or not the C-port has carrier (log 49). -/
def State.validEnvelope (s : State) (k : EnvelopeKind) : State :=
  let t := s.setMonitor { s.monitor with state := .up, missed := 0 }
  let u := match s.monitor.state with
    | .down => (t.broadcastTills (.chainState .up)).raise (.chainUp k)
    | .suspect => t
    | .up => t
  u.restartProbeTimer

/-- Whether a PROBE-ECHO passes its checks (R114). -/
def State.echoValid (s : State) (e : Envelope) : Bool :=
  decide (e.tag = Config.tag (s.controlKey .c) .probeIn e.covered) &&
    decide (e.seq.toNat / Config.runningNumbers = s.epoch) &&
    decide (probeCount s.monitor.lastEcho < probeCount e.seq) &&
    decide (probeCount e.seq ≤ probeCount s.monitor.lastProbe)

/-- A PROBE-ECHO is handed to the monitor (R105, R114). -/
def State.takeEcho (s : State) (e : Envelope) : State :=
  if s.echoValid e then (s.setMonitor { s.monitor with lastEcho := e.seq }).validEnvelope .probeEcho
  else s.countUnmatched

/-- The C-port loses carrier, at the monitor (R112). -/
def State.carrierGone (s : State) : State :=
  (s.passDown s.settings.missLimit .carrier).setMonitor
    { (s.passDown s.settings.missLimit .carrier).monitor with timer := none }

/-- The C-port's carrier is there (R112, R113): a probe is sent and the timer starts, in SERVING. -/
def State.firstProbe (s : State) : State :=
  if s.phase = .serving ∧ (s.port .c).carrier = true then (s.sendProbe).restartProbeTimer else s

end Sys2Proof.Machine
end

