-- ==== Sys2Proof/Machine/Exchanges.lean ====
section
/-! DEFINITION. The Exchange Table and the Deferred Log: allocation, freeing and deadlines (R79 to R102), and
appending, updating, removing and draining log entries (R122 to R136). -/

namespace Sys2Proof.Machine

/-! ## The Exchange Table -/

/-- An entry is allocated (R81). -/
def State.allocate (s : State) (i : EntryId) (e : Exchange) : State :=
  { s.setExchange i (some { e with stamp := s.nextStamp }) with nextStamp := s.nextStamp + 1 }

/-- An entry is freed (R82). -/
def State.free (s : State) (i : EntryId) : State := s.setExchange i none

/-- A lane's open payment becomes absent (R26). -/
def State.closePayment (s : State) (l : LaneId) : State := s.modLane l (fun r => { r with openPayment := none })

/-- A PAYMENT in AWAITING enters REVERSAL-DUE (R91). -/
def State.reversalDue (s : State) (i : EntryId) (e : Exchange) (cause : ReversalCause) : State :=
  (s.setExchange i (some { e with state := .reversalDue, orig := some e.seq, cause := some cause })).closePayment
    e.lane

/-- The deadline of a PAYMENT in AWAITING is taken (R84). -/
def State.paymentTimesOut (s : State) (i : EntryId) (e : Exchange) : State :=
  let t := s.reversalDue i e .timeout
  ((t.sendEarlier e.lane e.xchg .timedOut (t.handKey e.lane)).countTimeout e.lane).raise
    (.exchangeTimeout e.lane i e.xchg e.seq)

/-- A reversal is abandoned (R95). -/
def State.abandonReversal (s : State) (i : EntryId) (e : Exchange) : State :=
  ((s.free i).dropItem e.lane (.exchange i)).raise (.reversalAbandoned e.lane e.orig)

/-! ## The Deferred Log: appending (R123 to R125) -/

/-- LOG-HIGH when the reservation of an entry of a kind brings the log to its 769th (R123). -/
def State.reserveTest (s : State) (k : LogKind) : State :=
  if s.log.length = Config.logHighMark then
    s.raise (.logHigh (s.log.length + 1) (s.logPaymentTotal + if k = .payment then 1 else 0))
  else s

/-- An entry joins the log (R123): in its place, as the newest. -/
def State.joinLog (s : State) (p : PlaceId) (e : LogEntry) : State :=
  { s with
    log := s.log ++ [{ e with place := p, serial := s.nextSerial }]
    nextSerial := s.nextSerial + 1 }

/-- An entry is reserved and filled at once (R71, R76, R77, R123). -/
def State.reserve (s : State) (p : PlaceId) (e : LogEntry) : State := (s.reserveTest e.kind).joinLog p e

/-- A log entry with its position, by serial. -/
def State.logEntry (s : State) (serial : Nat) : Option LogEntry := s.log.find? (fun e => e.serial = serial)

/-- Take an entry out of the log; its place is given back. -/
def State.unlog (s : State) (serial : Nat) : State := { s with log := s.log.filter (fun e => e.serial ≠ serial) }

/-- Replace an entry of the log in its position. -/
def State.relog (s : State) (e : LogEntry) : State :=
  { s with log := s.log.map (fun x => if x.serial = e.serial then e else x) }

/-- The cancel replies that wait on removals of an entry. -/
def cancelsOf (serial : Nat) (ws : List Write) : List CancelReply :=
  ws.filterMap (fun w => match w with
    | .removal _ n c => if n = serial then c else none
    | _ => none)

/-- The refusal CHAIN-DOWN of a PAY whose append failed (R125): to the PAY's source station (R9, log 27). -/
def State.refuseAppend (s : State) (e : LogEntry) (src : Option Mac) (till : Nat) : State :=
  let c := (s.lane e.lane).config
  (s.handTill (src.getD (c.station.getD Config.broadcast)) (c.till.getD till) e.xchg (.refused .chainDown)
    (s.handKey e.lane)).countRefusal e.lane .chainDown

/-- The removal writes that wait behind a failed append leave the queue: there is nothing to remove (R126,
R132). -/
def State.dropRemovals (s : State) (serial : Nat) : State :=
  { s with persist := { s.persist with waiting := s.persist.waiting.filter (fun w => !w.isRemovalOf serial) } }

/-- An entry whose append failed leaves the log, and its item the recent list, unless the till has cancelled it
already (R125). -/
def State.dropAppended (s : State) (e : LogEntry) : State :=
  match s.logEntry e.serial with
  | some _ => (s.unlog e.serial).dropItem e.lane (.log e.place)
  | none => s

/-- The append write of an entry fails (R125); `cancels` are the replies of the till's cancel of it. -/
def State.appendFailed (s : State) (e : LogEntry) (src : Option Mac) (till : Nat) (cancels : List CancelReply) :
    State :=
  let t := (s.dropAppended e).writeFailed .append (.logPlace e.place)
  match e.kind with
  | .payment => cancels.foldl (fun u c => u.cancelReply (some c)) (t.refuseAppend e src till)
  | .reversal => t.raise (.reversalAbandoned e.lane e.orig)

/-- The append write of a reserved entry is queued (R123). -/
def State.queueAppend (s : State) (serial : Nat) (src : Option Mac) (till : Nat) : State :=
  match s.logEntry serial with
  | some e => s.enqueue (fun ws => ws ++ [.append e src till]) (fun t => t.appendFailed e src till [])
  | none => s

/-- The append write of an entry completes (R124). -/
def State.appendDone (s : State) (e : LogEntry) : State :=
  let t := match s.logEntry e.serial with
    | some x => s.relog { x with written := true }
    | none => s
  match e.kind with
  | .payment => (t.sendEarlier e.lane e.xchg .deferred (t.handKey e.lane)).countDeferred e.lane
  | .reversal => t

/-! ## Removing and draining -/

/-- An entry is removed from the log, with its removal write (R126). -/
def State.removeEntry (s : State) (e : LogEntry) (c : Option CancelReply) : State := (s.unlog e.serial).queueRemoval e c

/-- The oldest QUEUED entry (R127). -/
def State.oldestQueued (s : State) : Option LogEntry := s.log.find? (fun e => e.state = .queued)

/-- The drain's test (R127): the entry it sends, and the exchange entry it allocates. -/
def State.drainTest (s : State) : Option (LogEntry × EntryId) :=
  match s.oldestQueued, s.freeEntry with
  | some e, some i =>
    if s.monitor.state = .up ∧ s.logSent < Config.drainWindow ∧ Config.drainReserve < s.freeEntries ∧
        s.sendPlaceFree = true ∧ e.written = true then some (e, i) else none
  | _, _ => none

/-- The LOG-SEND entry of a log entry (R97). -/
def State.logSendEntry (s : State) (e : LogEntry) : Exchange where
  kind := .logSend
  state := .awaiting
  lane := e.lane
  xchg := e.xchg
  seq := e.seq
  orig := e.orig
  cause := none
  base := e.base
  gen := e.gen
  counter := e.counter
  cardClass := e.cardClass
  deadline := s.after s.settings.reversalTimeout
  repeatDue := false
  logRef := some e.place
  stamp := 0

/-- The drain sends an entry (R128). -/
def State.drain (s : State) (e : LogEntry) (i : EntryId) : State :=
  let sent := { e with state := .sent, sentBefore := true }
  let t := ((s.allocate i (s.logSendEntry e)).relog sent).queueUpdate sent
  let u := if e.kind = .reversal ∧ e.sentBefore = false then t.countReversal e.lane else t
  u.placeEnvelope e.message

/-- The deadline of a LOG-SEND entry is taken (R131). -/
def State.logSendTimesOut (s : State) (i : EntryId) (x : Exchange) : State :=
  let t := s.free i
  match x.logRef.bind s.logAt with
  | none => t
  | some e =>
    let n := e.repeatCount + 1
    if Config.repeatLimit ≤ n then
      ((t.removeEntry e none).dropItem e.lane (.log e.place)).raise
        (.logEntryAbandoned ⟨some e.lane, some e.kind, some e.seq, e.orig, some e.xchg⟩)
    else
      let back := { e with state := .queued, repeatCount := n }
      (t.relog back).queueUpdate back

end Sys2Proof.Machine
end

