-- ==== Sys2Proof/Machine/Engine.lean ====
section
/-! DEFINITION. The Engine Arbiter (R59 to R63), the loading of keys (R64, R158), the grants, the hold's grant test
(R149), and a job's completion (R57). -/

namespace Sys2Proof.Machine

/-! ## The Hold Arbiter (R148, R149) -/

/-- Whether two ranges overlap. -/
def HoldRequest.overlaps (a b : HoldRequest) : Bool := decide (a.low ≤ b.high) && decide (b.low ≤ a.high)

/-- Whether the job in flight loaded a key from a slot of a range (R149). -/
def State.jobUses (s : State) (r : HoldRequest) : Bool :=
  match s.engine.job with
  | some j => j.loaded.any (fun n => decide (r.low ≤ n.val) && decide (n.val ≤ r.high))
  | none => false

/-- Whether a hold GRANTED to a port overlaps a range. -/
def Hold.blocks (h : Hold) (r : HoldRequest) : Bool :=
  match h with
  | .granted q _ => q.overlaps r
  | .pending _ => false
  | .none => false

/-- The grant test of one port's hold (R149, R168): a PENDING hold that passes becomes GRANTED and its second reply
is handed to the port. -/
def State.grantHold (s : State) (p : Port) : State :=
  match (s.ctl p).hold with
  | .pending r =>
    if s.jobUses r = false ∧ (s.ctl p.opposite).hold.blocks r = false then
      let t := s.setCtl p { s.ctl p with hold := .granted r (s.after s.settings.holdLimit) }
      t.reply p r.source r.number holdRequestCode .granted (.hold true r.low r.high) (t.controlKey p) false
    else s
  | .granted _ _ => s
  | .none => s

/-- The grant test of every PENDING hold, the S-port's first (R149). -/
def State.grantHolds (s : State) : State := (s.grantHold .s).grantHold .c

/-- A job completes (R57): the engine is IDLE and the Hold Arbiter makes its grant test. -/
def State.finishJob (s : State) : State := State.grantHolds { s with engine := { s.engine with job := none } }

/-! ## What is eligible -/

/-- An answer's entry as the arbiter finds it (R61). -/
def State.currentMatch (s : State) (env : Envelope) : Option (EntryId × Exchange) :=
  s.findEntry (fun e => e.seq == env.seq && (e.state == .awaiting || e.state == .reversing || e.kind == .logSend))

/-- Whether an answer is eligible (R61). -/
def State.answerEligible (s : State) (env : Envelope) : Bool :=
  match s.currentMatch env with
  | some (_, e) => !s.held e.base.val && !(e.kind == .payment && s.heldOpt (s.lane e.lane).config.link)
  | none => true

/-- Whether a lane has a value to take or need not wait for one (R52, R62). -/
def LaneRecord.hasValue (r : LaneRecord) : Bool :=
  decide (r.counter < r.config.ceiling) || decide (r.config.ceiling = Config.counterEnd)

/-- Whether an entry is eligible reversal work (R62). -/
def State.reversalEligible (s : State) (e : Exchange) : Bool :=
  let r := s.lane e.lane
  !s.heldOpt r.config.base && (r.hasValue || decide (r.config.state = .faulted .ceiling)) &&
    (match e.state with
     | .reversalDue => s.sendPlaceFree
     | .reversing => e.repeatDue
     | .awaiting => false)

/-- Of two candidates, the one with the earlier deadline, the first on a tie (R60). -/
def earlier (a : Option (EntryId × Exchange)) (b : EntryId × Exchange) : Option (EntryId × Exchange) :=
  match a with
  | some x => if b.2.deadline < x.2.deadline then some b else some x
  | none => some b

/-- The reversal work the arbiter takes (R60): the earliest deadline, then the lower index. -/
def State.nextReversal (s : State) : Option (EntryId × Exchange) :=
  (List.finRange 160).foldl (fun best i => match s.exchange i with
    | some e => if s.reversalEligible e then earlier best (i, e) else best
    | none => best) none

/-- Whether a lane's slots are usable: a lane job is never granted on a lane whose slots are not (R64; log 52). -/
def State.keysUsable (s : State) (l : LaneId) : Bool := (s.linkKey l).isSome && (s.laneBaseKey l).isSome

/-- Whether a lane's mailbox is granted and not skipped (R63). -/
def State.mailboxEligible (s : State) (l : LaneId) : Bool :=
  let r := s.lane l
  match r.mailbox with
  | none => false
  | some _ =>
    !s.heldOpt r.config.link && !s.heldOpt r.config.base && r.hasValue && s.sendPlaceFree && s.keysUsable l

/-- The round-robin's order: from the lane after the last served one to that lane itself (R63). -/
def roundRobin (last : LaneId) : List LaneId :=
  allLanes.filter (fun l => last < l) ++ allLanes.filter (fun l => l ≤ last)

/-- The work the arbiter may grant. -/
inductive Work where
  | answer (env : Envelope) (rest : List Envelope)
  | reversal (i : EntryId) (e : Exchange)
  | mailbox (l : LaneId) (f : LaneFrame)
deriving DecidableEq, Repr

/-- The mailbox the round-robin comes to (R63). -/
def State.nextMailbox (s : State) : Option Work :=
  match (roundRobin s.engine.lastServed).find? s.mailboxEligible with
  | some l => (s.lane l).mailbox.map (.mailbox l)
  | none => none

/-- The work the arbiter grants (R60): answers, then reversal work, then mailboxes. -/
def State.nextWork (s : State) : Option Work :=
  match takeFirst s.answerEligible s.answerQueue with
  | some (env, rest) => some (.answer env rest)
  | none =>
    match s.nextReversal with
    | some (i, e) => some (.reversal i e)
    | none => s.nextMailbox

/-! ## Loading keys (R64, R158) -/

/-- The load of a key that is usable, with the engine-side check of its slot: no copy when the check finds the slot
uncorrectable. -/
def State.loadKey (s : State) (k : LoadedKey) : State × Option LoadedKey :=
  match s.checkRecord (slotPosition k.slot) .engine with
  | (t, true) => (t, some k)
  | (t, false) => (t, none)

/-- The load of a key that may not be usable: one that is not is not loaded. -/
def State.loadIfUsable (s : State) (k : Option LoadedKey) : State × Option LoadedKey :=
  match k with
  | some k => s.loadKey k
  | none => (s, none)

/-- The engine holds a job. -/
def State.startJob (s : State) (j : Job) : State := { s with engine := { s.engine with job := some j } }

/-! ## Grants -/

/-- A lane job that its key loading ends (R64): refused FAULTED, tagged at handing. -/
def State.endAtLoad (s : State) (l : LaneId) (f : LaneFrame) : State := (s.refuseAtHand l f .faulted).finishJob

/-- A lane job that needs the base key starts, or ends at the load of it (R58, R64). -/
def State.startWithBase (s : State) (l : LaneId) (f : LaneFrame) (link : LoadedKey) (mk : LoadedKey → LaneWork) :
    State :=
  match s.laneBaseKey l with
  | none => s.endAtLoad l f
  | some k =>
    match s.loadKey k with
    | (t, some base) => t.startJob (.lane l f link (mk base))
    | (t, none) => t.endAtLoad l f

/-- The keys of a lane job are loaded, the link key first (R58, R64). -/
def State.loadLane (s : State) (l : LaneId) (f : LaneFrame) : State :=
  match s.linkKey l with
  | none => s.endAtLoad l f
  | some k =>
    match s.loadKey k with
    | (t, none) => t.endAtLoad l f
    | (t, some link) =>
      match f.kind with
      | .pay =>
        if (t.lane l).config.state = .test then t.startJob (.lane l f link .payTest)
        else t.startWithBase l f link .pay
      | .reverse => t.startWithBase l f link .reverse
      | .enrol => t.startJob (.lane l f link .enrol)
      | .askState => t.startJob (.lane l f link .askState)

/-- The grant of a mailbox (R23, R63): the frame leaves it, is checked again, and becomes the lane job. -/
def State.grantMailbox (s : State) (l : LaneId) (f : LaneFrame) : State :=
  let t := { s.modLane l (fun r => { r with mailbox := none }) with engine := { s.engine with lastServed := l } }
  match grantCheck (t.lane l) f with
  | some reason => (t.refuseAtHand l f reason).finishJob
  | none => t.loadLane l f

/-- The grant of an answer (R58, R61): the base key first, then the link key of a PAYMENT entry's lane. -/
def State.grantAnswer (s : State) (env : Envelope) (rest : List Envelope) : State :=
  let t := { s with answerQueue := rest }
  match s.currentMatch env with
  | none => t.startJob (.answer env none none none none)
  | some (i, e) =>
    let b := t.loadIfUsable (t.baseKey e.base e.gen)
    let k := b.1.loadIfUsable (if e.kind = .payment then b.1.linkKey e.lane else none)
    k.1.startJob (.answer env (some (i, e.stamp)) (some e.lane) b.2 k.2)

/-- The grant of reversal work (R58, R62). -/
def State.grantReversal (s : State) (i : EntryId) (e : Exchange) : State :=
  let b := s.loadIfUsable (s.laneBaseKey e.lane)
  match e.state with
  | .reversalDue => b.1.startJob (.reversal i e.lane b.2)
  | .reversing => b.1.startJob (.repetition i e.lane b.2)
  | .awaiting => s

/-- A grant. -/
def State.grant (s : State) : Work → State
  | .answer env rest => s.grantAnswer env rest
  | .reversal i e => s.grantReversal i e
  | .mailbox l f => s.grantMailbox l f

/-- The Engine Arbiter looks for work (R60): nothing in STARTING, while a job is in flight, or when no work is
eligible (log 6, log 16). -/
def State.arbitrate (s : State) (w : Wear) : State :=
  if s.phase = .serving ∧ s.engine.job = none then
    match s.nextWork with
    | some work => (s.applyWear w).grant work
    | none => s
  else s

end Sys2Proof.Machine
end

