-- ==== Sys2Proof/Machine/Operands.lean ====
section
/-! DEFINITION. Reading the frames the part receives (R186, chapter 13): the outer checks of lane frames (R6) and
of envelopes (R104), the form of control frames (R162), and the arguments of each control request (R165, R139,
R166). Every reader is total on any bytes. -/

namespace Sys2Proof.Machine

/-! ## Lane frames (13.1.1) -/

/-- The kind a lane frame's kind byte names (13.1.3). -/
def readLaneKind (n : Nat) : Option LaneKind :=
  match n with
  | 1 => some .pay
  | 2 => some .reverse
  | 3 => some .enrol
  | 4 => some .askState
  | _ => none

/-- What the outer checks make of a lane frame (R6). -/
inductive LaneRead where
  /-- Too short to hold the till number and the till exchange number: dropped. -/
  | tooShort
  /-- Refused MALFORMED, with the two numbers as the frame gave them. -/
  | malformed (till xchg : Nat)
  | good (f : LaneFrame)
deriving DecidableEq, Repr

/-- Whether a lane frame's reverse target suits its kind: present exactly in a REVERSE (R6). -/
def targetSuits (kind : LaneKind) (target : Nat) : Bool :=
  match kind with
  | .reverse => target != 0
  | _ => target == 0

/-- The outer checks of a lane frame (R6, R186), on the payload laid out by 13.1.1. -/
def readLaneFrame (f : EthFrame) : LaneRead :=
  match numField f.payload 0 2, numField f.payload 2 2 with
  | some till, some xchg =>
    match numField f.payload 4 1, numField f.payload 5 2, numField f.payload 7 2 with
    | some k, some target, some len =>
      match readLaneKind k, field f.payload 9 len, numField f.payload (9 + len) 8 with
      | some kind, some body, some tag =>
        if till = 0 ∨ xchg = 0 ∨ Config.bodyMax < len ∨ f.payload.length ≠ 9 + len + 8 ∨
            targetSuits kind target = false then
          .malformed till xchg
        else
          .good ⟨f.src, kind, till, xchg, if target = 0 then none else some target, body,
            BitVec.ofNat 64 tag⟩
      | _, _, _ => .malformed till xchg
    | _, _, _ => .malformed till xchg
  | _, _ => .tooShort

/-! ## Chain envelopes (13.2) -/

/-- The kind an inbound envelope's kind byte names (R104: only the three inbound kinds). -/
def readInboundKind (n : Nat) : Option EnvelopeKind :=
  match n with
  | 17 => some .answer
  | 18 => some .reversalAck
  | 19 => some .probeEcho
  | _ => none

/-- The origin a byte names (13.2). -/
def readOrigin (n : Nat) : Option Origin :=
  match n with
  | 1 => some .live
  | 2 => some .deferred
  | 3 => some .repeated
  | _ => none

/-- A received envelope frame that passed the envelope outer checks (R104). `env.body` holds the body bytes this
frame carries; the other segment's are not here. -/
structure SegmentRead where
  env : Envelope
  index : Nat
  count : Nat
  bodyLength : Nat
deriving DecidableEq, Repr

/-- Whether the segment fields, the body length and the bytes carried agree (R104). -/
def segmentSuits (kind : EnvelopeKind) (index count bodyLength carried : Nat) : Bool :=
  if Config.bodyMax < bodyLength then false
  else if count = 1 then
    index == 1 && decide (bodyLength ≤ Config.segmentMax) && carried == bodyLength
  else if count = 2 then
    decide (Config.segmentMax < bodyLength) && kind != .probeEcho &&
      ((index == 1 && carried == Config.segmentMax) ||
        (index == 2 && carried == bodyLength - Config.segmentMax))
  else false

/-- The envelope outer checks (R104, R186), on the payload laid out by 13.2. -/
def readEnvelope (f : EthFrame) : Option SegmentRead :=
  if f.payload.length < 34 then none
  else
    let carried := f.payload.length - 34
    match numField f.payload 0 1, numField f.payload 1 8, numField f.payload 9 4, numField f.payload 13 4,
      numField f.payload 17 4, numField f.payload 21 1 with
    | some k, some identity, some seq, some orig, some counter, some org =>
      match numField f.payload 22 1, numField f.payload 23 1, numField f.payload 24 2,
        field f.payload 26 carried, numField f.payload (26 + carried) 8 with
      | some index, some count, some len, some body, some tag =>
        match readInboundKind k, readOrigin org with
        | some kind, some origin =>
          if segmentSuits kind index count len carried then
            some ⟨⟨kind, BitVec.ofNat 64 identity, BitVec.ofNat 32 seq, BitVec.ofNat 32 orig, counter, origin,
              body, BitVec.ofNat 64 tag⟩, index, count, len⟩
          else none
        | _, _ => none
      | _, _, _, _, _ => none
    | _, _, _, _, _, _ => none

/-! ## Control frames (13.3.1) -/

/-- A control frame that is long enough for a control number, a request and a tag (R162). -/
structure ControlFrame where
  src : Mac
  frameClass : Nat
  number : ControlNumber
  request : Byte
  /-- The arguments; none when the argument length does not agree with the frame. -/
  args : Option Bytes
  /-- What the tag covers (R50). -/
  covered : Bytes
  tag : Tag
deriving DecidableEq, Repr

/-- The form of a control frame (R162): none when it is too short. -/
def readControl (f : EthFrame) : Option ControlFrame :=
  if f.payload.length < 14 then none
  else
    let fields := f.payload.take (f.payload.length - 8)
    match numField f.payload 0 1, numField f.payload 1 4, numField f.payload 5 1,
      numField f.payload (f.payload.length - 8) 8 with
    | some cls, some number, some request, some tag =>
      let args := match numField fields 6 2 with
        | some len => if fields.length = 8 + len then field fields 8 len else none
        | none => none
      some ⟨f.src, cls, BitVec.ofNat 32 number, BitVec.ofNat 8 request, args, controlTagInput f.src fields,
        BitVec.ofNat 64 tag⟩
    | _, _, _, _ => none

/-- The tables ASK can name (R166). -/
inductive AskTable where
  | lane
  | slot
  | standIn
  | settings
  | exchange
  | log
  | counters
  | faults
  | events
deriving DecidableEq, Repr

/-- The table a code names (13.3.1). -/
def readAskTable (n : Nat) : Option AskTable :=
  match n with
  | 1 => some .lane
  | 2 => some .slot
  | 3 => some .standIn
  | 4 => some .settings
  | 5 => some .exchange
  | 6 => some .log
  | 7 => some .counters
  | 8 => some .faults
  | 9 => some .events
  | _ => none

/-- The action of SET-LANE a code names (13.3.1). -/
def readAction (n : Nat) : Option LaneAction :=
  match n with
  | 1 => some .ready
  | 2 => some .suspend
  | 3 => some .test
  | 4 => some .unused
  | 5 => some .clearVolatile
  | _ => none

/-- The slot usage a code names (13.3.1). -/
def readUsage (n : Nat) : Option SlotUsage :=
  match n with
  | 1 => some .control
  | 2 => some .link
  | 3 => some .base
  | 4 => some .test
  | _ => none

/-- The notice destination a code names (13.3.1). -/
def readDestination (n : Nat) : Option Destination :=
  match n with
  | 1 => some .shop
  | 2 => some .chain
  | 3 => some .both
  | _ => none

/-- The index argument of STAGE (13.3.1). -/
inductive StageIndex where
  | given (n : Nat)
  | next
deriving DecidableEq, Repr

/-- What a control request asks (R165), with its arguments read. -/
inductive Request where
  | ask (table : AskTable) (first count : Nat) (clear : Bool)
  /-- `record` is undecoded: it is decoded once the index is resolved (R139). -/
  | stage (table : Nat) (index : Nat) (record : Bytes)
  | commit
  | discard
  | hold (low high : Nat)
  | release
  | setLane (lane : Nat) (action : LaneAction)
  | restart
deriving DecidableEq, Repr

/-- A request without arguments (13.3.1). -/
def bare (r : Request) (args : Bytes) : Option Request := if args = [] then some r else none

/-- The arguments of ASK (13.3.1). -/
def readAsk (a : Bytes) : Option Request :=
  if a.length = 5 then
    match numField a 0 1, numField a 1 2, numField a 3 1, numField a 4 1 with
    | some t, some first, some count, some c =>
      match readAskTable t, readFlag c with
      | some table, some clear => some (.ask table first count clear)
      | _, _ => none
    | _, _, _, _ => none
  else none

/-- The arguments of STAGE (13.3.1), the record undecoded. -/
def readStage (a : Bytes) : Option Request :=
  match numField a 0 1, numField a 1 2, numField a 3 2 with
  | some t, some index, some len =>
    if a.length = 5 + len then (field a 5 len).map (.stage t index) else none
  | _, _, _ => none

/-- The arguments of HOLD (13.3.1). -/
def readHold (a : Bytes) : Option Request :=
  if a.length = 2 then
    match numField a 0 1, numField a 1 1 with
    | some low, some high => some (.hold low high)
    | _, _ => none
  else none

/-- The arguments of SET-LANE (13.3.1). -/
def readSetLane (a : Bytes) : Option Request :=
  if a.length = 2 then
    match numField a 0 1, numField a 1 1 with
    | some lane, some act => (readAction act).map (.setLane lane)
    | _, _ => none
  else none

/-- The request of an accepted control frame (R165): none when it is not one of the eight, when the frame is of a
class other than REQUEST (13.3), or when its arguments cannot be read. -/
def ControlFrame.read (f : ControlFrame) : Option Request :=
  if f.frameClass ≠ 1 then none
  else
    match f.args with
    | none => none
    | some a =>
      match f.request.toNat with
      | 1 => readAsk a
      | 2 => readStage a
      | 3 => bare .commit a
      | 4 => bare .discard a
      | 5 => readHold a
      | 6 => bare .release a
      | 7 => readSetLane a
      | 8 => bare .restart a
      | _ => none

/-! ## Staged records (R138, 13.3.1) -/

/-- A station address field: six zero bytes stage an absent address (13.3.1). -/
def readStation (n : Nat) : Option Mac := if n = 0 then none else some (BitVec.ofNat 48 n)

/-- A LANE record: 21 bytes. -/
def readLaneRecord (b : Bytes) : Option StagedLane :=
  if b.length = 21 then
    match numField b 0 2, numField b 2 8, numField b 10 6, numField b 16 1 with
    | some till, some identity, some station, some fz =>
      match readFlag fz, numField b 17 1, numField b 18 1, numField b 19 2 with
      | some frozen, some link, some base, some classes =>
        some ⟨till, BitVec.ofNat 64 identity, readStation station, frozen, link, base, BitVec.ofNat 16 classes⟩
      | _, _, _, _ => none
    | _, _, _, _ => none
  else none

/-- A SLOT record: ERASE, or WRITE with the key unwrapped under the given control key (R139). -/
def readSlotRecord (key : Key) (b : Bytes) : Option StagedRecord :=
  match numField b 0 1 with
  | some 1 =>
    if b.length = 29 then
      match numField b 1 1, numField b 2 24, numField b 26 3 with
      | some u, some w, some c =>
        match readUsage u, unwrapKey key (BitVec.ofNat 192 w) with
        | some usage, some k => some (.slotWrite usage k (BitVec.ofNat 24 c))
        | _, _ => none
      | _, _, _ => none
    else none
  | some 2 => if b.length = 1 then some .slotErase else none
  | _ => none

/-- A STANDIN record: 12 bytes. -/
def readStandInRecord (b : Bytes) : Option ClassRecord :=
  if b.length = 12 then
    match numField b 0 1, numField b 1 4, numField b 5 4, numField b 9 2, numField b 11 1 with
    | some a, some low, some high, some cap, some timeout =>
      (readFlag a).map (fun allowed => ⟨allowed, low, high, cap, timeout⟩)
    | _, _, _, _, _ => none
  else none

/-- The notice settings of a SETTINGS record: `k` pairs from an offset on. -/
def readNotices (b : Bytes) : (k : Nat) → (offset : Nat) → Option (List NoticeSetting)
  | 0, _ => some []
  | k + 1, offset =>
    match numField b offset 1, numField b (offset + 1) 1 with
    | some e, some d =>
      match readFlag e, readDestination d, readNotices b k (offset + 2) with
      | some enabled, some destination, some rest => some (⟨enabled, destination⟩ :: rest)
      | _, _, _ => none
    | _, _ => none

/-- A list of eighteen as a vector. -/
def toNotices (l : List NoticeSetting) : Option (Vector NoticeSetting 18) :=
  if h : l.length = 18 then some ⟨l.toArray, by simpa using h⟩ else none

/-- A SETTINGS record: 64 bytes, the whole block. -/
def readSettingsRecord (b : Bytes) : Option SettingsBlock :=
  if b.length = 64 then
    match numField b 0 6, numField b 6 6, numField b 12 1, numField b 13 4, numField b 17 1 with
    | some sa, some ca, some br, some margin, some reversal =>
      match numField b 18 2, numField b 20 1, numField b 21 1, numField b 22 2, numField b 24 2,
        numField b 26 2 with
      | some probe, some miss, some reassembly, some scrub, some hold, some idle =>
        match readFlag br, (readNotices b 18 28).bind toNotices with
        | some bridging, some notices =>
          some ⟨BitVec.ofNat 48 sa, BitVec.ofNat 48 ca, bridging, margin, reversal, probe, miss, reassembly,
            scrub, hold, idle, notices⟩
        | _, _ => none
      | _, _, _, _, _, _ => none
    | _, _, _, _, _ => none
  else none

/-- The table and record of a STAGE, decoded (R139): a table that cannot be staged is none. -/
def readRecord (key : Key) (table : Nat) (b : Bytes) : Option StagedRecord :=
  match table with
  | 1 => (readLaneRecord b).map .lane
  | 2 => readSlotRecord key b
  | 3 => (readStandInRecord b).map .standIn
  | 4 => (readSettingsRecord b).map .settings
  | _ => none

/-- The table a STAGE's table code names. -/
def readStageTable (n : Nat) : Option StageTable :=
  match n with
  | 1 => some .lane
  | 2 => some .slot
  | 3 => some .standIn
  | 4 => some .settings
  | _ => none

/-! ## Bodies in clear -/

/-- The clear header of a PAY: card class and amount (R66, 13.1.1). None when it is not well formed. -/
def readHeader (b : Bytes) : Option (CardClass × Nat) :=
  match numField b 0 1, numField b 1 4 with
  | some c, some amount =>
    if h : c < 10 then
      if amount ≤ Config.amountMax then some (⟨c, h⟩, amount) else none
    else none
  | _, _ => none

/-- The outcome an ANSWER's clear body opens with (R73, 13.2). -/
def readOutcome (b : Bytes) : Option AnswerOutcome :=
  match numField b 0 1 with
  | some 1 => some .approved
  | some 2 => some .declined
  | some 3 => some .referred
  | _ => none

end Sys2Proof.Machine
end

