-- ==== Sys2Proof/Machine/Jobs.lean ====
section
/-! DEFINITION. The completions of the four kinds of job: the lane job (R65 to R72, R119 to R121, R132, R133), the
answer job (R73 to R75), the reversal job (R76) and the repeat job (R77). -/

namespace Sys2Proof.Machine

/-! ## Sequences and wrapping (R48, R65) -/

/-- The sequences the next one is compared with (R65). -/
def State.usedSeqs (s : State) : List ChainSeq :=
  s.exchanges.toList.flatMap (fun x => match x with
    | some e => e.seq :: e.orig.toList
    | none => []) ++ s.log.flatMap (fun e => e.seq :: e.orig.toList)

/-- The first running number from one on whose sequence is not in use (R65). -/
def findRunning (used : List ChainSeq) (epoch : Nat) : (fuel : Nat) → Nat → Nat
  | 0, r => r
  | k + 1, r =>
    if epochNumber epoch r ∈ used then findRunning used epoch k ((r + 1) % Config.runningNumbers) else r

/-- A sequence is assigned (R65). -/
def State.assignSeq (s : State) : ChainSeq × State :=
  let r := findRunning s.usedSeqs s.epoch (s.usedSeqs.length + 1) s.engine.running
  (epochNumber s.epoch r, { s with engine := { s.engine with running := (r + 1) % Config.runningNumbers } })

/-- A lane's terminal identity as a wrap takes it (log 31). -/
def State.laneIdentity (s : State) (l : LaneId) : TerminalId := (s.lane l).config.identity.getD 0

/-- A message wrapped under a transaction key (R48). -/
def wrap (kind : EnvelopeKind) (origin : Origin) (base : Key) (identity : TerminalId) (counter : Nat)
    (seq orig : ChainSeq) (clear : Bytes) : Envelope :=
  let k := Config.transactionKey base identity counter
  let body := encrypt k clear
  ⟨kind, identity, seq, orig, counter, origin, body,
    Config.tag k .outbound (Envelope.tagInput kind identity seq orig counter origin body)⟩

/-- What a wrap took and made: the counter value, the sequence and the envelope. -/
structure Wrapped where
  counter : Nat
  seq : ChainSeq
  env : Envelope
deriving DecidableEq, Repr

/-- A job wraps for a lane: the counter value is taken, a sequence assigned, and the message wrapped (R51, R65,
R48). -/
def State.wrapFor (s : State) (l : LaneId) (base : LoadedKey) (kind : EnvelopeKind) (origin : Origin)
    (orig : Option ChainSeq) (clear : Bytes) : Wrapped × State :=
  let c := s.takeCounter l
  let q := c.2.assignSeq
  (⟨c.1, q.1, wrap kind origin base.key (s.laneIdentity l) c.1 q.1 (orig.getD 0) clear⟩, q.2)

/-! ## Verification (R20, R25, R30, R66) -/

/-- The station address after a verified frame (R20). -/
def learnedStation (c : LaneConfig) (f : LaneFrame) : Option Mac :=
  match c.station with
  | none => some f.src
  | some a => if c.frozen = false ∧ f.kind = .enrol then some f.src else some a

/-- The lane tag verifies (R20, R25, R30). -/
def State.tagVerified (s : State) (l : LaneId) (f : LaneFrame) : State :=
  s.modLane l (fun r => { r with
    tagFailures := 0
    lastAccepted := some f.xchg
    config := { r.config with station := learnedStation r.config f } })

/-- The fifth consecutive tag failure (R30). -/
def State.suspendForTags (s : State) (l : LaneId) : State :=
  match (s.lane l).config.state with
  | .ready => s.changeState l (.suspended .tagFailures) (some (.laneSuspended l .tagFailures))
  | .test => s.changeState l (.suspended .tagFailures) (some (.laneSuspended l .tagFailures))
  | .exhausted => s.changeState l (.suspended .tagFailures) (some (.laneSuspended l .tagFailures))
  | _ => s

/-- The lane tag fails (R30, R66): REFUSED TAG first, then the count. -/
def State.tagFailed (s : State) (l : LaneId) (f : LaneFrame) (link : LoadedKey) : State :=
  let n := satInc Config.tagFailureLimit (s.lane l).tagFailures
  let t := (s.refuseInJob l f link .tag).modLane l (fun r => { r with tagFailures := n })
  if n = Config.tagFailureLimit then t.suspendForTags l else t

/-- A lane job's completion (R66): the tag decides whether its work is done. -/
def State.laneJob (s : State) (l : LaneId) (f : LaneFrame) (link : LoadedKey) (work : State → State) : State :=
  (if f.tag = f.expectedTag link.key then work (s.tagVerified l f) else s.tagFailed l f link).finishJob

/-! ## A PAY (R31, R67 to R69, R119) -/

/-- Where the deferral decision sends a payment (R119). -/
inductive Route where
  | live
  | toLog
  | refused (reason : TillReason)
deriving DecidableEq, Repr

/-- Whether a payment is eligible for stand-in (R119). -/
def State.standInEligible (s : State) (l : LaneId) (c : CardClass) (amount : Nat) : Bool :=
  let r := s.standIn[c]
  r.allowed && (s.lane l).config.classes.getLsbD c.val && decide (r.low ≤ amount) && decide (amount ≤ r.high) &&
    decide (s.logPayments l < r.laneCap) && decide (Config.logReserve < s.logFree)

/-- The deferral decision (R119). -/
def State.deferral (s : State) (l : LaneId) (c : CardClass) (amount : Nat) : Route :=
  if s.monitor.state = .up then
    if s.logCount l = 0 then .live
    else if s.standInEligible l c amount then .toLog else .refused .draining
  else if s.standInEligible l c amount then .toLog else .refused .chainDown

/-- A payment goes live (R68). -/
def State.payLive (s : State) (l : LaneId) (f : LaneFrame) (base : LoadedKey) (c : CardClass) (clear : Bytes)
    (i : EntryId) : State :=
  let w := s.wrapFor l base .payment .live none clear
  let t := (w.2.placeEnvelope w.1.env).allocate i
    ⟨.payment, .awaiting, l, f.xchg, w.1.seq, none, none, base.slot, base.gen, w.1.counter, some c,
      s.after s.standIn[c].answerTimeout, false, none, 0⟩
  ((t.modLane l (fun r => { r with openPayment := some i })).joinRecent l
    ⟨f.xchg, w.1.seq, .exchange i⟩).countLive l

/-- A payment goes to the log (R69, R123): the entry is reserved, then the value and sequence are taken and the entry is
filled. -/
def State.payToLog (s : State) (l : LaneId) (f : LaneFrame) (base : LoadedKey) (c : CardClass) (amount : Nat)
    (clear : Bytes) (p : PlaceId) : State :=
  let w := (s.reserveTest .payment).wrapFor l base .payment .deferred none clear
  let n := w.2.nextSerial
  ((w.2.joinLog p ⟨p, l, .payment, .queued, false, w.1.seq, none, none, w.1.counter, base.slot, base.gen, some c,
    some amount, f.xchg, 0, w.1.env, n, false⟩).joinRecent l ⟨f.xchg, w.1.seq, .log p⟩).queueAppend n
      (some f.src) f.till

/-- A PAY with a well formed header on a lane that is not TEST (R67). -/
def State.routePay (s : State) (l : LaneId) (f : LaneFrame) (link base : LoadedKey) (c : CardClass) (amount : Nat)
    (clear : Bytes) : State :=
  if (s.lane l).spentForPayments then s.refuseInJob l f link .exhausted
  else
    match s.deferral l c amount with
    | .refused r => s.refuseInJob l f link r
    | .live =>
      match s.freeEntry with
      | some i => s.payLive l f base c clear i
      | none => s.refuseInJob l f link .upstreamFull
    | .toLog =>
      match s.freePlace with
      | some p => s.payToLog l f base c amount clear p
      | none => s.refuseInJob l f link .chainDown

/-- A verified PAY (R66, R67). -/
def State.payWork (s : State) (l : LaneId) (f : LaneFrame) (link base : LoadedKey) : State :=
  let clear := decrypt link.key f.body
  match readHeader clear with
  | none => s.refuseInJob l f link .malformed
  | some (c, amount) => s.routePay l f link base c amount clear

/-- A verified PAY whose lane was TEST at the grant (R31, R67). -/
def State.testWork (s : State) (l : LaneId) (f : LaneFrame) (link : LoadedKey) : State :=
  let clear := decrypt link.key f.body
  match readHeader clear with
  | none => s.refuseInJob l f link .malformed
  | some _ => s.replyInHand l f (.testEcho clear) (some link.key)

/-! ## A REVERSE (R29, R70, R71, R132, R133) -/

/-- REVERSAL-TAKEN from inside the job (R70). -/
def State.takenInJob (s : State) (l : LaneId) (f : LaneFrame) (link : LoadedKey) : State :=
  s.replyInHand l f .reversalTaken (some link.key)

/-- A new reversal goes live (R71, R96). -/
def State.reverseLive (s : State) (l : LaneId) (base : LoadedKey) (target : Nat) (orig : ChainSeq) (i : EntryId) :
    State :=
  let w := s.wrapFor l base .reversal .live (some orig) (reversalBody .till target)
  let t := (w.2.placeEnvelope w.1.env).allocate i
    ⟨.reversal, .reversing, l, target, w.1.seq, some orig, some .till, base.slot, base.gen, w.1.counter, none,
      s.after s.settings.reversalTimeout, false, none, 0⟩
  (t.placeItem l target (.exchange i)).countReversal l

/-- A REVERSAL entry is appended to the log (R71, R76, R77, R123): `move` gives the recent list its new place. -/
def State.appendReversal (s : State) (l : LaneId) (base : LoadedKey) (origin : Origin) (target : Nat)
    (orig : ChainSeq) (cause : ReversalCause) (repeats : Nat) (p : PlaceId) (move : State → State) : State :=
  let w := s.wrapFor l base .reversal origin (some orig) (reversalBody cause target)
  let n := w.2.nextSerial
  (move (w.2.reserve p ⟨p, l, .reversal, .queued, false, w.1.seq, some orig, some cause, w.1.counter, base.slot,
    base.gen, none, none, target, repeats, w.1.env, n, false⟩)).queueAppend n none 0

/-- A lane job's reversal goes to the log, where one place is free; otherwise the frame is refused UPSTREAM-FULL
(R71, R121, R133). -/
def State.reverseToLog (s : State) (l : LaneId) (f : LaneFrame) (link base : LoadedKey) (target : Nat)
    (orig : ChainSeq) : State :=
  match s.freePlace with
  | some p =>
    (s.appendReversal l base .deferred target orig .till 0 p
      (fun t => t.placeItem l target (.log p))).takenInJob l f link
  | none => s.refuseInJob l f link .upstreamFull

/-- A REVERSE that must wrap a new reversal (R71). `behind`: the payment's entry is SENT in the log. -/
def State.newReversal (s : State) (l : LaneId) (f : LaneFrame) (link base : LoadedKey) (target : Nat)
    (orig : ChainSeq) (behind : Bool) : State :=
  if (s.lane l).counter = Config.counterEnd then s.refuseInJob l f link .spent
  else if behind then s.reverseToLog l f link base target orig
  else if s.monitor.state = .up ∧ s.logCount l = 0 then
    match s.freeEntry with
    | some i => (s.reverseLive l base target orig i).takenInJob l f link
    | none => s.reverseToLog l f link base target orig
  else s.reverseToLog l f link base target orig

/-- A QUEUED payment is cancelled in place (R132): REVERSAL-TAKEN follows at its removal write. -/
def State.cancelInPlace (s : State) (l : LaneId) (f : LaneFrame) (target : Nat) (e : LogEntry) : State :=
  State.queueRemoval ((s.unlog e.serial).placeItem l target .reversed) e (some ⟨l, f.xchg⟩)

/-- A REVERSE of a live payment (R70, R89). -/
def State.reverseEntry (s : State) (l : LaneId) (f : LaneFrame) (link : LoadedKey) (i : EntryId) : State :=
  match s.exchange i with
  | some e =>
    match e.kind, e.state with
    | _, .reversalDue => s.takenInJob l f link
    | _, .reversing => s.takenInJob l f link
    | .payment, .awaiting => (s.reversalDue i e .till).takenInJob l f link
    | _, .awaiting => s.refuseInJob l f link .noExchange
  | none => s.refuseInJob l f link .noExchange

/-- A REVERSE of a payment in the log (R70, R132, R133). -/
def State.reverseLogged (s : State) (l : LaneId) (f : LaneFrame) (link base : LoadedKey) (target : Nat)
    (p : PlaceId) : State :=
  match s.logAt p with
  | some e =>
    match e.kind, e.state with
    | .reversal, _ => s.takenInJob l f link
    | .payment, .queued => s.cancelInPlace l f target e
    | .payment, .sent => s.newReversal l f link base target e.seq true
  | none => s.refuseInJob l f link .noExchange

/-- A verified REVERSE (R29, R70). -/
def State.reverseWork (s : State) (l : LaneId) (f : LaneFrame) (link base : LoadedKey) : State :=
  let target := f.target.getD 0
  match (s.lane l).recent.find? (fun x => x.xchg = target) with
  | none => s.refuseInJob l f link .noExchange
  | some item =>
    match item.place with
    | .reversed => s.takenInJob l f link
    | .exchange i => s.reverseEntry l f link i
    | .done _ => s.newReversal l f link base target item.seq false
    | .log p => s.reverseLogged l f link base target p

/-! ## ENROL and ASK-STATE (R72) -/

/-- A verified ENROL or ASK-STATE: the STATE reply. -/
def State.stateWork (s : State) (l : LaneId) (f : LaneFrame) (link : LoadedKey) : State :=
  s.replyInHand l f (.state (s.lane l).config.state s.monitor.state) (some link.key)

/-! ## The answer job (R73 to R75) -/

/-- Whether an envelope is LATE (R73, case 1). -/
def State.isLate (s : State) (env : Envelope) : Bool :=
  (s.findEntry (fun e => e.orig == some env.seq && (e.state == .reversalDue || e.state == .reversing))).isSome

/-- The entry that carries a sequence as its chain sequence (R73). -/
def State.entryOf (s : State) (seq : ChainSeq) : Option (EntryId × Exchange) := s.findEntry (fun e => e.seq == seq)

/-- Whether an envelope's kind suits an entry (R73, case 4). -/
def State.suits (s : State) (env : Envelope) (e : Exchange) : Bool :=
  let logKind := ((e.logRef.bind s.logAt).map LogEntry.kind)
  match env.kind with
  | .answer => (e.kind == .payment && e.state == .awaiting) || (e.kind == .logSend && logKind == some .payment)
  | .reversalAck => e.state == .reversing || (e.kind == .logSend && logKind == some .reversal)
  | _ => false

/-- The settling of a LOG-SEND entry on the log's side (R98, R130): the entry leaves with a removal write. -/
def State.settleLogged (s : State) (e : Exchange) (settle : LogEntry → State → State) : State :=
  match e.logRef.bind s.logAt with
  | some x => settle x (s.removeEntry x none)
  | none => s

/-- DEFERRED-DECLINED of a DECLINED drained payment (R130). -/
def State.reportDeclined (s : State) (x : LogEntry) (o : AnswerOutcome) : State :=
  if o = .declined then s.raise (.deferredDeclined x.lane x.xchg (x.amount.getD 0) x.seq) else s

/-- A verified ANSWER is settled (R74). -/
def State.settleAnswer (s : State) (i : EntryId) (e : Exchange) (link : Option LoadedKey) (clear : Bytes)
    (o : AnswerOutcome) : State :=
  match e.kind with
  | .logSend =>
    (s.free i).settleLogged e (fun x t => (t.moveItem x.lane (.log x.place) (.done o)).reportDeclined x o)
  | _ =>
    ((((s.sendEarlier e.lane e.xchg (.answer clear) (link.map LoadedKey.key)).countAnswer e.lane).free
      i).closePayment e.lane).moveItem e.lane (.exchange i) (.done o)

/-- A verified REVERSAL-ACK is settled (R74, R93). -/
def State.settleAck (s : State) (i : EntryId) (e : Exchange) : State :=
  match e.kind with
  | .logSend => (s.free i).settleLogged e (fun x t => t.moveItem x.lane (.log x.place) .reversed)
  | _ => (s.free i).moveItem e.lane (.exchange i) .reversed

/-- An answer's entry without a usable base key is settled without verifying (R75). -/
def State.settleUnverified (s : State) (i : EntryId) (e : Exchange) : State :=
  let t := s.countUnmatched
  match e.kind, e.state with
  | .logSend, _ => (t.free i).settleLogged e (fun x u => u.dropItem x.lane (.log x.place))
  | _, .awaiting =>
    let u := (((t.free i).closePayment e.lane).dropItem e.lane (.exchange i))
    ((u.sendEarlier e.lane e.xchg .timedOut (u.handKey e.lane)).countTimeout e.lane).raise
      (.reversalAbandoned e.lane (some e.seq))
  | _, _ => t.abandonReversal i e

/-- An envelope that passed its checks (R73, case 5). -/
def State.verified (s : State) (env : Envelope) (i : EntryId) (e : Exchange) (key : Key) (link : Option LoadedKey) :
    State :=
  let clear := decrypt key env.body
  (match env.kind with
   | .answer =>
     match readOutcome clear with
     | some o => s.settleAnswer i e link clear o
     | none => s.countUnmatched
   | _ => s.settleAck i e).validEnvelope env.kind

/-- The checks of an answer under its entry's base key (R73, cases 4 and 5). -/
def State.checkAnswer (s : State) (env : Envelope) (i : EntryId) (e : Exchange) (base : LoadedKey)
    (link : Option LoadedKey) : State :=
  let key := Config.transactionKey base.key (s.laneIdentity e.lane) e.counter
  if (s.lane e.lane).config.identity ≠ some env.identity then s.countUnmatched
  else if s.suits env e = false then s.countUnmatched
  else if env.tag ≠ Config.tag key .inbound env.covered then s.countUnmatched
  else s.verified env i e key link

/-- The answer job's completion (R73). -/
def State.answerWork (s : State) (env : Envelope) (found : Option (EntryId × Nat)) (base link : Option LoadedKey) :
    State :=
  if s.isLate env then s.countLate
  else
    match s.entryOf env.seq with
    | none => s.countUnmatched
    | some (i, e) =>
      if found ≠ some (i, e.stamp) then s.countUnmatched
      else
        match base with
        | none => s.settleUnverified i e
        | some k => s.checkAnswer env i e k link

/-! ## The reversal job and the repeat job (R76, R77) -/

/-- A reversal job sends its reversal live (R76, case 2). -/
def State.reversalLive (s : State) (i : EntryId) (e : Exchange) (base : LoadedKey) : State :=
  let w := s.wrapFor e.lane base .reversal .live e.orig (reversalBody (e.cause.getD .timeout) e.xchg)
  ((w.2.placeEnvelope w.1.env).setExchange i (some { e with
    state := .reversing
    seq := w.1.seq
    base := base.slot
    gen := base.gen
    counter := w.1.counter
    deadline := s.after s.settings.reversalTimeout })).countReversal e.lane

/-- A reversal moves into the log (R76, case 3; R77). -/
def State.reversalToLog (s : State) (i : EntryId) (e : Exchange) (base : LoadedKey) (origin : Origin)
    (repeats : Nat) : State :=
  match s.freePlace with
  | some p =>
    s.appendReversal e.lane base origin e.xchg (e.orig.getD 0) (e.cause.getD .timeout) repeats p
      (fun t => (t.free i).moveItem e.lane (.exchange i) (.log p))
  | none => s.abandonReversal i e

/-- Whether a lane has no value for a reversal (R76, R77, R95). -/
def LaneRecord.cannotReverse (r : LaneRecord) : Bool :=
  decide (r.counter = Config.counterEnd) ||
    (decide (r.config.state = .faulted .ceiling) && decide (r.counter = r.config.ceiling))

/-- The reversal job's completion (R76). -/
def State.reversalWork (s : State) (i : EntryId) (e : Exchange) (base : Option LoadedKey) : State :=
  match base with
  | none => s.abandonReversal i e
  | some k =>
    if (s.lane e.lane).cannotReverse then s.abandonReversal i e
    else if s.monitor.state = .up ∧ s.logCount e.lane = 0 then s.reversalLive i e k
    else s.reversalToLog i e k .deferred 0

/-- The repeat job's completion (R77). -/
def State.repeatWork (s : State) (i : EntryId) (e : Exchange) (base : Option LoadedKey) : State :=
  match base with
  | none => s.abandonReversal i e
  | some k =>
    if (s.lane e.lane).cannotReverse then s.abandonReversal i e
    else s.reversalToLog i e k .repeated 1

end Sys2Proof.Machine
end

