-- ==== Sys2Proof/Machine/Control.lean ====
section
/-! DEFINITION. The Control Responder: acceptance (R162 to R165), ASK with its clear flag (R166, R167), STAGE and
DISCARD (R139, R141), HOLD and RELEASE (R148, R151), SET-LANE (R169) and RESTART (R170). COMMIT stands in
Commit.lean. -/

namespace Sys2Proof.Machine

/-- What a request answers: its status and its data. -/
structure Answer where
  status : ReplyStatus
  data : ReplyData
deriving DecidableEq, Repr

/-- A refusal without data. -/
def refusal (r : ControlReason) : Answer := ⟨.refused r, .none⟩

/-- The data of a request's refusal that has no value for any field: the fields that 13.3.2 gives the REFUSED reply of a
COMMIT (code 3) or a HOLD (code 5), absent (R186, 13.3.1). A frame of another class has an unknown request; that it is
answered by its code all the same is the model's choice (log 40). -/
def absentData (request : Byte) : ReplyData :=
  if request = 3 then .noEntry else if request = 5 then .noHold else .none

/-- A refusal of a frame whose request is not carried out (R163, R165). -/
def refusalOf (request : Byte) (r : ControlReason) : Answer := ⟨.refused r, absentData request⟩

/-! ## ASK (R166, R167) -/

/-- The number of items a table has by index; the log's positions are those of its entries (R166). -/
def State.tableLength (s : State) : AskTable → Nat
  | .lane => 48
  | .slot => 96
  | .standIn => 10
  | .settings => 1
  | .exchange => 160
  | .log => s.log.length
  | .counters => 51
  | .faults => 145
  | .events => 18

/-- A lane's item (R166). -/
def State.laneItem (s : State) (l : LaneId) : LaneSnapshot :=
  let r := s.lane l
  ⟨r.config, r.counter, r.openPayment, r.tagFailures, r.lastAccepted, r.recent, s.logCount l, s.jobInFlight l,
    r.advancePending, r.mailbox.map (fun f => (f.kind, f.xchg))⟩

/-- A slot's item (R39). -/
def State.slotItem (s : State) (n : SlotId) : SlotSnapshot :=
  let r := s.slot n
  ⟨r.state, r.usage, r.generation, r.check, s.refCount n, r.bound.length⟩

/-- An exchange entry's item (R101): 0 when the deadline has been taken. -/
def State.exchangeItem (s : State) (i : EntryId) : AskItem :=
  .exchange ((s.exchange i).map (fun e => (e, e.deadline - s.clock)))

/-- A log entry's item (R135). -/
def LogEntry.item (e : LogEntry) : LogSnapshot :=
  ⟨e.place, e.lane, e.kind, e.state, e.written, e.seq, e.orig, e.cause, e.counter, e.base, e.gen, e.cardClass,
    e.amount, e.xchg, e.repeatCount, e.message.messageLength⟩

/-- A group of counters (R177). -/
def State.counterItem (s : State) (k : Nat) : Option AskItem :=
  if k = 0 then some (.portCounters (s.port .s).counters)
  else if k = 1 then some (.portCounters (s.port .c).counters)
  else if k = 2 then some (.deviceCounters s.device)
  else if h : k - 3 < 48 then some (.laneCounters (s.lane ⟨k - 3, h⟩).counters)
  else none

/-- One item of a table by its index (R166). -/
def State.askItem (s : State) (t : AskTable) (k : Nat) : Option AskItem :=
  match t with
  | .lane => if h : k < 48 then some (.lane (s.laneItem ⟨k, h⟩)) else none
  | .slot => if h : k < 96 then some (.slot (s.slotItem ⟨k, h⟩)) else none
  | .standIn => if h : k < 10 then some (.standIn s.standIn[k]) else none
  | .settings => if k = 0 then some (.settings s.settings) else none
  | .exchange => if h : k < 160 then some (s.exchangeItem ⟨k, h⟩) else none
  | .log => s.log[k]?.map (fun e => .log e.item)
  | .counters => s.counterItem k
  | .faults => if h : k < 145 then some (.fault s.scrub.map[k]) else none
  | .events => if h : k < 18 then some (.event s.events[k] s.settings.notices[k]) else none

/-- The totals of a table (R101, R135, R160). -/
def State.askTotals (s : State) : AskTable → AskTotals
  | .exchange => .exchange s.freeEntries
  | .log => .log s.log.length s.logPaymentTotal s.logSent s.logFree
  | .faults => .faults s.scrub.capture s.scrub.missed s.scrub.suppress s.scrub.walk
  | _ => .none

/-- The longest run of items whose bytes fit (R166, log 30). -/
def fitting (room : Nat) : List AskItem → List AskItem
  | [] => []
  | x :: r => if x.lengthed.length ≤ room then x :: fitting (room - x.lengthed.length) r else []

/-- The items an ASK returns (R166). -/
def State.askItems (s : State) (t : AskTable) (first count : Nat) : List AskItem :=
  let items := ((List.range (min count (s.tableLength t - first))).map (fun k => first + k)).filterMap (s.askItem t)
  fitting (Config.replyDataMax - 1 - (s.askTotals t).bytes.length) items

/-- The counters of one group are set to 0 (R167). -/
def State.clearGroup (s : State) (k : Nat) : State :=
  if k = 0 then s.countPort .s (fun _ => zeroPortCounters)
  else if k = 1 then s.countPort .c (fun _ => zeroPortCounters)
  else if k = 2 then { s with device := zeroDeviceCounters }
  else if h : k - 3 < 48 then s.modLane ⟨k - 3, h⟩ (fun r => { r with counters := zeroLaneCounters })
  else s

/-- A kind's latch and count are cleared (R167, R173). -/
def State.clearEvent (s : State) (k : Nat) : State :=
  if h : k < 18 then { s with events := s.events.set k clearLatch } else s

/-- A position's fault map entry is cleared (R160). -/
def State.clearFault (s : State) (k : Nat) : State :=
  if h : k < 145 then { s with scrub := { s.scrub with map := s.scrub.map.set k clearFaultEntry } } else s

/-- The clear flag acts on the items returned (R160, R167). -/
def State.askClear (s : State) (t : AskTable) (first returned : Nat) : State :=
  let ks := (List.range returned).map (fun k => first + k)
  match t with
  | .counters => ks.foldl State.clearGroup s
  | .events => ks.foldl State.clearEvent s
  | .faults =>
    let u := ks.foldl State.clearFault s
    { u with scrub := { u.scrub with capture := none, missed := 0 } }
  | _ => s

/-- ASK (R166, R167): the snapshot, then the clearing. -/
def State.ask (s : State) (t : AskTable) (first count : Nat) (clear : Bool) : State × Answer :=
  if count = 0 ∨ 64 < count then (s, refusal .malformed)
  else if t ≠ .log ∧ s.tableLength t ≤ first then (s, refusal .malformed)
  else
    let items := s.askItems t first count
    (if clear then s.askClear t first items.length else s, ⟨.done, .ask items (s.askTotals t)⟩)

/-! ## STAGE and DISCARD (R137, R139, R141) -/

/-- The most recent index of a table in a set (R137). -/
def ChangeSet.last (c : ChangeSet) : StageTable → Option Nat
  | .lane => c.lastLane
  | .slot => c.lastSlot
  | .standIn => c.lastStandIn
  | .settings => c.lastSettings

/-- The set with a table's most recent index. -/
def ChangeSet.setLast (c : ChangeSet) (t : StageTable) (k : Nat) : ChangeSet :=
  match t with
  | .lane => { c with lastLane := some k }
  | .slot => { c with lastSlot := some k }
  | .standIn => { c with lastStandIn := some k }
  | .settings => { c with lastSettings := some k }

/-- The index a STAGE names (R139, 13.3.1): 0xFFFF is NEXT. -/
def ChangeSet.resolve (c : ChangeSet) (t : StageTable) (index : Nat) : Option Nat :=
  if index = 0xFFFF then
    match c.last t with
    | some k => if k + 1 < 256 then some (k + 1) else none
    | none => some 0
  else if index < 256 then some index
  else none

/-- Whether an entry is of a table and index. -/
def StagedEntry.isFor (e : StagedEntry) (t : StageTable) (k : Nat) : Bool := e.record.table == t && e.index == k

/-- A decoded entry joins the set (R139); none when the set is full. -/
def ChangeSet.stage (c : ChangeSet) (k : Nat) (r : StagedRecord) : Option ChangeSet :=
  if c.entries.any (fun e => e.isFor r.table k) then
    some (ChangeSet.setLast { c with entries := c.entries.map (fun e => if e.isFor r.table k then ⟨k, r⟩ else e) }
      r.table k)
  else if c.entries.length < Config.stageCapacity then
    some (ChangeSet.setLast { c with entries := c.entries ++ [⟨k, r⟩] } r.table k)
  else none

/-- The change set idle timer restarts (R140). -/
def State.restartIdle (s : State) (p : Port) : State :=
  s.setCtl p { s.ctl p with changeSet := { (s.ctl p).changeSet with idle := some (s.after s.settings.idleLimit) } }

/-- STAGE (R139). -/
def State.stageRequest (s : State) (p : Port) (table index : Nat) (record : Bytes) : State × Answer :=
  match readStageTable table with
  | none => (s, refusal .malformed)
  | some t =>
    match (s.ctl p).changeSet.resolve t index with
    | none => (s, refusal .malformed)
    | some k =>
      match readRecord (s.controlKey p) table record with
      | none => (s, refusal .malformed)
      | some r =>
        match (s.ctl p).changeSet.stage k r with
        | none => (s, refusal .full)
        | some c =>
          ((s.setCtl p { s.ctl p with changeSet := c }).restartIdle p, ⟨.done, .staged k c.entries.length⟩)

/-! ## HOLD and RELEASE (R148, R151) -/

/-- HOLD, before its grant test (R148). -/
def State.holdRequest (s : State) (p : Port) (f : ControlFrame) (low high : Nat) : State × Answer :=
  if 95 < high ∨ high < low then (s, ⟨.refused .malformed, .noHold⟩)
  else
    match (s.ctl p).hold with
    | .none => (s.setCtl p { s.ctl p with hold := .pending ⟨low, high, f.number, f.src⟩ },
        ⟨.pending, .hold false low high⟩)
    | .pending r => (s, ⟨.refused .holdExists, .hold false r.low r.high⟩)
    | .granted r _ => (s, ⟨.refused .holdExists, .hold true r.low r.high⟩)

/-- RELEASE, before the grant test of the other port's hold (R151). -/
def State.release (s : State) (p : Port) : State := s.setCtl p { s.ctl p with hold := .none }

/-! ## SET-LANE (R169) -/

def State.setLaneRequest (s : State) (lane : Nat) (a : LaneAction) : State × Answer :=
  if h : lane < 48 then
    let r := s.setLaneAs ⟨lane, h⟩ a
    (r.1, ⟨r.2, .none⟩)
  else (s, refusal .malformed)

/-! ## Acceptance (R163) -/

/-- A reply to a control frame under the key of its check (R164). -/
def State.answer (s : State) (p : Port) (f : ControlFrame) (key : Key) (a : Answer) (restart : Bool) : State :=
  s.reply p f.src f.number f.request a.status a.data key restart

/-- An accepted frame (R140, R163, R174): its number, its source as the notice address, and the idle timer of an OPEN
set. -/
def State.accept (s : State) (p : Port) (f : ControlFrame) : State :=
  let t := s.setCtl p { s.ctl p with lastNumber := f.number.toNat, noticeAddress := some f.src }
  if (t.ctl p).changeSet.entries = [] then t else t.restartIdle p

end Sys2Proof.Machine
end

