-- ==== Sys2Proof/Machine/Commit.lean ====
section
/-! DEFINITION. COMMIT (8.2): the tables as they would stand after the whole set (R142), the checks of each entry
(R143 to R145), and the application with its commit group (R146, R147, R180). -/

namespace Sys2Proof.Machine

/-! ## The tables as applied (R41, R42, R45, R142, R146) -/

/-- A slot index as a slot, absent for 0 (13.3.1). -/
def slotOf (n : Nat) : Option SlotId := if h : n < 96 then (if n = 0 then none else some ⟨n, h⟩) else none

/-- The generation of a slot after a write (R41). -/
def writtenGeneration (n : SlotId) (g : Nat) : Nat :=
  if n.val < 2 ∧ g = Config.generationMax then g else g + 1

/-- A slot after a committed write (R41). -/
def writtenSlot (n : SlotId) (r : SlotRecord) (u : SlotUsage) (k : Key) : SlotRecord :=
  ⟨.active, some u, writtenGeneration n r.generation, some (Config.checkValue k), some k, []⟩

/-- A slot after a committed erase (R42). -/
def erasedSlot (r : SlotRecord) : SlotRecord := ⟨.empty, none, r.generation, none, none, []⟩

/-- The slots with one entry's write or erase applied. -/
def applySlot (slots : Vector SlotRecord 96) (e : StagedEntry) : Vector SlotRecord 96 :=
  if h : e.index < 96 then
    match e.record with
    | .slotWrite u k _ => slots.set e.index (writtenSlot ⟨e.index, h⟩ slots[e.index] u k)
    | .slotErase => slots.set e.index (erasedSlot slots[e.index])
    | _ => slots
  else slots

/-- A lane's state after a commit of its record (R35). -/
def committedState (st : LaneState) : LaneState :=
  match st with
  | .faulted _ => .suspended .control
  | x => x

/-- A lane's persistent fields after a commit of its record, but for the ceiling (R35, R146). The slots are those
after the set. -/
def committedConfig (slots : Vector SlotRecord 96) (c : LaneConfig) (r : StagedLane) : LaneConfig where
  state := committedState c.state
  till := some r.till
  identity := some r.identity
  station := r.station
  frozen := r.frozen
  link := slotOf r.link
  base := slotOf r.base
  baseGen := (slotOf r.base).map (fun n => slots[n].generation)
  classes := r.classes.setWidth 10
  ceiling := c.ceiling

/-- Whether a lane's base slot or base generation differs (R56, R146). -/
def baseChanges (old new : LaneConfig) : Bool := decide (old.base ≠ new.base) || decide (old.baseGen ≠ new.baseGen)

/-- Whether a commit binds the lane's identity anew (R45). -/
def bindsAnew (old new : LaneConfig) : Bool := baseChanges old new || decide (old.identity ≠ new.identity)

/-- A lane record after a commit of it, with the counter reset where the base changes (R56, R146). A new terminal identity
alone resets nothing (log 53). -/
def committedLane (slots : Vector SlotRecord 96) (l : LaneRecord) (r : StagedLane) : LaneRecord :=
  let c := committedConfig slots l.config r
  if baseChanges l.config c then
    { l with config := { c with ceiling := 1 }, counter := 1, lostCommit := none }
  else { l with config := c, lostCommit := none }

/-- The lanes with one entry applied. -/
def applyLane (slots : Vector SlotRecord 96) (lanes : Vector LaneRecord 48) (e : StagedEntry) :
    Vector LaneRecord 48 :=
  if h : e.index < 48 then
    match e.record with
    | .lane r => lanes.set e.index (committedLane slots lanes[e.index] r)
    | _ => lanes
  else lanes

/-- The slots with the identity that one LANE entry binds (R45). -/
def applyBinding (lanes : Vector LaneRecord 48) (slots : Vector SlotRecord 96) (e : StagedEntry) :
    Vector SlotRecord 96 :=
  if h : e.index < 48 then
    match e.record with
    | .lane r =>
      let old := lanes[e.index].config
      let new := committedConfig slots old r
      match new.base with
      | some n =>
        if bindsAnew old new then slots.set n { slots[n] with bound := slots[n].bound ++ [r.identity] } else slots
      | none => slots
    | _ => slots
  else slots

/-- The slots after every SLOT entry of a set. -/
def slotsWritten (s : State) (es : List StagedEntry) : Vector SlotRecord 96 := es.foldl applySlot s.slots

/-- The lanes after the whole set. -/
def lanesApplied (s : State) (es : List StagedEntry) : Vector LaneRecord 48 :=
  es.foldl (applyLane (slotsWritten s es)) s.lanes

/-- The slots after the whole set, bound identities included. -/
def slotsApplied (s : State) (es : List StagedEntry) : Vector SlotRecord 96 :=
  es.foldl (applyBinding s.lanes) (slotsWritten s es)

/-! ## The checks (R143 to R145) -/

/-- The first check that fails, with its reason. -/
def firstFailing : List (Bool × ControlReason) → Option ControlReason
  | [] => none
  | (ok, r) :: rest => if ok then firstFailing rest else some r

/-- Whether a lane's state admits a LANE entry (R143, check 2). -/
def admitsCommit : LaneState → Bool
  | .unused => true
  | .suspended _ => true
  | .faulted _ => true
  | _ => false

/-- Whether a slot is ACTIVE with a usage in some table of slots (R143, check 5). -/
def activeIn (slots : Vector SlotRecord 96) (n : Option SlotId) (u : SlotUsage) : Bool :=
  match n with
  | some n => decide (slots[n].state = .active) && decide (slots[n].usage = some u)
  | none => false

/-- Whether a lane's till number and terminal identity differ from those of every other lane not UNUSED (R143,
check 6). -/
def uniqueIn (lanes : Vector LaneRecord 48) (l : LaneId) : Bool :=
  let c := lanes[l].config
  decide (c.state = .unused) ||
    allLanes.all (fun k => decide (k = l) || decide (lanes[k].config.state = .unused) ||
      (decide (lanes[k].config.till ≠ c.till) && decide (lanes[k].config.identity ≠ c.identity)))

/-- Whether the bound identities admit a lane's entry (R143, check 7). -/
def bindingPasses (slots : Vector SlotRecord 96) (old new : LaneConfig) (identity : TerminalId) : Bool :=
  match new.base with
  | some n =>
    !bindsAnew old new ||
      (!slots[n].bound.contains identity && decide (slots[n].bound.length < Config.boundCapacity))
  | none => false

/-- The checks of a LANE entry (R143). `slots` holds the bindings of the entries before it. -/
def State.judgeLane (s : State) (slots : Vector SlotRecord 96) (lanes : Vector LaneRecord 48) (index : Nat)
    (r : StagedLane) : Option ControlReason :=
  if h : index < 48 then
    let l : LaneId := ⟨index, h⟩
    let old := (s.lane l).config
    let new := committedConfig slots old r
    firstFailing
      [(admitsCommit old.state && (s.lane l).mailbox.isNone && !s.jobInFlight l, .conflict),
       (decide (1 ≤ r.till) && decide (r.till ≤ 4095) && printableIdentity r.identity && r.station.all individual &&
          decide (r.classes.toNat < 1024), .badReference),
       (decide (2 ≤ r.link) && decide (r.link ≤ 95) && decide (2 ≤ r.base) && decide (r.base ≤ 95), .badReference),
       (activeIn slots new.link .link && activeIn slots new.base .base, .badReference),
       (uniqueIn lanes l, .badReference),
       (bindingPasses slots old new r.identity, .badReference)]
  else some .badReference

/-- Whether a slot may be written or erased by a port (R144, checks 3 and 4). -/
def slotAllowed (p : Port) (n : SlotId) (generation : Nat) (u : Option SlotUsage) : Bool :=
  decide (n ≠ controlSlot p.opposite) &&
    (match u with
     | none => decide (2 ≤ n.val)
     | some u =>
       if n.val < 2 then decide (u = .control)
       else decide (u ≠ .control) && decide (generation < Config.generationMax))

/-- Whether every lane that names a slot can use the usage written (R144, check 7). -/
def usageSuits (lanes : Vector LaneRecord 48) (n : SlotId) (u : SlotUsage) : Bool :=
  lanes.toList.all (fun r => decide (r.config.state = .unused) ||
    ((decide (r.config.link ≠ some n) || decide (u = .link)) &&
      (decide (r.config.base ≠ some n) || decide (u = .base))))

/-- Whether the set holds a LANE entry for every lane that names a slot as its base (R144, check 8). -/
def State.baseLanesStaged (s : State) (es : List StagedEntry) (n : SlotId) : Bool :=
  allLanes.all (fun l => decide ((s.lane l).config.state = .unused) || decide ((s.lane l).config.base ≠ some n) ||
    es.any (fun e => e.isFor .lane l.val))

/-- The checks of a SLOT entry (R144): `write` is the usage, key and check value of a WRITE. -/
def State.judgeSlot (s : State) (p : Port) (es : List StagedEntry) (lanes : Vector LaneRecord 48) (index : Nat)
    (write : Option (SlotUsage × Key × CheckValue)) : Option ControlReason :=
  if h : index < 96 then
    let n : SlotId := ⟨index, h⟩
    firstFailing (
      [((s.ctl p).hold.covers index, .notHeld),
       (slotAllowed p n (s.slot n).generation (write.map Prod.fst), .notAllowed)] ++
      (match write with
       | some (u, k, c) =>
         [(decide (Config.checkValue k = c), .checkValue),
          (usageSuits lanes n u, .badReference),
          (s.baseLanesStaged es n, .badReference)]
       | none => [(decide (countNaming lanes n = 0), .inUse)]))
  else some .badReference

/-- Whether a number lies in a range. -/
def within (low high n : Nat) : Bool := decide (low ≤ n) && decide (n ≤ high)

/-- The checks of a STANDIN entry (R145). -/
def judgeStandIn (index : Nat) (r : ClassRecord) : Option ControlReason :=
  if index ≤ 9 ∧ r.low ≤ r.high ∧ r.high ≤ Config.amountMax ∧ r.laneCap ≤ 960 ∧
      within 5 120 r.answerTimeout = true then none
  else some .badReference

/-- The checks of a SETTINGS entry (R145). -/
def judgeSettings (index : Nat) (b : SettingsBlock) : Option ControlReason :=
  if index = 0 ∧ individual b.sStation = true ∧ individual b.cStation = true ∧
      within 1024 1048576 b.warnMargin = true ∧ within 5 120 b.reversalTimeout = true ∧
      within 1 60 b.probeInterval = true ∧ within 1 10 b.missLimit = true ∧ within 1 10 b.reassemblyLimit = true ∧
      within 5 1000 b.scrubInterval = true ∧ within 10 600 b.holdLimit = true ∧ within 10 900 b.idleLimit = true then
    none
  else some .badReference

/-- The first check that one entry fails (R142 to R145). -/
def State.judgeEntry (s : State) (p : Port) (es : List StagedEntry) (slots : Vector SlotRecord 96)
    (lanes : Vector LaneRecord 48) (e : StagedEntry) : Option ControlReason :=
  match e.record with
  | .lane r => s.judgeLane slots lanes e.index r
  | .slotWrite u k c => s.judgeSlot p es lanes e.index (some (u, k, c))
  | .slotErase => s.judgeSlot p es lanes e.index none
  | .standIn r => judgeStandIn e.index r
  | .settings b => judgeSettings e.index b

/-- The entries judged in the set's order (R142): the first that fails, with its position from 1 and its reason.
`slots` gathers the bindings of the entries already judged. -/
def State.judgeFrom (s : State) (p : Port) (es : List StagedEntry) (lanes : Vector LaneRecord 48) :
    Vector SlotRecord 96 → Nat → List StagedEntry → Option (StagedEntry × Nat × ControlReason)
  | _, _, [] => none
  | slots, k, e :: rest =>
    match s.judgeEntry p es slots lanes e with
    | some r => some (e, k, r)
    | none => s.judgeFrom p es lanes (applyBinding s.lanes slots e) (k + 1) rest

/-- The judgement of a whole set (R142). -/
def State.judge (s : State) (p : Port) (es : List StagedEntry) : Option (StagedEntry × Nat × ControlReason) :=
  s.judgeFrom p es (lanesApplied s es) (slotsWritten s es) 1 es

/-! ## The application (R146, R147) -/

/-- The lanes a set has an entry for, in list order. -/
def laneEntries (es : List StagedEntry) : List LaneId :=
  es.filterMap (fun e => match e.record with
    | .lane _ => if h : e.index < 48 then some ⟨e.index, h⟩ else none
    | _ => none)

/-- The classes a set has an entry for, with their records. -/
def classEntries (es : List StagedEntry) : List (CardClass × ClassRecord) :=
  es.filterMap (fun e => match e.record with
    | .standIn r => if h : e.index < 10 then some (⟨e.index, h⟩, r) else none
    | _ => none)

/-- The settings block a set stages. -/
def settingsEntry (es : List StagedEntry) : Option SettingsBlock :=
  es.findSome? (fun e => match e.record with
    | .settings b => some b
    | _ => none)

/-- The slots a set changes: those it has an entry for, and those whose bound identities grow. -/
def changedSlots (s : State) (es : List StagedEntry) : List SlotId :=
  (List.finRange 96).filter (fun n => es.any (fun e => e.isFor .slot n.val) || decide ((slotsApplied s es)[n] ≠ s.slot n))

/-- The lanes whose counter a set resets (R146). -/
def resetLanes (s : State) (es : List StagedEntry) : List LaneId :=
  (laneEntries es).filter (fun l => baseChanges (s.lane l).config (lanesApplied s es)[l].config)

/-- The commit group of a set (R147, R180). -/
def commitGroup (s : State) (es : List StagedEntry) : CommitGroup where
  settings := settingsEntry es
  slots := (changedSlots s es).map (fun n => (n, (slotsApplied s es)[n]))
  lanes := (laneEntries es).map (fun l => (l, (lanesApplied s es)[l].config))
  classes := classEntries es

/-- The working copies after a set (R146). -/
def State.applyTables (s : State) (es : List StagedEntry) : State :=
  { s with
    slots := slotsApplied s es
    lanes := lanesApplied s es
    standIn := (classEntries es).foldl (fun t x => t.set x.1 x.2) s.standIn
    settings := (settingsEntry es).getD s.settings }

/-- Every record a set wrote is written whole (log 45). -/
def State.rewrittenBy (s : State) (g : CommitGroup) : State :=
  let t := g.slots.foldl (fun t x => t.rewritten (slotPosition x.1)) s
  let u := g.lanes.foldl (fun t x => t.rewritten (lanePosition x.1)) t
  if g.settings.isSome then u.rewritten settingsPosition else u

/-- The advance that a reset requests at once (R53, R146): directly behind the group. -/
def State.resetAdvance (s : State) (l : LaneId) : State := s.requestAdvance l (joinBehind l)

/-- A set whose entries all pass is applied (R146, R147). The advances of several reset lanes stand behind the group in
the set's order (log 20). -/
def State.applySet (s : State) (p : Port) (es : List StagedEntry) : State :=
  let g := commitGroup s es
  let reset := resetLanes s es
  let t := reset.foldl State.dropCeilings ((s.applyTables es).rewrittenBy g)
  let u := t.enqueue (fun ws => ws ++ [.group g]) (fun v => v.loseGroup g (fun _ => true))
  ((laneEntries es).foldl State.foundedAdvanceTest (reset.foldl State.resetAdvance u)).emptySet p

/-- COMMIT (R142). One refused EMPTY has no entry to name (R186). -/
def State.commitRequest (s : State) (p : Port) : State × Answer :=
  let es := (s.ctl p).changeSet.entries
  if es = [] then (s, ⟨.refused .empty, .noEntry⟩)
  else
    match s.judge p es with
    | some (e, k, r) => (s, ⟨.refused r, .failed e.record.table e.index k⟩)
    | none => (s.applySet p es, ⟨.done, .applied es.length⟩)

end Sys2Proof.Machine
end

