-- ==== Sys2Proof/Machine/Receive.lean ====
section
/-! DEFINITION. Receiving (R1 to R3): the Frame Sorter, bridging, lane frames up to acceptance (R6, R7), envelopes
through reassembly to the Answer Queue or the monitor (R104 to R111), and control frames (R162 to R165). -/

namespace Sys2Proof.Machine

/-! ## Lane frames (R6, R7) -/

/-- The refusal MALFORMED of the outer checks and the refusal NO-LANE (R6, R7, R10): untagged, to the source
station, with the numbers the frame gave. -/
def State.refuseUnresolved (s : State) (dst : Mac) (till xchg : Nat) (r : TillReason) : State :=
  s.handTill dst till xchg (.refused r) none

/-- A frame of class lane frame (R6, R7). -/
def State.takeLaneFrame (s : State) (f : EthFrame) : State :=
  match readLaneFrame f with
  | .tooShort => s.countMalformed .s
  | .malformed till xchg => (s.refuseUnresolved f.src till xchg .malformed).countMalformed .s
  | .good g =>
    match s.resolve g.till with
    | some l => s.acceptFrame l g
    | none => s.refuseUnresolved g.src g.till g.xchg .noLane

/-! ## Chain envelopes (R104 to R111) -/

/-- An envelope is offered to the Answer Queue (R111). -/
def State.offerAnswer (s : State) (e : Envelope) : State :=
  if s.answerQueue.length < Config.answerCapacity then { s with answerQueue := s.answerQueue ++ [e] }
  else s.countOverflow

/-- A whole inbound envelope goes by its kind (R105). -/
def State.takeWhole (s : State) (e : Envelope) : State :=
  match e.kind with
  | .probeEcho => s.takeEcho e
  | _ => s.offerAnswer e

def State.setBuffer (s : State) (b : BufferId) (h : Option HeldSegment) : State :=
  { s with reassembly := s.reassembly.set b h }

/-- The buffer that holds a first segment of a sequence and kind (R109). -/
def State.matchingBuffer (s : State) (e : Envelope) : Option (BufferId × HeldSegment) :=
  (List.finRange 4).findSome? (fun b => match s.reassembly[b] with
    | some h => if h.env.seq = e.seq ∧ h.env.kind = e.kind then some (b, h) else none
    | none => none)

/-- The lowest free buffer (R109, log 44). -/
def State.freeBuffer (s : State) : Option BufferId := (List.finRange 4).find? (fun b => s.reassembly[b].isNone)

/-- A segment 1 of 2 (R109). -/
def State.firstSegment (s : State) (r : SegmentRead) : State :=
  let held : HeldSegment := ⟨r.env, r.bodyLength, s.after s.settings.reassemblyLimit⟩
  match s.matchingBuffer r.env with
  | some (b, _) => (s.setBuffer b (some held)).countDrops 1
  | none =>
    match s.freeBuffer with
    | some b => s.setBuffer b (some held)
    | none => s.countDrops 1

/-- Whether two segments agree in every field but the segment index and body bytes (R110). -/
def HeldSegment.agrees (h : HeldSegment) (r : SegmentRead) : Bool :=
  decide (h.env.identity = r.env.identity) && decide (h.env.orig = r.env.orig) &&
    decide (h.env.counter = r.env.counter) && decide (h.env.origin = r.env.origin) &&
    decide (h.bodyLength = r.bodyLength) && decide (h.env.tag = r.env.tag)

/-- A segment 2 of 2 (R109, R110). -/
def State.secondSegment (s : State) (r : SegmentRead) : State :=
  match s.matchingBuffer r.env with
  | none => s.countDrops 1
  | some (b, h) =>
    if h.agrees r then (s.setBuffer b none).takeWhole { h.env with body := h.env.body ++ r.env.body }
    else (s.setBuffer b none).countDrops 2

/-- A frame of class chain envelope (R104). -/
def State.takeEnvelope (s : State) (f : EthFrame) : State :=
  match readEnvelope f with
  | none => s.countMalformed .c
  | some r =>
    if r.count = 1 then s.takeWhole r.env
    else if r.index = 1 then s.firstSegment r
    else s.secondSegment r

/-! ## Control frames (R162 to R165) -/

/-- The reply to a request, and what stands to be done once it is handed over (R147, R149, R151, R170). -/
structure Carried where
  answer : Answer
  restart : Bool
  /-- The grant test that follows the reply (R149). -/
  grants : Bool
deriving DecidableEq, Repr

/-- The reply to an accepted RESTART is awaited (R170), unless one has left the port already. -/
def State.awaitRestart (s : State) (p : Port) : State :=
  s.setCtl p { s.ctl p with restart := if (s.ctl p).restart = .left then .left else .waiting }

/-- An accepted request is carried out (R165). -/
def State.carryOut (s : State) (p : Port) (f : ControlFrame) : State × Carried :=
  match f.read with
  | none => (s, ⟨refusalOf f.request .malformed, false, false⟩)
  | some (.ask t first count clear) =>
    let r := s.ask t first count clear
    (r.1, ⟨r.2, false, false⟩)
  | some (.stage t index record) =>
    let r := s.stageRequest p t index record
    (r.1, ⟨r.2, false, false⟩)
  | some .commit =>
    let r := s.commitRequest p
    (r.1, ⟨r.2, false, false⟩)
  | some .discard => (s.emptySet p, ⟨⟨.done, .none⟩, false, false⟩)
  | some (.hold low high) =>
    let r := s.holdRequest p f low high
    (r.1, ⟨r.2, false, decide (r.2.status = .pending)⟩)
  | some .release => (s.release p, ⟨⟨.done, .none⟩, false, true⟩)
  | some (.setLane lane a) =>
    let r := s.setLaneRequest lane a
    (r.1, ⟨r.2, false, false⟩)
  | some .restart => (s.awaitRestart p, ⟨⟨.done, .none⟩, true, false⟩)

/-- A frame of class control frame (R162 to R164). -/
def State.takeControl (s : State) (p : Port) (f : EthFrame) : State :=
  match readControl f with
  | none => s.countMalformed p
  | some g =>
    let key := s.controlKey p
    if g.tag ≠ Config.tag key .request g.covered then
      (s.answer p g key (refusalOf g.request .tag) false).countPort p
        (fun c => { c with tagFailures := satInc Config.count32Max c.tagFailures })
    else if g.number.toNat ≤ (s.ctl p).lastNumber then s.answer p g key (refusalOf g.request .stale) false
    else
      let r := (s.accept p g).carryOut p g
      let t := r.1.answer p g key r.2.answer r.2.restart
      if r.2.grants then t.grantHolds else t

/-! ## The MAC (R1, R106, R186) -/

/-- How long a pause request of so many quanta of 512 bit times lasts at 1 Gbit/s, in milliseconds, rounded up (log
12). -/
def pauseTime (quanta : BitVec 16) : Nat := (quanta.toNat * 512 + 999999) / 1000000

/-- A pause request (R1, R106): the port holds back; a request of no time lets it go on. -/
def State.pause (s : State) (p : Port) (quanta : BitVec 16) : State :=
  if (s.port p).carrier then
    (s.setPort p { s.port p with pausedUntil := s.clock + pauseTime quanta }).takeNext p
  else s

/-- Whether a frame, its frame check included, is as long as a port accepts and the C-port sends (R186). -/
def fitsPort (f : EthFrame) (p : Port) : Bool := decide (14 + f.payload.length + 4 ≤ Config.frameMax p)

/-- The quanta of a MAC control frame that is a pause request (log 12). -/
def readPause (f : EthFrame) : Option (BitVec 16) :=
  if numField f.payload 0 2 = some Config.pauseCode then (numField f.payload 2 2).map (BitVec.ofNat 16) else none

/-- A MAC control frame is taken by the MAC itself (R1): a pause request holds the port back, any other changes
nothing. -/
def State.takeMacControl (s : State) (p : Port) (f : EthFrame) : State :=
  match readPause f with
  | some q => s.pause p q
  | none => s

/-! ## The Frame Sorter (R1 to R3) -/

/-- The classes of frame (R2). -/
inductive FrameClass where
  | lane
  | envelope
  | control
  | misplaced
  | other
deriving DecidableEq, Repr

/-- The class of a frame (R2). -/
def State.classify (s : State) (p : Port) (f : EthFrame) : FrameClass :=
  let own : Bool := decide (f.dst = s.settings.station p)
  if f.etype = Config.laneType then
    (match p with
     | .s => .lane
     | .c => .misplaced)
  else if f.etype = Config.chainType then
    (match p with
     | .s => .misplaced
     | .c => .envelope)
  else if own then (if f.etype = Config.controlType then .control else .misplaced)
  else .other

/-- A bridged frame is handed to a port: one longer than the port sends (R186) does not join its order (log 35). -/
def State.handBridged (s : State) (p : Port) (f : EthFrame) : State :=
  if fitsPort f p = true ∨ (s.port p).carrier = false ∨ Config.orderCapacity ≤ (s.port p).order.length then
    s.handFrame p (.bridged f)
  else s

/-- A frame of class other (R3): bridged, or dropped as malformed. -/
def State.bridge (s : State) (p : Port) (f : EthFrame) : State :=
  if s.settings.bridging then
    (s.countPort p (fun c => { c with bridged := satInc Config.count32Max c.bridged })).handBridged p.opposite f
  else s.countMalformed p

/-- A classified frame is handed on (R2). -/
def State.sort (s : State) (p : Port) (f : EthFrame) : State :=
  match s.classify p f with
  | .lane => s.takeLaneFrame f
  | .envelope => s.takeEnvelope f
  | .control => s.takeControl p f
  | .misplaced => s.countMalformed p
  | .other => s.bridge p f

/-- Whether the MAC of a port hands a frame on: not without carrier (R112), nor one longer than the port accepts
(R186), nor a MAC control frame (R1). -/
def State.macTakes (s : State) (p : Port) (f : EthFrame) : Bool :=
  (s.port p).carrier && fitsPort f p && decide (f.etype ≠ Config.macControlType)

/-- A port receives a whole frame (R1). -/
def State.receiveFrame (s : State) (p : Port) (f : EthFrame) : State :=
  if f.etype = Config.macControlType ∧ fitsPort f p = true then s.takeMacControl p f
  else if s.macTakes p f = false then s
  else
    let t := s.countPort p (fun c => { c with framesIn := satInc Config.count32Max c.framesIn })
    match s.phase with
    | .starting =>
      { t with device := { t.device with droppedStarting := satInc Config.count32Max t.device.droppedStarting } }
    | .serving => t.sort p f

end Sys2Proof.Machine
end

