-- ==== Sys2Proof/Machine/Start.lean ====
section
/-! DEFINITION. The start (12.3): what a start discards (R182), the restore from the Persistent Store (R183), the
preparation of the working state (R184), and the entry into SERVING (R185). -/

namespace Sys2Proof.Machine

/-! ## The beginning of a start (R14, R182) -/

/-- A port as a start leaves it: its frames are discarded uncounted, its carrier and pause stand as they are (R14). -/
def PortState.started (x : PortState) (k : StartKind) : PortState :=
  { x with
    order := []
    transmitting := none
    lastTaken := .order
    counters := match k with
      | .cold => zeroPortCounters
      | .warm => x.counters }

/-- A port's control state as a start leaves it (R171, R174). -/
def ControlState.started (x : ControlState) (k : StartKind) : ControlState :=
  { resetControl with noticeAddress := match k with
      | .cold => none
      | .warm => x.noticeAddress }

/-- The scrubber as a start leaves it (R161). -/
def Scrubber.started (x : Scrubber) (k : StartKind) : Scrubber :=
  match k with
  | .cold => ⟨0, x.nextStep, Vector.replicate 145 clearFaultEntry, [], none, 0⟩
  | .warm => { x with walk := 0 }

/-- Whether a start that begins now is cold: power is applied, or has been since the part last entered SERVING
(R182). -/
def State.startKindFor (s : State) (powered : Bool) : StartKind :=
  if powered then .cold
  else match s.phase, s.startKind with
    | .starting, .cold => .cold
    | _, _ => .warm

/-- A start begins (R182): everything in flight is discarded, and a cold start clears the histories. -/
def State.discardAll (s : State) (k : StartKind) : State :=
  { s with
    phase := .starting
    startKind := k
    startCount := 0
    exchanges := Vector.replicate 160 none
    engine := ⟨none, 47, 0⟩
    sendQueue := []
    reassembly := Vector.replicate 4 none
    answerQueue := []
    log := []
    upsets := s.upsets.filter (fun x => x.2.stuck)
    scrub := s.scrub.started k
    events := match k with
      | .cold => Vector.replicate 18 clearLatch
      | .warm => s.events
    device := match k with
      | .cold => zeroDeviceCounters
      | .warm => s.device
    ports := ⟨s.ports.s.started k, s.ports.c.started k⟩
    control := ⟨s.control.s.started k, s.control.c.started k⟩
    persist := ⟨none, [], none⟩ }

/-! ## The restore (R183) -/

/-- A restore fails (R172, R183). -/
def State.restoreFailed (s : State) (r : RecordName) : State :=
  s.raise (.persistFail .restore none (some (.record r)))

/-- The settings block (R157, R183). -/
def State.restoreSettings (s : State) : State :=
  match s.store.settings.read with
  | some b => { s with settings := b }
  | none => State.restoreFailed { s with settings := factorySettings } .settings

/-- One slot (R46, R183): its record, or the FAULTED one of a failed restore. -/
def PersistentStore.slotRestored (t : PersistentStore) (n : SlotId) : SlotRecord :=
  match t.slots[n].read with
  | some r => r
  | none => ⟨.faulted, none, Config.generationMax, none, none, []⟩

/-- The working slots (R46). -/
def State.restoreSlots (s : State) : State := { s with slots := Vector.ofFn s.store.slotRestored }

/-- SLOT-FAULTED for each slot restored FAULTED, in ascending order (R46, log 34). -/
def State.reportSlots (s : State) : State :=
  (List.finRange 96).foldl (fun t n => if (t.slot n).state = .faulted then t.raise (.slotFaulted n (t.slot n).usage)
    else t) s

/-- A lane's counters as a start leaves them (R37). -/
def keptCounters (k : StartKind) (c : LaneCounters) : LaneCounters :=
  match k with
  | .cold => zeroLaneCounters
  | .warm => c

/-- One lane (R37, R183): its ceiling by its ceiling record, its slots as the record names them, EMPTY ones too (log
52); a record that fails its restore has a free ceiling (log 24). -/
def State.restoreLane (s : State) (l : LaneId) : State :=
  let old := (s.lane l).counters
  match s.store.lanes[l].read with
  | some c =>
    s.setLane l (LaneConfig.started { c with ceiling := restoredCeiling c s.store.ceilings[l] }
      (keptCounters s.startKind old))
  | none =>
    let c := lostLane (.faulted .record) ((Config.lostCeiling s.freeCount).val + 1)
    State.restoreFailed
      { s.setLane l (c.started (keptCounters s.startKind old)) with freeCount := s.freeCount + 1 } (.lane l)

/-- Every lane, in ascending order. -/
def State.restoreLanes (s : State) : State := allLanes.foldl State.restoreLane s

/-- The lanes of every slot restored FAULTED enter FAULTED (R37, R183). -/
def State.faultRestored (s : State) : State :=
  (List.finRange 96).foldl (fun t n => if (t.slot n).state = .faulted then t.faultLanesOf n else t) s

/-- One Stand-In class (R118, R183). -/
def State.restoreClass (s : State) (c : CardClass) : State :=
  match s.store.standIn[c].read with
  | some r => { s with standIn := s.standIn.set c r }
  | none => State.restoreFailed { s with standIn := s.standIn.set c factoryClass } (.standIn c)

def State.restoreClasses (s : State) : State := (List.finRange 10).foldl State.restoreClass s

/-- An entry joins restored entries in the order of reservation (R134). -/
def insertBySerial (e : LogEntry) : List LogEntry → List LogEntry
  | [] => [e]
  | x :: r => if e.serial < x.serial then e :: x :: r else x :: insertBySerial e r

/-- A log entry as a start restores it (R134): QUEUED and written; sent before when it had been sent (log 19). -/
def LogEntry.restored (e : LogEntry) : LogEntry :=
  { e with state := .queued, written := true, sentBefore := e.sentBefore || decide (e.state = .sent) }

/-- One log place (R134, R183): a bad record is dropped with LOG-ENTRY-ABANDONED (log 25). -/
def State.restorePlace (s : State) (x : PlaceId × Stored (Option LogEntry)) : State :=
  match x.2.read with
  | some (some e) => { s with log := insertBySerial e.restored s.log }
  | some none => s
  | none =>
    State.raise { s with freeCount := s.freeCount + 1 } (.logEntryAbandoned (Config.lostLogDetails s.freeCount))

/-- The Deferred Log (R134). -/
def State.restoreLog (s : State) : State := s.store.log.foldl State.restorePlace s

/-- The epoch (R183): taken as 0 when its record is bad. -/
def State.restoreEpoch (s : State) : State :=
  match s.store.epoch.read with
  | some n => { s with epoch := n }
  | none => State.restoreFailed { s with epoch := 0 } .epoch

/-- The restore of every table (R183). -/
def State.restore (s : State) : State :=
  s.restoreSettings.restoreSlots.reportSlots.restoreLanes.faultRestored.restoreClasses.restoreLog.restoreEpoch

/-! ## The preparation (R184) -/

/-- A READY lane whose counter has passed the payment counter limit (R37). -/
def State.exhaustRestored (s : State) (l : LaneId) : State :=
  if (s.lane l).config.state = .ready ∧ (s.lane l).spentForPayments = true then
    s.changeState l .exhausted (some (.laneExhausted l (s.lane l).counter))
  else s

/-- Step 1 of R184: the lanes passed the limit, then the advances. -/
def State.prepareCounters (s : State) : State :=
  allLanes.foldl State.advanceTest (allLanes.foldl State.exhaustRestored s)

/-- An epoch write fails (R184). The subject that PERSIST-FAIL names is the record (log 36). -/
def State.epochFailed (s : State) : State := s.writeFailed .epoch (.record .epoch)

/-- Step 2 of R184: the epoch rises, and its write is queued. -/
def State.prepareEpoch (s : State) : State :=
  let n := (s.epoch + 1) % Config.epochs
  State.enqueue { s with epoch := n } (fun ws => ws ++ [.epoch n]) State.epochFailed

/-- The monitor at a start (R117). That the last probe number sent is 0 whole, its upper 10 bits among it, is the model's
choice (log 55). -/
def State.prepareMonitor (s : State) : State := s.setMonitor ⟨.down, s.settings.missLimit, none, 0, 0⟩

/-- A start (R182 to R184). `decays`: the persistent copies that no longer check good. -/
def State.beginStart (s : State) (powered : Bool) (decays : List Decay) : State :=
  let t := s.discardAll (s.startKindFor powered)
  ({ t with store := decays.foldl PersistentStore.decay t.store }.restore).prepareMonitor.prepareCounters.prepareEpoch

/-! ## The entry into SERVING (R185) -/

/-- The epoch write being written, if it is that. -/
def PersistQueue.epochWrite (q : PersistQueue) : Option Nat :=
  match q.current with
  | some (.epoch n) => some n
  | _ => none

/-- The part enters SERVING (R185). -/
def State.serve (s : State) : State :=
  let t := { s with
    phase := .serving
    servingSince := s.clock
    scrub := { s.scrub with nextStep := s.clock + s.settings.scrubInterval } }
  ((t.broadcastTills .restart).raise (.restarted s.startKind s.startCount)).firstProbe

/-- The epoch write completes or fails, and STARTING ends (R184, R185). -/
def State.epochReported (s : State) (r : WriteResult) : State :=
  match s.phase, s.persist.epochWrite with
  | .starting, some n =>
    let t := s.endWrite (.epoch n) r
    (match r with
     | .completed => t
     | .failed => t.epochFailed).serve
  | _, _ => s

end Sys2Proof.Machine
end

