-- ==== Sys2Proof/Machine/CmdControl.lean ====
section
/-! DEFINITION. The commands of the control stations, and the limits of holds and change sets. Each control row names the
request its frame makes; what becomes of it is read from its bytes alone (log 7). -/

namespace Sys2Proof.Machine

/-- ASK of the LANE table (R166). -/
def execAskLane (p : Port) (f : EthFrame) (s : State) : StepOutcome := .next (s.receiveFrame p f)

/-- ASK of the SLOT table (R39, R166). -/
def execAskSlot (p : Port) (f : EthFrame) (s : State) : StepOutcome := .next (s.receiveFrame p f)

/-- ASK of the EXCHANGE table (R101). -/
def execAskExchange (p : Port) (f : EthFrame) (s : State) : StepOutcome := .next (s.receiveFrame p f)

/-- ASK of the LOG table (R135). -/
def execAskLog (p : Port) (f : EthFrame) (s : State) : StepOutcome := .next (s.receiveFrame p f)

/-- ASK of the STANDIN table (R118). -/
def execAskStandin (p : Port) (f : EthFrame) (s : State) : StepOutcome := .next (s.receiveFrame p f)

/-- ASK of the SETTINGS table (R166). -/
def execAskSettings (p : Port) (f : EthFrame) (s : State) : StepOutcome := .next (s.receiveFrame p f)

/-- ASK of the COUNTERS table (R167, R177). -/
def execAskCounters (p : Port) (f : EthFrame) (s : State) : StepOutcome := .next (s.receiveFrame p f)

/-- ASK of the FAULTS table (R160). -/
def execAskFaults (p : Port) (f : EthFrame) (s : State) : StepOutcome := .next (s.receiveFrame p f)

/-- ASK of the EVENTS table (R167, R173). -/
def execAskEvents (p : Port) (f : EthFrame) (s : State) : StepOutcome := .next (s.receiveFrame p f)

/-- STAGE (R139). -/
def execStage (p : Port) (f : EthFrame) (s : State) : StepOutcome := .next (s.receiveFrame p f)

/-- COMMIT (R142 to R147). -/
def execCommit (p : Port) (f : EthFrame) (s : State) : StepOutcome := .next (s.receiveFrame p f)

/-- DISCARD (R141). -/
def execDiscard (p : Port) (f : EthFrame) (s : State) : StepOutcome := .next (s.receiveFrame p f)

/-- HOLD (R148, R149). -/
def execHold (p : Port) (f : EthFrame) (s : State) : StepOutcome := .next (s.receiveFrame p f)

/-- RELEASE (R151). -/
def execRelease (p : Port) (f : EthFrame) (s : State) : StepOutcome := .next (s.receiveFrame p f)

/-- SET-LANE READY (R32). -/
def execSetLaneReady (p : Port) (f : EthFrame) (s : State) : StepOutcome := .next (s.receiveFrame p f)

/-- SET-LANE SUSPEND (R32). -/
def execSetLaneSuspend (p : Port) (f : EthFrame) (s : State) : StepOutcome := .next (s.receiveFrame p f)

/-- SET-LANE TEST (R32). -/
def execSetLaneTest (p : Port) (f : EthFrame) (s : State) : StepOutcome := .next (s.receiveFrame p f)

/-- SET-LANE UNUSED (R32). -/
def execSetLaneUnused (p : Port) (f : EthFrame) (s : State) : StepOutcome := .next (s.receiveFrame p f)

/-- SET-LANE CLEAR-VOLATILE (R38). -/
def execSetLaneClearVolatile (p : Port) (f : EthFrame) (s : State) : StepOutcome := .next (s.receiveFrame p f)

/-- RESTART (R170). -/
def execRestart (p : Port) (f : EthFrame) (s : State) : StepOutcome := .next (s.receiveFrame p f)

/-- A request that is none of the eight (R165). -/
def execUnknownRequest (p : Port) (f : EthFrame) (s : State) : StepOutcome := .next (s.receiveFrame p f)

/-- HOLD_GRANT: the Hold Arbiter makes its grant test (R149, log 15). -/
def execHoldGrant (s : State) : StepOutcome := .next s.grantHolds

/-- A GRANTED hold is revoked at its limit (R152). -/
def State.revoke (s : State) (p : Port) (r : HoldRequest) : State :=
  let n := (s.ctl p).changeSet.entries.length
  (((s.setCtl p { s.ctl p with hold := .none }).emptySet p).raise (.holdRevoked p r.low r.high n)).grantHolds

/-- HOLD_LIMIT: the limit of a GRANTED hold is reached (R152). -/
def State.holdLimit (s : State) (p : Port) : State :=
  match (s.ctl p).hold with
  | .granted r limit => if limit ≤ s.clock then s.revoke p r else s
  | .pending _ => s
  | .none => s

def execHoldLimit (p : Port) (s : State) : StepOutcome := .next (s.holdLimit p)

/-- CHANGE_SET_IDLE_LIMIT: the idle timer of an OPEN set expires (R140). -/
def State.idleLimit (s : State) (p : Port) : State :=
  let c := (s.ctl p).changeSet
  match c.idle with
  | some t =>
    if t ≤ s.clock ∧ c.entries ≠ [] then (s.emptySet p).raise (.changeSetAbandoned p c.entries.length) else s
  | none => s

def execChangeSetIdleLimit (p : Port) (s : State) : StepOutcome := .next (s.idleLimit p)

end Sys2Proof.Machine
end

