-- ==== Sys2Proof/Machine/CmdEngine.lean ====
section
/-! DEFINITION. The commands of the Wrap Engine: the grant and the completions of the jobs (R57 to R77). A completion
commanded while no such job is in flight changes nothing (log 6). -/

namespace Sys2Proof.Machine

/-- ENGINE_GRANT (R60). -/
def execEngineGrant (w : Wear) (s : State) : StepOutcome := .next (s.arbitrate w)

/-- A PAY's lane job completes (R66 to R69, R31). -/
def State.payJob (s : State) : State :=
  match s.engine.job with
  | some (.lane l f link (.pay base)) => s.laneJob l f link (fun t => t.payWork l f link base)
  | some (.lane l f link .payTest) => s.laneJob l f link (fun t => t.testWork l f link)
  | _ => s

def execPayJob (s : State) : StepOutcome := .next s.payJob

/-- A REVERSE's lane job completes (R66, R70, R71). -/
def State.reverseJob (s : State) : State :=
  match s.engine.job with
  | some (.lane l f link (.reverse base)) => s.laneJob l f link (fun t => t.reverseWork l f link base)
  | _ => s

def execReverseJob (s : State) : StepOutcome := .next s.reverseJob

/-- An ENROL's lane job completes (R66, R72). -/
def State.enrolJob (s : State) : State :=
  match s.engine.job with
  | some (.lane l f link .enrol) => s.laneJob l f link (fun t => t.stateWork l f link)
  | _ => s

def execEnrolJob (s : State) : StepOutcome := .next s.enrolJob

/-- An ASK-STATE's lane job completes (R66, R72). -/
def State.askStateJob (s : State) : State :=
  match s.engine.job with
  | some (.lane l f link .askState) => s.laneJob l f link (fun t => t.stateWork l f link)
  | _ => s

def execAskStateJob (s : State) : StepOutcome := .next s.askStateJob

/-- An answer job completes (R73). -/
def State.answerJob (s : State) : State :=
  match s.engine.job with
  | some (.answer env found _ base link) => (s.answerWork env found base link).finishJob
  | _ => s

def execAnswerJob (s : State) : StepOutcome := .next s.answerJob

/-- The work of a job on an entry, when the entry is still in the state of that job (R76, R77). -/
def State.entryWork (s : State) (i : EntryId) (st : ExchangeState) (work : Exchange → State) : State :=
  match s.exchange i with
  | some e => if e.state = st then work e else s
  | none => s

/-- A reversal job completes (R76). -/
def State.reversalJob (s : State) : State :=
  match s.engine.job with
  | some (.reversal i _ base) => (s.entryWork i .reversalDue (fun e => s.reversalWork i e base)).finishJob
  | _ => s

def execReversalJob (s : State) : StepOutcome := .next s.reversalJob

/-- A repeat job completes (R77). -/
def State.repeatJob (s : State) : State :=
  match s.engine.job with
  | some (.repetition i _ base) => (s.entryWork i .reversing (fun e => s.repeatWork i e base)).finishJob
  | _ => s

def execRepeatJob (s : State) : StepOutcome := .next s.repeatJob

end Sys2Proof.Machine
end

