-- ==== Sys2Proof/Machine/CmdFrames.lean ====
section
/-! DEFINITION. The commands in which a port hands over a frame that is no control request, and the pause request of the MAC.
Each row names the frame it hands over; what becomes of it is read from its bytes alone (log 7). -/

namespace Sys2Proof.Machine

/-- FRAME_RECEIVED (R1 to R3). -/
def execFrameReceived (p : Port) (f : EthFrame) (s : State) : StepOutcome := .next (s.receiveFrame p f)

/-- PAUSE_FRAME (R1, R106). -/
def execPauseFrame (p : Port) (quanta : BitVec 16) (s : State) : StepOutcome := .next (s.pause p quanta)

/-- PAY (R18). -/
def execPay (f : EthFrame) (s : State) : StepOutcome := .next (s.receiveFrame .s f)

/-- REVERSE (R18). -/
def execReverse (f : EthFrame) (s : State) : StepOutcome := .next (s.receiveFrame .s f)

/-- ENROL (R18, R19). -/
def execEnrol (f : EthFrame) (s : State) : StepOutcome := .next (s.receiveFrame .s f)

/-- ASK_STATE (R18, R21). -/
def execAskState (f : EthFrame) (s : State) : StepOutcome := .next (s.receiveFrame .s f)

/-- ANSWER_ENVELOPE (R104 to R111). -/
def execAnswerEnvelope (f : EthFrame) (s : State) : StepOutcome := .next (s.receiveFrame .c f)

/-- REVERSAL_ACK (R104 to R111). -/
def execReversalAck (f : EthFrame) (s : State) : StepOutcome := .next (s.receiveFrame .c f)

/-- PROBE_ECHO (R104, R105, R114). -/
def execProbeEcho (f : EthFrame) (s : State) : StepOutcome := .next (s.receiveFrame .c f)

/-- MALFORMED_LANE_FRAME (R6). -/
def execMalformedLaneFrame (f : EthFrame) (s : State) : StepOutcome := .next (s.receiveFrame .s f)

/-- MALFORMED_ENVELOPE (R104). -/
def execMalformedEnvelope (f : EthFrame) (s : State) : StepOutcome := .next (s.receiveFrame .c f)

end Sys2Proof.Machine
end

