-- ==== Sys2Proof/Machine/CmdPersist.lean ====
section
/-! DEFINITION. The commands in which the Persist Queue reports a write (R179 to R181). One that names a kind of write that
is not being written changes nothing (log 6). -/

namespace Sys2Proof.Machine

/-- The advance of a lane leaves the queue unwritten, and none is pending (R53; log 20). -/
def State.withdrawAdvance (s : State) (l : LaneId) : State :=
  (s.dropCeilings l).modLane l (fun r => { r with advancePending := false })

/-- A group's writing fails (R147, R180): the advances that stand on it leave the queue, and the working copies stay
(R53; log 20). -/
def State.groupFailed (s : State) (g : CommitGroup) : State :=
  (((s.persist.standOn g s.store).foldl State.withdrawAdvance s).endWrite (.group g) .failed).loseGroup g
    s.lastCommitWritten

/-- COMMIT_GROUP_WRITE (R147, R180). -/
def State.groupReported (s : State) (r : WriteResult) : State :=
  match s.persist.current with
  | some (.group g) =>
    (match r with
     | .completed => s.endWrite (.group g) .completed
     | .failed => s.groupFailed g)
  | _ => s

def execCommitGroupWrite (result : WriteResult) (s : State) : StepOutcome := .next (s.groupReported result)

/-- CEILING_WRITE_DONE (R52, R53). -/
def State.ceilingCompleted (s : State) : State :=
  match s.persist.current with
  | some (.ceiling l base gen target stale) =>
    let t := s.endWrite (.ceiling l base gen target stale) .completed
    if stale then t else t.ceilingDone l base gen target
  | _ => s

def execCeilingWriteDone (s : State) : StepOutcome := .next s.ceilingCompleted

/-- CEILING_WRITE_FAILED (R52, R53). -/
def State.ceilingReportedFailed (s : State) : State :=
  match s.persist.current with
  | some (.ceiling l base gen target stale) =>
    let t := s.endWrite (.ceiling l base gen target stale) .failed
    if stale then t.writeFailed .ceiling (.lane l) else t.ceilingFailed l
  | _ => s

def execCeilingWriteFailed (s : State) : StepOutcome := .next s.ceilingReportedFailed

/-- LANE_STATE_WRITE (R15, R181). -/
def State.laneStateReported (s : State) (r : WriteResult) : State :=
  match s.persist.current with
  | some (.laneState l st) =>
    let t := s.endWrite (.laneState l st) r
    (match r with
     | .completed => t
     | .failed => t.writeFailed .laneState (.lane l))
  | _ => s

def execLaneStateWrite (result : WriteResult) (s : State) : StepOutcome := .next (s.laneStateReported result)

/-- SLOT_STATE_WRITE (R43, R181). -/
def State.slotStateReported (s : State) (r : WriteResult) : State :=
  match s.persist.current with
  | some (.slotState n x) =>
    let t := s.endWrite (.slotState n x) r
    (match r with
     | .completed => t
     | .failed => t.writeFailed .slotState (.slot n))
  | _ => s

def execSlotStateWrite (result : WriteResult) (s : State) : StepOutcome := .next (s.slotStateReported result)

/-- APPEND_WRITE_DONE (R124). -/
def State.appendReported (s : State) : State :=
  match s.persist.current with
  | some (.append e src till) => (s.endWrite (.append e src till) .completed).appendDone e
  | _ => s

def execAppendWriteDone (s : State) : StepOutcome := .next s.appendReported

/-- APPEND_WRITE_FAILED (R125): the removal writes that wait behind it write nothing (R126). -/
def State.appendReportedFailed (s : State) : State :=
  match s.persist.current with
  | some (.append e src till) =>
    let cancels := cancelsOf e.serial s.persist.waiting
    ((s.dropRemovals e.serial).endWrite (.append e src till) .failed).appendFailed e src till cancels
  | _ => s

def execAppendWriteFailed (s : State) : StepOutcome := .next s.appendReportedFailed

/-- LOG_UPDATE_WRITE (R126). -/
def State.updateReported (s : State) (r : WriteResult) : State :=
  match s.persist.current with
  | some (.update e) =>
    let t := s.endWrite (.update e) r
    (match r with
     | .completed => t
     | .failed => t.writeFailed .update (.logPlace e.place))
  | _ => s

def execLogUpdateWrite (result : WriteResult) (s : State) : StepOutcome := .next (s.updateReported result)

/-- LOG_REMOVAL_WRITE (R126, R132). -/
def State.removalReported (s : State) (r : WriteResult) : State :=
  match s.persist.current with
  | some (.removal p serial c) =>
    let t := s.endWrite (.removal p serial c) r
    (match r with
     | .completed => t.cancelReply c
     | .failed => t.removalFailed p c)
  | _ => s

def execLogRemovalWrite (result : WriteResult) (s : State) : StepOutcome := .next (s.removalReported result)

end Sys2Proof.Machine
end

