-- ==== Sys2Proof/Machine/CmdPorts.lean ====
section
/-! DEFINITION. The commands of transmission and of carrier (R4, R106, R107). -/

namespace Sys2Proof.Machine

/-- PORT_FRAME_TRANSMIT (R4, R106). -/
def execPortFrameTransmit (p : Port) (s : State) : StepOutcome := .next (s.transmitOrder p)

/-- SEND_QUEUE_TRANSMIT (R107, R108). -/
def execSendQueueTransmit (s : State) : StepOutcome := .next s.transmitEnvelope

/-- S_PORT_CARRIER_LOST (R4). -/
def State.sCarrierLost (s : State) : State := if (s.port .s).carrier then s.dropOrder .s else s

def execSPortCarrierLost (s : State) : StepOutcome := .next s.sCarrierLost

/-- S_PORT_CARRIER_RETURNS (R4). -/
def State.carrierReturns (s : State) (p : Port) : State := s.setPort p { s.port p with carrier := true }

def execSPortCarrierReturns (s : State) : StepOutcome := .next (s.carrierReturns .s)

/-- Whether the C-port transmits a two-segment envelope now (R107). -/
def State.segmentsInFlight (s : State) : Bool :=
  decide ((s.port .c).transmitting = some .sendQueue) &&
    (match s.sendQueue with
     | e :: _ => decide (e.frames = 2)
     | [] => false)

/-- C_PORT_CARRIER_LOST (R106, R107, R112): both holders are emptied, then the monitor goes DOWN. -/
def State.cCarrierLost (s : State) (firstSegmentGone : Bool) : State :=
  if (s.port .c).carrier then
    ((s.dropSendQueue (firstSegmentGone && s.segmentsInFlight)).dropOrder .c).carrierGone
  else s

def execCPortCarrierLost (firstSegmentGone : Bool) (s : State) : StepOutcome :=
  .next (s.cCarrierLost firstSegmentGone)

/-- C_PORT_CARRIER_RETURNS (R112, R113). -/
def State.cCarrierReturns (s : State) : State :=
  if (s.port .c).carrier then s else (s.carrierReturns .c).firstProbe

def execCPortCarrierReturns (s : State) : StepOutcome := .next s.cCarrierReturns

end Sys2Proof.Machine
end

