-- ==== Sys2Proof/Machine/CmdStart.lean ====
section
/-! DEFINITION. The commands of a start: POWER_APPLIED, RESET_LINE, RESTART_REPLY_LEFT, ENTER_SERVING. -/

namespace Sys2Proof.Machine

/-- Power is applied (R182). -/
def execPowerApplied (decays : List Decay) (s : State) : StepOutcome := .next (s.beginStart true decays)

/-- The reset line is asserted with power present (R182). -/
def execResetLine (decays : List Decay) (s : State) : StepOutcome := .next (s.beginStart false decays)

/-- Whether the reply to an accepted RESTART has left some port (R170). -/
def State.restartDue (s : State) : Bool :=
  decide ((s.ctl .s).restart = .left) || decide ((s.ctl .c).restart = .left)

/-- The reply to an accepted RESTART has left its port (R170, R182). -/
def execRestartReplyLeft (decays : List Decay) (s : State) : StepOutcome :=
  .next (if s.restartDue then s.beginStart false decays else s)

/-- The epoch write is reported and the part enters SERVING (R184, R185). -/
def execEnterServing (result : WriteResult) (s : State) : StepOutcome := .next (s.epochReported result)

end Sys2Proof.Machine
end

