-- ==== Sys2Proof/Machine/CmdTimers.lean ====
section
/-! DEFINITION. The commands of deadlines, timers and the drain. One that is commanded before its time, or in STARTING,
changes nothing (log 6). -/

namespace Sys2Proof.Machine

/-- Whether a time is reached, in SERVING. -/
def State.due (s : State) (t : Nat) : Bool := decide (s.phase = .serving) && decide (t ≤ s.clock)

/-- PAYMENT_DEADLINE (R84). -/
def State.paymentDeadline (s : State) (i : EntryId) : State :=
  match s.exchange i with
  | some e => if s.due e.deadline = true ∧ e.kind = .payment ∧ e.state = .awaiting then s.paymentTimesOut i e else s
  | none => s

def execPaymentDeadline (i : EntryId) (s : State) : StepOutcome := .next (s.paymentDeadline i)

/-- REVERSING_DEADLINE (R85). -/
def State.reversingDeadline (s : State) (i : EntryId) : State :=
  match s.exchange i with
  | some e =>
    if s.due e.deadline = true ∧ e.state = .reversing then s.setExchange i (some { e with repeatDue := true }) else s
  | none => s

def execReversingDeadline (i : EntryId) (s : State) : StepOutcome := .next (s.reversingDeadline i)

/-- LOG_SEND_DEADLINE (R98, R131). -/
def State.logSendDeadline (s : State) (i : EntryId) : State :=
  match s.exchange i with
  | some e => if s.due e.deadline = true ∧ e.kind = .logSend then s.logSendTimesOut i e else s
  | none => s

def execLogSendDeadline (i : EntryId) (s : State) : StepOutcome := .next (s.logSendDeadline i)

/-- DRAIN_SEND (R127, R128, log 16). -/
def State.drainSend (s : State) : State :=
  if s.phase = .serving then
    match s.drainTest with
    | some (e, i) => s.drain e i
    | none => s
  else s

def execDrainSend (s : State) : StepOutcome := .next s.drainSend

/-- PROBE_TIMER (R112, R113). -/
def State.probeTimer (s : State) : State :=
  match s.monitor.timer with
  | some t => if s.due t then s.probeExpired else s
  | none => s

def execProbeTimer (s : State) : StepOutcome := .next s.probeTimer

/-- REASSEMBLY_LIMIT (R110). -/
def State.reassemblyLimit (s : State) (b : BufferId) : State :=
  match s.reassembly[b] with
  | some h => if s.due h.limit then (s.setBuffer b none).countDrops 1 else s
  | none => s

def execReassemblyLimit (b : BufferId) (s : State) : StepOutcome := .next (s.reassemblyLimit b)

/-- SCRUB_STEP (R154). -/
def State.scrubStep (s : State) (w : Wear) : State :=
  if s.due s.scrub.nextStep then (s.applyWear w).scrubWalk else s

def execScrubStep (w : Wear) (s : State) : StepOutcome := .next (s.scrubStep w)

end Sys2Proof.Machine
end

