-- ==== Sys2Proof/Machine/Dispatch.lean ====
section
/-! DEFINITION. One arm per command: its meaning. -/

namespace Sys2Proof.Machine

/-- A command's effect on everything but the queue. -/
def exec (i : Instr) (s : State) : Host.Outcome State Fault Refusal :=
  match i with
  | .powerApplied decays => Sys2Proof.Machine.execPowerApplied decays s
  | .resetLine decays => Sys2Proof.Machine.execResetLine decays s
  | .restartReplyLeft decays => Sys2Proof.Machine.execRestartReplyLeft decays s
  | .enterServing result => Sys2Proof.Machine.execEnterServing result s
  | .frameReceived port frame => Sys2Proof.Machine.execFrameReceived port frame s
  | .pauseFrame port quanta => Sys2Proof.Machine.execPauseFrame port quanta s
  | .pay frame => Sys2Proof.Machine.execPay frame s
  | .reverse frame => Sys2Proof.Machine.execReverse frame s
  | .enrol frame => Sys2Proof.Machine.execEnrol frame s
  | .askState frame => Sys2Proof.Machine.execAskState frame s
  | .answerEnvelope frame => Sys2Proof.Machine.execAnswerEnvelope frame s
  | .reversalAck frame => Sys2Proof.Machine.execReversalAck frame s
  | .probeEcho frame => Sys2Proof.Machine.execProbeEcho frame s
  | .askLane port frame => Sys2Proof.Machine.execAskLane port frame s
  | .askSlot port frame => Sys2Proof.Machine.execAskSlot port frame s
  | .askExchange port frame => Sys2Proof.Machine.execAskExchange port frame s
  | .askLog port frame => Sys2Proof.Machine.execAskLog port frame s
  | .askStandin port frame => Sys2Proof.Machine.execAskStandin port frame s
  | .askSettings port frame => Sys2Proof.Machine.execAskSettings port frame s
  | .askCounters port frame => Sys2Proof.Machine.execAskCounters port frame s
  | .askFaults port frame => Sys2Proof.Machine.execAskFaults port frame s
  | .askEvents port frame => Sys2Proof.Machine.execAskEvents port frame s
  | .stage port frame => Sys2Proof.Machine.execStage port frame s
  | .commit port frame => Sys2Proof.Machine.execCommit port frame s
  | .discard port frame => Sys2Proof.Machine.execDiscard port frame s
  | .hold port frame => Sys2Proof.Machine.execHold port frame s
  | .release port frame => Sys2Proof.Machine.execRelease port frame s
  | .setLaneReady port frame => Sys2Proof.Machine.execSetLaneReady port frame s
  | .setLaneSuspend port frame => Sys2Proof.Machine.execSetLaneSuspend port frame s
  | .setLaneTest port frame => Sys2Proof.Machine.execSetLaneTest port frame s
  | .setLaneUnused port frame => Sys2Proof.Machine.execSetLaneUnused port frame s
  | .setLaneClearVolatile port frame => Sys2Proof.Machine.execSetLaneClearVolatile port frame s
  | .restart port frame => Sys2Proof.Machine.execRestart port frame s
  | .unknownRequest port frame => Sys2Proof.Machine.execUnknownRequest port frame s
  | .engineGrant wear => Sys2Proof.Machine.execEngineGrant wear s
  | .payJob => Sys2Proof.Machine.execPayJob s
  | .reverseJob => Sys2Proof.Machine.execReverseJob s
  | .enrolJob => Sys2Proof.Machine.execEnrolJob s
  | .askStateJob => Sys2Proof.Machine.execAskStateJob s
  | .answerJob => Sys2Proof.Machine.execAnswerJob s
  | .reversalJob => Sys2Proof.Machine.execReversalJob s
  | .repeatJob => Sys2Proof.Machine.execRepeatJob s
  | .paymentDeadline entry => Sys2Proof.Machine.execPaymentDeadline entry s
  | .reversingDeadline entry => Sys2Proof.Machine.execReversingDeadline entry s
  | .logSendDeadline entry => Sys2Proof.Machine.execLogSendDeadline entry s
  | .drainSend => Sys2Proof.Machine.execDrainSend s
  | .holdGrant => Sys2Proof.Machine.execHoldGrant s
  | .holdLimit port => Sys2Proof.Machine.execHoldLimit port s
  | .changeSetIdleLimit port => Sys2Proof.Machine.execChangeSetIdleLimit port s
  | .probeTimer => Sys2Proof.Machine.execProbeTimer s
  | .reassemblyLimit buffer => Sys2Proof.Machine.execReassemblyLimit buffer s
  | .scrubStep wear => Sys2Proof.Machine.execScrubStep wear s
  | .portFrameTransmit port => Sys2Proof.Machine.execPortFrameTransmit port s
  | .sendQueueTransmit => Sys2Proof.Machine.execSendQueueTransmit s
  | .sPortCarrierLost => Sys2Proof.Machine.execSPortCarrierLost s
  | .sPortCarrierReturns => Sys2Proof.Machine.execSPortCarrierReturns s
  | .cPortCarrierLost firstSegmentGone => Sys2Proof.Machine.execCPortCarrierLost firstSegmentGone s
  | .cPortCarrierReturns => Sys2Proof.Machine.execCPortCarrierReturns s
  | .commitGroupWrite result => Sys2Proof.Machine.execCommitGroupWrite result s
  | .ceilingWriteDone => Sys2Proof.Machine.execCeilingWriteDone s
  | .ceilingWriteFailed => Sys2Proof.Machine.execCeilingWriteFailed s
  | .laneStateWrite result => Sys2Proof.Machine.execLaneStateWrite result s
  | .slotStateWrite result => Sys2Proof.Machine.execSlotStateWrite result s
  | .appendWriteDone => Sys2Proof.Machine.execAppendWriteDone s
  | .appendWriteFailed => Sys2Proof.Machine.execAppendWriteFailed s
  | .logUpdateWrite result => Sys2Proof.Machine.execLogUpdateWrite result s
  | .logRemovalWrite result => Sys2Proof.Machine.execLogRemovalWrite result s
  | .malformedLaneFrame frame => Sys2Proof.Machine.execMalformedLaneFrame frame s
  | .malformedEnvelope frame => Sys2Proof.Machine.execMalformedEnvelope frame s

end Sys2Proof.Machine
end

