-- ==== Sys2Proof/Machine/Ticks.lean ====
section
/-! DEFINITION. The passing of time (log 5), and a command put at the front of the queue (log 39). -/

namespace Sys2Proof.Machine

/-- One millisecond passes; a port whose pause has ended takes its next frame (R106). -/
def State.tick (s : State) : State := (State.takeNext { s with clock := s.clock + 1 } .s).takeNext .c

/-- The command put at the front of the queue, if there is one. -/
def State.putFront (s : State) (c : Option Instr) : State :=
  match c with
  | some c => { s with pending := c :: s.pending }
  | none => s

end Sys2Proof.Machine
end

