-- ==== Sys2Proof/Machine/Step.lean ====
section
/-! DEFINITION. One step: the command at the front of the queue, or a millisecond when none waits (log 5). -/

namespace Sys2Proof.Machine

/-- One step of the part. -/
def step (s : State) : Host.Outcome State Fault Refusal :=
  match s.pending with
  | c :: rest => exec c { s with pending := rest }
  | [] => .next s.tick

/-- The command a word spells put at the front of the queue; unchanged where it spells none (log 39). -/
def State.withFetchWord (s : State) (nbits w : Nat) : State := s.putFront (decodeTableWord nbits w)

end Sys2Proof.Machine
end

