-- ==== Sys2Proof/Safety.lean ====
section
/-! DEFINITION. What counts as a safe run, and the words that statements use: which rows hand over a frame, when a
frame is taken or accepted, the capacities (00_scope.md section 6), and the exclusion of holds and jobs (R150). -/

namespace Sys2Proof.Safety

open Sys2Proof.Machine

/-! ## Runs -/

/-- A run of so many steps from a state reaches a state. -/
def reaches : Nat → State → State → Prop
  | 0, s, t => s = t
  | k + 1, s, t => ∃ u, step s = .next u ∧ reaches k u t

/-- A state is safe when every run from it, of any length, reaches a state: it neither faults nor is refused. -/
def safe (s : State) : Prop := ∀ k, ∃ t, reaches k s t

/-! ## Rows -/

/-- The row of a lane frame kind. -/
def laneRow (k : LaneKind) (f : EthFrame) : Instr :=
  match k with
  | .pay => .pay f
  | .reverse => .reverse f
  | .enrol => .enrol f
  | .askState => .askState f

/-- The row of an ASK of a table. -/
def askRow (t : AskTable) (p : Port) (f : EthFrame) : Instr :=
  match t with
  | .lane => .askLane p f
  | .slot => .askSlot p f
  | .exchange => .askExchange p f
  | .log => .askLog p f
  | .standIn => .askStandin p f
  | .settings => .askSettings p f
  | .counters => .askCounters p f
  | .faults => .askFaults p f
  | .events => .askEvents p f

/-- The row of a SET-LANE action. -/
def setLaneRow (a : LaneAction) (p : Port) (f : EthFrame) : Instr :=
  match a with
  | .ready => .setLaneReady p f
  | .suspend => .setLaneSuspend p f
  | .test => .setLaneTest p f
  | .unused => .setLaneUnused p f
  | .clearVolatile => .setLaneClearVolatile p f

/-- The rows of control requests, with the port and the frame. -/
def controlOf : Instr → Option (Port × EthFrame)
  | .askLane p f => some (p, f)
  | .askSlot p f => some (p, f)
  | .askExchange p f => some (p, f)
  | .askLog p f => some (p, f)
  | .askStandin p f => some (p, f)
  | .askSettings p f => some (p, f)
  | .askCounters p f => some (p, f)
  | .askFaults p f => some (p, f)
  | .askEvents p f => some (p, f)
  | .stage p f => some (p, f)
  | .commit p f => some (p, f)
  | .discard p f => some (p, f)
  | .hold p f => some (p, f)
  | .release p f => some (p, f)
  | .setLaneReady p f => some (p, f)
  | .setLaneSuspend p f => some (p, f)
  | .setLaneTest p f => some (p, f)
  | .setLaneUnused p f => some (p, f)
  | .setLaneClearVolatile p f => some (p, f)
  | .restart p f => some (p, f)
  | .unknownRequest p f => some (p, f)
  | _ => none

/-- Every row that hands over a frame, with the port and the frame. -/
def frameOf (c : Instr) : Option (Port × EthFrame) :=
  match c with
  | .frameReceived p f => some (p, f)
  | .pay f => some (.s, f)
  | .reverse f => some (.s, f)
  | .enrol f => some (.s, f)
  | .askState f => some (.s, f)
  | .answerEnvelope f => some (.c, f)
  | .reversalAck f => some (.c, f)
  | .probeEcho f => some (.c, f)
  | .malformedLaneFrame f => some (.s, f)
  | .malformedEnvelope f => some (.c, f)
  | c => controlOf c

/-! ## Frames taken and control frames accepted -/

/-- The port hands the frame to the Frame Sorter, and the part is SERVING (R1). -/
def taken (s : State) (p : Port) (f : EthFrame) : Prop := s.phase = .serving ∧ s.macTakes p f = true

/-- The frame is counted in the port's frames-in (R1). -/
def countedIn (s : State) (p : Port) : State :=
  s.countPort p (fun c => { c with framesIn := satInc Config.count32Max c.framesIn })

/-- A port can take one more frame for transmission (R4, R106). -/
def roomAt (s : State) (p : Port) : Prop :=
  (s.port p).carrier = true ∧ (s.port p).order.length < Config.orderCapacity

/-- A control frame reaches the tag check (R162). -/
def reachesCheck (s : State) (p : Port) (f : EthFrame) (g : ControlFrame) : Prop :=
  taken s p f ∧ f.etype = Config.controlType ∧ f.dst = s.settings.station p ∧ readControl f = some g

/-- A control frame is accepted (R163). -/
def accepted (s : State) (p : Port) (f : EthFrame) (g : ControlFrame) : Prop :=
  reachesCheck s p f g ∧ g.tag = Config.tag (s.controlKey p) .request g.covered ∧
    (s.ctl p).lastNumber < g.number.toNat

/-- The state in which an accepted request is carried out (R163, R165). -/
def heard (s : State) (p : Port) (g : ControlFrame) : State := (countedIn s p).accept p g

/-! ## What a step leaves as it was -/

/-- The tables of the control stations' making. -/
def tablesKept (s t : State) : Prop :=
  t.settings = s.settings ∧ t.standIn = s.standIn ∧ t.slots = s.slots ∧ t.lanes = s.lanes

/-- The exchanges, the log and the engine. -/
def workKept (s t : State) : Prop :=
  t.exchanges = s.exchanges ∧ t.log = s.log ∧ t.engine = s.engine

/-- The chain side. -/
def chainKept (s t : State) : Prop :=
  t.sendQueue = s.sendQueue ∧ t.reassembly = s.reassembly ∧ t.answerQueue = s.answerQueue ∧ t.monitor = s.monitor

/-- The Persistent Store and its queue. -/
def storeKept (s t : State) : Prop := t.store = s.store ∧ t.persist = s.persist

/-- The scrubber, the memories' wrong bits, the event latches and the device counters. -/
def historyKept (s t : State) : Prop :=
  t.scrub = s.scrub ∧ t.upsets = s.upsets ∧ t.events = s.events ∧ t.device = s.device

/-- The phase, the clocks and the queue of commands. -/
def clocksKept (s t : State) : Prop :=
  t.phase = s.phase ∧ t.startKind = s.startKind ∧ t.clock = s.clock ∧ t.servingSince = s.servingSince ∧
    t.epoch = s.epoch ∧ t.pending = s.pending

/-- Every lane but one is as it was. -/
def otherLanes (s t : State) (l : LaneId) : Prop := ∀ k, k ≠ l → t.lane k = s.lane k

/-- Every exchange entry but one is as it was. -/
def otherEntries (s t : State) (i : EntryId) : Prop := ∀ j, j ≠ i → t.exchange j = s.exchange j

/-- The settings, the Stand-In Table and the slots. -/
def standingTables (s t : State) : Prop := t.settings = s.settings ∧ t.standIn = s.standIn ∧ t.slots = s.slots

/-! ## A port's next frame (R106) -/

/-- A port is free to transmit: it has carrier, transmits nothing and is not asked to hold back. -/
def freePort (s : State) (p : Port) : Prop :=
  (s.port p).carrier = true ∧ (s.port p).transmitting = none ∧ (s.port p).pausedUntil ≤ s.clock

/-- The holder whose turn it is at a port: the one with a frame waiting, and of two the one the port did not take from
last. The Send Queue is the C-port's alone. -/
def holdersTurn (s : State) (p : Port) (h : Holder) : Prop :=
  match h with
  | .order => (s.port p).order ≠ [] ∧ (p = .s ∨ s.sendQueue = [] ∨ (s.port p).lastTaken = .sendQueue)
  | .sendQueue => p = .c ∧ s.sendQueue ≠ [] ∧ ((s.port p).order = [] ∨ (s.port p).lastTaken = .order)

/-! ## The door (R18 to R21) -/

/-- A frame's source passes the identity check (R19). -/
def stationAgrees (c : LaneConfig) (f : LaneFrame) : Prop :=
  c.station = none ∨ c.station = some f.src ∨ (f.kind = .enrol ∧ c.frozen = false)

/-- A lane in a state takes a frame kind at the door (R21). -/
def stateTakes (st : LaneState) (k : LaneKind) : Prop :=
  match st with
  | .unused => False
  | .ready => True
  | .test => True
  | .exhausted => k ≠ .pay
  | .suspended _ => k = .askState
  | .faulted _ => False

/-! ## Starts (R182 to R185) -/

/-- The event kinds that a start itself may raise while STARTING (R175): LANE-EXHAUSTED, LANE-FAULTED, SLOT-FAULTED,
LOG-ENTRY-ABANDONED and PERSIST-FAIL. -/
def startKinds : List EventNumber := [3, 5, 6, 13, 16]

/-- The Persist Queue holds the writes of the start itself and no other (R179, R182, R184): lane-state writes of the
lanes that changed, the ceiling advances, and last the epoch write. -/
def startWrites (t : State) : Prop :=
  t.persist.unwritten.getLast? = some (.epoch t.epoch) ∧
    ∀ w ∈ t.persist.unwritten.dropLast,
      (∃ l, w = .laneState l (t.lane l).config.state) ∨
        ∃ l, w = .ceiling l (t.lane l).config.base (t.lane l).config.baseGen
          (min ((t.lane l).config.ceiling + 512) 4194304) false

/-- A start has discarded everything in flight, the writes that waited in the Persist Queue among it, and emptied the
volatile fields (R13, R14, R117, R171, R182, R184). -/
def inFlightGone (s t : State) : Prop :=
  t.phase = .starting ∧ (∀ i, t.exchange i = none) ∧ t.engine.job = none ∧ t.sendQueue = [] ∧ t.answerQueue = [] ∧
    (∀ b : BufferId, t.reassembly[b] = none) ∧
    (∀ p, (t.port p).order = [] ∧ (t.port p).transmitting = none ∧ (t.port p).carrier = (s.port p).carrier) ∧
    (∀ p, (t.ctl p).lastNumber = 0 ∧ (t.ctl p).changeSet = emptyChangeSet ∧ (t.ctl p).hold = .none) ∧
    (∀ l, (t.lane l).mailbox = none ∧ (t.lane l).openPayment = none ∧ (t.lane l).tagFailures = 0 ∧
      (t.lane l).lastAccepted = none ∧ (t.lane l).recent = [] ∧ (t.lane l).counter = (t.lane l).config.ceiling) ∧
    t.monitor = ⟨.down, t.settings.missLimit, none, 0, 0⟩ ∧ t.scrub.walk = 0 ∧ t.clock = s.clock ∧ t.wire = s.wire ∧
    startWrites t

/-! ## Jobs -/

/-- The row that completes a lane job (R58). -/
def jobRow : LaneWork → Instr
  | .pay _ => .payJob
  | .payTest => .payJob
  | .reverse _ => .reverseJob
  | .enrol => .enrolJob
  | .askState => .askStateJob

/-- A lane job in flight whose frame's tag verifies (R66). -/
def verifiedJob (s : State) (l : LaneId) (f : LaneFrame) (link : LoadedKey) (work : LaneWork) : Prop :=
  s.engine.job = some (.lane l f link work) ∧ f.tag = f.expectedTag link.key

/-- A payment is eligible for stand-in (R119). -/
def standsIn (s : State) (l : LaneId) (c : CardClass) (amount : Nat) : Prop :=
  s.standIn[c].allowed = true ∧ (s.lane l).config.classes.getLsbD c.val = true ∧ s.standIn[c].low ≤ amount ∧
    amount ≤ s.standIn[c].high ∧ s.logPayments l < s.standIn[c].laneCap ∧ 64 < s.logFree

/-- Nothing has happened to the memories. -/
def noWear : Wear := ⟨[], []⟩

/-- No answer in the Answer Queue is eligible (R60, R61). -/
def noAnswerEligible (s : State) : Prop := ∀ e ∈ s.answerQueue, s.answerEligible e = false

/-- No reversal work is eligible (R60, R62). -/
def noReversalEligible (s : State) : Prop := ∀ i e, s.exchange i = some e → s.reversalEligible e = false

/-- The round-robin comes to a lane's mailbox (R60, R63): nothing ranks before it. -/
def mailboxTurn (s : State) (l : LaneId) (f : LaneFrame) : Prop :=
  s.phase = .serving ∧ s.engine.job = none ∧ noAnswerEligible s ∧ noReversalEligible s ∧
    (∃ before behind, roundRobin s.engine.lastServed = before ++ l :: behind ∧
      ∀ k ∈ before, s.mailboxEligible k = false) ∧
    s.mailboxEligible l = true ∧ (s.lane l).mailbox = some f

/-- The frame of a lane's mailbox has left it for its grant (R63). -/
def takenFrom (s : State) (l : LaneId) : State :=
  { s.modLane l (fun r => { r with mailbox := none }) with engine := { s.engine with lastServed := l } }

/-- An answer job in flight whose envelope is not LATE and whose entry is the one found at the grant (R73, cases 1 to
3). -/
def answerFor (s : State) (env : Envelope) (base link : Option LoadedKey) (i : EntryId) (e : Exchange) : Prop :=
  ∃ lane, s.engine.job = some (.answer env (some (i, e.stamp)) lane base link) ∧ s.isLate env = false ∧
    s.entryOf env.seq = some (i, e)

/-- An envelope passes the last checks against its entry (R73, cases 4 and 5), under a transaction key. -/
def envelopePasses (s : State) (env : Envelope) (e : Exchange) (key : Key) : Prop :=
  (s.lane e.lane).config.identity = some env.identity ∧ s.suits env e = true ∧
    env.tag = Config.tag key .inbound env.covered

/-! ## Frames as bytes (13.1.1, 13.3.1) -/

/-- The payload of a lane frame a till sends. -/
def laneBytes (kind : LaneKind) (till xchg : Nat) (target : Option Nat) (body : Bytes) (tag : Tag) : Bytes :=
  beBytes 2 till ++ beBytes 2 xchg ++ [kind.code] ++ beBytes 2 (target.getD 0) ++ beBytes 2 body.length ++ body ++
    beBytes 8 tag.toNat

/-- The fields of a control frame before its tag. -/
def controlFields (cls : Byte) (number : ControlNumber) (request : Byte) (args : Bytes) : Bytes :=
  [cls] ++ beBytes 4 number.toNat ++ [request] ++ beBytes 2 args.length ++ args

/-- Every record of the store has the present contents it had. -/
def presentKept (a b : PersistentStore) : Prop :=
  b.settings.read = a.settings.read ∧ (∀ n : SlotId, b.slots[n].read = a.slots[n].read) ∧
    (∀ l : LaneId, b.lanes[l].read = a.lanes[l].read) ∧ (∀ l : LaneId, b.ceilings[l].read = a.ceilings[l].read) ∧
    (∀ c : CardClass, b.standIn[c].read = a.standIn[c].read) ∧
    (∀ p : PlaceId, (logGet b.log p).read = (logGet a.log p).read) ∧ b.epoch.read = a.epoch.read

/-- A record of the store has the same present contents. -/
def sameRecord (a b : PersistentStore) : RecordName → Prop
  | .settings => b.settings.read = a.settings.read
  | .slot n => b.slots[n].read = a.slots[n].read
  | .lane l => b.lanes[l].read = a.lanes[l].read
  | .ceiling l => b.ceilings[l].read = a.ceilings[l].read
  | .standIn c => b.standIn[c].read = a.standIn[c].read
  | .logPlace p => (logGet b.log p).read = (logGet a.log p).read
  | .epoch => b.epoch.read = a.epoch.read

/-- The records that a write writes (R178, R180). -/
def recordsOf : Write → List RecordName
  | .group g => (g.settings.toList.map (fun _ => .settings)) ++ g.slots.map (fun x => .slot x.1) ++
      g.lanes.map (fun x => .lane x.1) ++ g.classes.map (fun x => .standIn x.1)
  | .ceiling l _ _ _ _ => [.ceiling l]
  | .laneState l _ => [.lane l]
  | .slotState n _ => [.slot n]
  | .append e _ _ => [.logPlace e.place]
  | .update e => [.logPlace e.place]
  | .removal p _ _ => [.logPlace p]
  | .epoch _ => [.epoch]

/-! ## Change sets (R143, R45) -/

/-- The slots against which the entry at a place of a set is judged: as the set writes and erases them, with the
identities bound by the entries before it (R143, check 7). -/
def slotsBefore (s : State) (es : List StagedEntry) (k : Nat) : Vector SlotRecord 96 :=
  (es.take k).foldl (applyBinding s.lanes) (slotsWritten s es)

/-! ## Capacities and forms -/

/-- At most 16 envelopes wait in the Answer Queue (R111). -/
def answersFit (s : State) : Prop := s.answerQueue.length ≤ Config.answerCapacity

/-- A port's transmit order holds at most 256 frames (R4, R106). -/
def ordersFit (s : State) : Prop := ∀ p, (s.port p).order.length ≤ Config.orderCapacity

/-- The Send Queue and the places reserved in it number at most 64 (R59, R107). -/
def sendQueueFits (s : State) : Prop := s.sendQueue.length + s.reserved ≤ Config.sendCapacity

/-- The Persist Queue holds at most 4,096 writes (R179). -/
def persistFits (s : State) : Prop := s.persist.unwritten.length ≤ Config.persistCapacity

/-- Every queue keeps within its capacity. -/
def queuesFit (s : State) : Prop := answersFit s ∧ ordersFit s ∧ sendQueueFits s ∧ persistFits s

/-- The stored log is in its one form: places strictly rising, none as the factory left it. -/
def storeForm (s : State) : Prop := logForm s.store.log = true

/-! ## Holds and jobs (R150) -/

/-- The range of a port's GRANTED hold. -/
def grantedRange (s : State) (p : Port) : Option HoldRequest :=
  match (s.ctl p).hold with
  | .granted r _ => some r
  | .pending _ => none
  | .none => none

/-- A job may wrap for a lane (R51): a lane job for a PAY outside TEST or for a REVERSE, a reversal job, or a repeat job; one
that holds no base key wraps nothing (R76, R77). -/
def mayWrapFor (j : Job) (l : LaneId) : Prop :=
  (∃ f link base, j = .lane l f link (.pay base) ∨ j = .lane l f link (.reverse base)) ∨
    ∃ i base, j = .reversal i l (some base) ∨ j = .repetition i l (some base)

/-- Two GRANTED ranges do not overlap, and the job in flight uses no slot of a GRANTED range (R150). -/
def holdsExclude (s : State) : Prop :=
  (∀ a b, grantedRange s .s = some a → grantedRange s .c = some b → a.overlaps b = false) ∧
    ∀ p r, grantedRange s p = some r → s.jobUses r = false

end Sys2Proof.Safety
end

