-- ==== Sys2Proof/Certificates/Slice0/Obligations.lean ====
section
/-! DEFINITION. The statements about the model, for the provers. A statement that says what a command does names the
state it answers, or what that state holds; R<n> is the rule of the manual it follows, log <n> a choice of the
model's. -/

open Sys2Proof Sys2Proof.Machine Sys2Proof.Safety

/-! ## The machine -/

/-- A step takes the command at the front of the queue and runs it on the state with the queue's rest. -/
def Obligations.StepRunsFront : Prop :=
  ∀ (c : Instr) (s : State), step { s with pending := c :: s.pending } = exec c s

/-- A step on an empty queue passes one millisecond (the model's choice, log 5) and writes nothing but the clock and the
ports. At each port whose holding back is over by then, that is free and has a frame waiting, it takes the next
frame, in turn from the two holders of the C-port (R106); every other port stays as it was. -/
def Obligations.IdleStepPassesTime : Prop :=
  ∀ s u : State, s.pending = [] → u = { s with clock := s.clock + 1 } →
    ∃ t, step s = .next t ∧ t = { u with ports := t.ports } ∧
      ∀ p, (∀ h, freePort u p → holdersTurn u p h →
          t.port p = { s.port p with transmitting := some h, lastTaken := h }) ∧
        ((¬ freePort u p ∨ ∀ h, ¬ holdersTurn u p h) → t.port p = s.port p)

/-- Every command answers a next state in every state, and leaves the queue of commands as it was. That no command
faults or is refused is the model's reading (log 46); the queue is the model's own (log 39). -/
def Obligations.ExecAnswersNextKeepingQueue : Prop :=
  ∀ (c : Instr) (s : State), ∃ t, exec c s = .next t ∧ t.pending = s.pending

/-- What reset leaves: a factory part (2.1.2, R39, R118, R138, R56, 11.1) with every lane UNUSED and empty, every queue
within its capacity, no hold, no exchange, no log entry and no job. That a reset is a factory part just powered is
the model's choice (log 4). -/
def Obligations.ResetIsAFactoryPart : Prop :=
  State.reset.phase = .starting ∧
    (∀ l, State.reset.lane l = ⟨⟨.unused, none, none, none, false, none, none, none, 0, 1⟩, 1, none, none, 0, none, [],
      false, ⟨0, 0, 0, 0, 0, Vector.replicate 13 0⟩, none⟩) ∧
    (∀ n : SlotId, 2 ≤ n.val → State.reset.slot n = ⟨.empty, none, 0, none, none, []⟩) ∧
    (∀ p, State.reset.slot (controlSlot p) = ⟨.active, some .control, 0,
      some (Config.checkValue (Config.factoryControlKey p)), some (Config.factoryControlKey p), []⟩) ∧
    (∀ c : CardClass, State.reset.standIn[c] = ⟨false, 0, 0, 0, 30⟩) ∧
    (∀ p, State.reset.settings.station p = Config.factoryStation p) ∧
    State.reset.settings.bridging = true ∧ State.reset.settings.warnMargin = 65536 ∧
    State.reset.settings.reversalTimeout = 20 ∧ State.reset.settings.probeInterval = 5 ∧
    State.reset.settings.missLimit = 3 ∧ State.reset.settings.reassemblyLimit = 2 ∧
    State.reset.settings.scrubInterval = 20 ∧ State.reset.settings.holdLimit = 60 ∧
    State.reset.settings.idleLimit = 120 ∧
    (∀ k : EventNumber, State.reset.settings.notices[k] = ⟨decide (k ≠ 7),
      if k ∈ [4, 7, 9] then .shop else if k ∈ [2, 11] then .chain else .both⟩) ∧
    (∀ p, (State.reset.ctl p).hold = .none ∧ (State.reset.ctl p).changeSet.entries = []) ∧
    (∀ i, State.reset.exchange i = none) ∧ State.reset.log = [] ∧ State.reset.engine.job = none ∧
    queuesFit State.reset ∧ storeForm State.reset ∧ holdsExclude State.reset

/-! ## Invariants that every step keeps -/

/-- Every step keeps every queue within its capacity: 256 frames in a transmit order (R4, R106), 64 envelopes and
reserved places in the Send Queue (R59, R107), 16 envelopes in the Answer Queue (R111), 4,096 writes in the Persist
Queue (R179). -/
def Obligations.StepKeepsQueuesFit : Prop :=
  ∀ s t : State, queuesFit s → step s = .next t → queuesFit t

/-- Every step keeps GRANTED holds apart from each other and from the job in flight (R150). -/
def Obligations.StepKeepsHoldsExclusive : Prop :=
  ∀ s t : State, holdsExclude s → step s = .next t → holdsExclude t

/-- Every step keeps the stored log in its one form, so that equal stores are equal data. -/
def Obligations.StepKeepsStoreForm : Prop :=
  ∀ s t : State, storeForm s → step s = .next t → storeForm t

/-! ## Starts (12.3) -/

/-- POWER_APPLIED, RESET_LINE and RESTART_REPLY_LEFT (R182). Every start discards everything in flight, the waiting writes
of the Persist Queue among it. A cold start sets every counter to 0, clears the fault map, the suppress list, the
capture, the notice addresses and the latches; a warm start, of a part that serves, keeps them. What stands in the
latches beyond that occurred in the start itself and is in its start count (R175). RESTART_REPLY_LEFT begins a start
when the reply to an accepted RESTART has left its port (R170) and at no other time (log 6, log 37). A start that
interrupts a cold one before the part serves is cold. -/
def Obligations.StartsClearOrKeep : Prop :=
  ∀ (decays : List Decay) (s : State),
    (∃ t, exec (.powerApplied decays) s = .next t ∧ inFlightGone s t ∧
      t.startKind = .cold ∧ (∀ p, (t.port p).counters = zeroPortCounters ∧ (t.ctl p).noticeAddress = none) ∧
      t.device = zeroDeviceCounters ∧ (∀ l, (t.lane l).counters = zeroLaneCounters) ∧
      t.scrub.map = Vector.replicate 145 clearFaultEntry ∧ t.scrub.suppress = [] ∧ t.scrub.capture = none ∧
      t.scrub.missed = 0 ∧ (∀ k : EventNumber, k ∉ startKinds → t.events[k] = clearLatch) ∧
      ∀ k : EventNumber, t.events[k].count ≤ t.startCount ∧ (t.events[k].latched = true ↔ 0 < t.events[k].count)) ∧
    (∀ c, s.phase = .serving →
      (c = .resetLine decays ∨ (c = .restartReplyLeft decays ∧ ∃ p, (s.ctl p).restart = .left)) →
      ∃ t, exec c s = .next t ∧ inFlightGone s t ∧ t.startKind = .warm ∧
      (∀ p, (t.port p).counters = (s.port p).counters ∧ (t.ctl p).noticeAddress = (s.ctl p).noticeAddress) ∧
      t.device = s.device ∧ (∀ l, (t.lane l).counters = (s.lane l).counters) ∧
      t.scrub = { s.scrub with walk := 0 } ∧ (∀ k : EventNumber, k ∉ startKinds → t.events[k] = s.events[k]) ∧
      ∀ k : EventNumber, (t.events[k] = s.events[k] ∨ t.events[k].latched = true) ∧
        min 255 s.events[k].count ≤ t.events[k].count ∧ t.events[k].count ≤ s.events[k].count + t.startCount) ∧
    (s.phase = .starting → s.startKind = .cold → exec (.resetLine decays) s = exec (.powerApplied decays) s) ∧
    ((∀ p, (s.ctl p).restart ≠ .left) → exec (.restartReplyLeft decays) s = .next s)

/-- The restore of a start (R37, R46, R134, R183, R184): every table comes from the Persistent Store, a bad record as its
chapter gives. A lane whose record and slots are good keeps its stored state, but that a READY one whose counter has
passed the payment limit is EXHAUSTED; one whose link or base slot comes back FAULTED is FAULTED (which cause where
both are: log 34). The log holds one entry for every place whose record is good, QUEUED and written, in the order of
reservation (the number that keeps it: log 18; the mark of a first sending: log 19). The store's contents stand as they
were, and the epoch rises by one. -/
def Obligations.StartRestores : Prop :=
  ∀ (c : Instr) (decays : List Decay) (s : State) (d : PersistentStore),
    d = decays.foldl PersistentStore.decay s.store →
    (c = .powerApplied decays ∨ c = .resetLine decays ∨
      (c = .restartReplyLeft decays ∧ ∃ p, (s.ctl p).restart = .left)) →
    ∃ t, exec c s = .next t ∧ presentKept d t.store ∧
      t.settings = (d.settings.read).getD factorySettings ∧
      (∀ k : CardClass, t.standIn[k] = (d.standIn[k].read).getD ⟨false, 0, 0, 0, 30⟩) ∧
      (∀ n : SlotId, t.slot n = (d.slots[n].read).getD ⟨.faulted, none, 65535, none, none, []⟩) ∧
      (∀ (l : LaneId) (r : LaneConfig), d.lanes[l].read = some r →
        (t.lane l).config = { r with
          state := (t.lane l).config.state
          ceiling := restoredCeiling r d.ceilings[l] } ∧
        ((r.state = .unused ∨ ∃ x, r.state = .faulted x) → (t.lane l).config.state = r.state) ∧
        (r.state ≠ .unused → (∀ x, r.state ≠ .faulted x) →
          ((∀ n, (r.link = some n ∨ r.base = some n) → (t.slot n).state ≠ .faulted) →
            (t.lane l).config.state =
              if r.state = .ready ∧ 4194047 < restoredCeiling r d.ceilings[l] then .exhausted else r.state) ∧
          (∀ n, r.link = some n → (t.slot n).state = .faulted →
            (∀ m, r.base = some m → (t.slot m).state = .faulted → m = n) →
            (t.lane l).config.state = .faulted .linkKey) ∧
          (∀ m, r.base = some m → (t.slot m).state = .faulted →
            (∀ n, r.link = some n → (t.slot n).state ≠ .faulted) → (t.lane l).config.state = .faulted .baseKey) ∧
          (∀ n m, r.link = some n → r.base = some m → (t.slot n).state = .faulted → (t.slot m).state = .faulted →
            (t.lane l).config.state = .faulted .linkKey ∨ (t.lane l).config.state = .faulted .baseKey))) ∧
      (∀ l : LaneId, d.lanes[l].read = none →
        (t.lane l).config.state = .faulted .record ∧ (t.lane l).config.till = none ∧
        (t.lane l).config.identity = none ∧ (t.lane l).config.station = none ∧ (t.lane l).config.link = none ∧
        (t.lane l).config.base = none ∧ (t.lane l).config.baseGen = none) ∧
      (∀ p e, (logGet d.log p).read = some (some e) → { e with
        state := .queued, written := true, sentBefore := e.sentBefore || decide (e.state = .sent) } ∈ t.log) ∧
      (storeForm s →
        (∀ x ∈ t.log, ∃ p e, (logGet d.log p).read = some (some e) ∧ x = { e with
          state := .queued, written := true, sentBefore := e.sentBefore || decide (e.state = .sent) }) ∧
        t.log.length = (List.finRange 1024).countP (fun p => (logGet d.log p).read.join.isSome) ∧
        t.log.Pairwise (fun x y => x.serial ≤ y.serial)) ∧
      ((∃ p, (logGet d.log p).read = none) → t.events[13].latched = true) ∧
      t.epoch = ((d.epoch.read).getD 0 + 1) % 1024

/-- ENTER_SERVING (R185): when the epoch write is reported, completed or failed, the part serves. RESTART is the
first frame handed to the S-port, RESTARTED is latched, the monitor's probe timer starts and a first probe is placed
when the C-port has carrier, and the scrubber is timed from this moment. -/
def Obligations.EpochReportEntersServing : Prop :=
  ∀ (result : WriteResult) (s : State) (n : Nat), s.phase = .starting → s.persist.current = some (.epoch n) →
    ∃ t, exec (.enterServing result) s = .next t ∧ t.phase = .serving ∧ t.servingSince = s.clock ∧
      t.scrub = { s.scrub with nextStep := s.clock + s.settings.scrubInterval } ∧ tablesKept s t ∧ workKept s t ∧
      t.answerQueue = s.answerQueue ∧ t.control = s.control ∧ t.events[17].latched = true ∧
      (result = .completed → t.store.epoch.present = some n) ∧
      ((s.port .s).carrier = true → (s.port .s).order = [] →
        (t.port .s).order.head? =
          some (.till (makeTill Config.broadcast s.settings.sStation 0 0 .restart none))) ∧
      ((s.port .c).carrier = true → t.monitor.timer = some (s.after s.settings.probeInterval)) ∧
      ((s.port .c).carrier = true → s.sendPlaceFree = true →
        t.sendQueue = s.sendQueue ++ [s.probe t.monitor.lastProbe]) ∧
      ((s.port .c).carrier = false → t.monitor = s.monitor ∧ t.sendQueue = s.sendQueue)

/-! ## Frames handed over (chapters 1 and 6) -/

/-- Every frame handed over in STARTING is counted in frames-in, dropped, and counted as dropped; nothing else
changes (R1). -/
def Obligations.StartingDropsFrames : Prop :=
  ∀ (c : Instr) (p : Port) (f : EthFrame) (s : State), frameOf c = some (p, f) → s.phase = .starting →
    s.macTakes p f = true →
    exec c s = .next { countedIn s p with
      device := { s.device with droppedStarting := satInc Config.count32Max s.device.droppedStarting } }

/-- FRAME_RECEIVED (R2, R3, R186): a misplaced frame is counted malformed; a frame of class other is bridged to the
opposite port, unchanged, while the bridging flag is set, and counted malformed otherwise. One longer than the C-port
sends is counted bridged and does not join a port order that has room (log 35). -/
def Obligations.SorterBridgesOthers : Prop :=
  ∀ (p : Port) (f : EthFrame) (s : State), taken s p f →
    ((p = .s ∧ f.etype = Config.chainType ∨ p = .c ∧ f.etype = Config.laneType) →
      exec (.frameReceived p f) s = .next ((countedIn s p).countMalformed p)) ∧
    (f.etype ≠ Config.laneType → f.etype ≠ Config.chainType → f.etype ≠ Config.controlType →
      f.dst = s.settings.station p → exec (.frameReceived p f) s = .next ((countedIn s p).countMalformed p)) ∧
    (f.etype ≠ Config.laneType → f.etype ≠ Config.chainType → f.dst ≠ s.settings.station p →
      (s.settings.bridging = false → exec (.frameReceived p f) s = .next ((countedIn s p).countMalformed p)) ∧
      (s.settings.bridging = true → ∀ u, u = (countedIn s p).countPort p (fun c => { c with
          bridged := satInc Config.count32Max c.bridged }) →
        ((p = .s → 14 + f.payload.length + 4 ≤ 1518 ∨ (s.port .c).carrier = false ∨ 256 ≤ (s.port .c).order.length) →
          exec (.frameReceived p f) s = .next (u.handFrame p.opposite (.bridged f))) ∧
        (p = .s → 1518 < 14 + f.payload.length + 4 → (s.port .c).carrier = true → (s.port .c).order.length < 256 →
          exec (.frameReceived p f) s = .next u)))

/-- PAUSE_FRAME (R1, R106): the MAC takes the request itself. It is not counted in frames-in, and while it lasts the
port begins no frame. How long it lasts, and how a MAC control frame is told, are the model's (log 12). A MAC control
frame handed over as a frame is taken by the MAC alone, whatever row hands it over: a pause request among them has
that effect, any other has none. -/
def Obligations.PauseHoldsBack : Prop :=
  ∀ (p : Port) (quanta : BitVec 16) (s : State),
    ((s.port p).carrier = true → ∃ t, exec (.pauseFrame p quanta) s = .next t ∧
      (t.port p).pausedUntil = s.clock + pauseTime quanta ∧ (t.port p).counters = (s.port p).counters ∧
      (t.port p).order = (s.port p).order ∧ t.port p.opposite = s.port p.opposite ∧
      (0 < quanta.toNat → (t.port p).transmitting = (s.port p).transmitting ∧ s.clock < (t.port p).pausedUntil) ∧
      tablesKept s t ∧ workKept s t ∧ chainKept s t ∧ storeKept s t ∧ historyKept s t ∧ t.control = s.control) ∧
    ((s.port p).carrier = false → exec (.pauseFrame p quanta) s = .next s) ∧
    (∀ c f, frameOf c = some (p, f) → f.etype = 0x8808 → 14 + f.payload.length + 4 ≤ Config.frameMax p →
      (f.payload.take 4 = beBytes 2 1 ++ beBytes 2 quanta.toNat → exec c s = exec (.pauseFrame p quanta) s) ∧
      (f.payload.take 2 ≠ beBytes 2 1 → exec c s = .next s))

/-- PAY, REVERSE, ENROL and ASK_STATE (R18, R19, R21, R22): a lane frame resolved to a lane passes the checks in
their order, and is refused by the first that fails or placed in the mailbox. -/
def Obligations.LaneFrameAtTheDoor : Prop :=
  ∀ (k : LaneKind) (f : EthFrame) (g : LaneFrame) (l : LaneId) (s : State) (refused : TillReason → State),
    taken s .s f → f.etype = Config.laneType → readLaneFrame f = .good g → s.resolve g.till = some l →
    (∀ reason, refused reason = ((countedIn s .s).replyInHand l g (.refused reason)
      ((countedIn s .s).handKey l)).countRefusal l reason) →
    ((∃ c, (s.lane l).config.state = .faulted c) → exec (laneRow k f) s = .next (refused .faulted)) ∧
    ((∀ c, (s.lane l).config.state ≠ .faulted c) →
      (¬ stationAgrees (s.lane l).config g → exec (laneRow k f) s = .next (refused .identity)) ∧
      (stationAgrees (s.lane l).config g →
        ((s.lane l).config.state = .exhausted → g.kind = .pay →
          exec (laneRow k f) s = .next (refused .exhausted)) ∧
        (∀ c, (s.lane l).config.state = .suspended c → g.kind ≠ .askState →
          exec (laneRow k f) s = .next (refused .suspended)) ∧
        (stateTakes (s.lane l).config.state g.kind →
          ((s.lane l).mailbox ≠ none → exec (laneRow k f) s = .next (refused .laneBusy)) ∧
          ((s.lane l).mailbox = none → g.kind = .pay → (s.lane l).openPayment ≠ none →
            exec (laneRow k f) s = .next (refused .laneBusy)) ∧
          ((s.lane l).mailbox = none → (g.kind = .pay → (s.lane l).openPayment = none) →
            ((s.lane l).lastAccepted = some g.xchg → exec (laneRow k f) s = .next (refused .duplicate)) ∧
            ((s.lane l).lastAccepted ≠ some g.xchg →
              exec (laneRow k f) s =
                .next ((countedIn s .s).modLane l (fun r => { r with mailbox := some g })))))))

/-- MALFORMED_LANE_FRAME, MALFORMED_ENVELOPE and the lane frames that resolve to no lane (R6, R7, R10, R104): dropped or
refused untagged with the numbers the frame gave, and counted malformed where the outer checks fail. -/
def Obligations.UnresolvedFrames : Prop :=
  ∀ (c : Instr) (f : EthFrame) (s : State),
    (frameOf c = some (.s, f) → taken s .s f → f.etype = Config.laneType →
      (readLaneFrame f = .tooShort → exec c s = .next ((countedIn s .s).countMalformed .s)) ∧
      (∀ till xchg, readLaneFrame f = .malformed till xchg →
        exec c s = .next (((countedIn s .s).handTill f.src till xchg (.refused .malformed) none).countMalformed .s)) ∧
      (∀ g, readLaneFrame f = .good g → s.resolve g.till = none →
        exec c s = .next ((countedIn s .s).handTill g.src g.till g.xchg (.refused .noLane) none))) ∧
    (frameOf c = some (.c, f) → taken s .c f → f.etype = Config.chainType → readEnvelope f = none →
      exec c s = .next ((countedIn s .c).countMalformed .c))

/-- ANSWER_ENVELOPE and REVERSAL_ACK of one segment (R105, R111): the envelope joins the Answer Queue as the newest, or
is dropped at a full queue and counted. -/
def Obligations.WholeAnswerOffered : Prop :=
  ∀ (c : Instr) (f : EthFrame) (r : SegmentRead) (s : State), (c = .answerEnvelope f ∨ c = .reversalAck f) →
    taken s .c f → f.etype = Config.chainType → readEnvelope f = some r → r.count = 1 → r.env.kind ≠ .probeEcho →
    (s.answerQueue.length < 16 → exec c s = .next { countedIn s .c with answerQueue := s.answerQueue ++ [r.env] }) ∧
    (16 ≤ s.answerQueue.length → exec c s = .next { countedIn s .c with
      device := { s.device with overflows := satInc Config.count32Max s.device.overflows } })

/-- ANSWER_ENVELOPE and REVERSAL_ACK of two segments, and REASSEMBLY_LIMIT (R109, R110): a first segment is held,
replaces the one held for its sequence and kind, or is dropped; a second is joined with a first that agrees in every
other field, or dropped; a held one is dropped at its limit. That the lowest free buffer takes a segment is the
model's choice (log 44), and so is that a limit commanded for a free buffer or before its time changes nothing
(log 6). -/
def Obligations.SegmentsReassembled : Prop :=
  (∀ (c : Instr) (f : EthFrame) (r : SegmentRead) (s : State), (c = .answerEnvelope f ∨ c = .reversalAck f) →
    taken s .c f → f.etype = Config.chainType → readEnvelope f = some r → r.count = 2 →
    (r.index = 1 →
      (∀ b h, s.matchingBuffer r.env = some (b, h) → exec c s = .next (((countedIn s .c).setBuffer b
        (some ⟨r.env, r.bodyLength, s.after s.settings.reassemblyLimit⟩)).countDrops 1)) ∧
      (∀ b, s.matchingBuffer r.env = none → s.freeBuffer = some b → exec c s = .next ((countedIn s .c).setBuffer b
        (some ⟨r.env, r.bodyLength, s.after s.settings.reassemblyLimit⟩))) ∧
      (s.matchingBuffer r.env = none → s.freeBuffer = none → exec c s = .next ((countedIn s .c).countDrops 1))) ∧
    (r.index = 2 →
      (s.matchingBuffer r.env = none → exec c s = .next ((countedIn s .c).countDrops 1)) ∧
      (∀ b h, s.matchingBuffer r.env = some (b, h) →
        (h.agrees r = true → exec c s = .next (((countedIn s .c).setBuffer b none).offerAnswer
          { h.env with body := h.env.body ++ r.env.body })) ∧
        (h.agrees r = false → exec c s = .next (((countedIn s .c).setBuffer b none).countDrops 2))))) ∧
  (∀ (b : BufferId) (s : State),
    (∀ h, s.reassembly[b] = some h → s.phase = .serving → h.limit ≤ s.clock →
      exec (.reassemblyLimit b) s = .next ((s.setBuffer b none).countDrops 1)) ∧
    (s.reassembly[b] = none → exec (.reassemblyLimit b) s = .next s) ∧
    (∀ h, s.reassembly[b] = some h → s.clock < h.limit → exec (.reassemblyLimit b) s = .next s))

/-- PROBE_ECHO (R112 to R115): a valid echo brings the monitor UP, sets the missed count to 0, records the echo number
and restarts the timer; from DOWN it is broadcast and CHAIN-UP raised, in that order (the model's choice, log 22). Any
other echo is counted UNMATCHED and changes nothing else. -/
def Obligations.ProbeEchoTaken : Prop :=
  ∀ (f : EthFrame) (r : SegmentRead) (s : State), taken s .c f → f.etype = Config.chainType →
    readEnvelope f = some r → r.count = 1 → r.env.kind = .probeEcho →
    ((r.env.tag = Config.tag (s.controlKey .c) .probeIn r.env.covered ∧ r.env.seq.toNat / 4194304 = s.epoch ∧
        s.monitor.lastEcho.toNat % 4194304 < r.env.seq.toNat % 4194304 ∧
        r.env.seq.toNat % 4194304 ≤ s.monitor.lastProbe.toNat % 4194304) →
      (s.monitor.state ≠ .down → exec (.probeEcho f) s = .next { countedIn s .c with
        monitor := ⟨.up, 0, some (s.after s.settings.probeInterval), s.monitor.lastProbe, r.env.seq⟩ }) ∧
      (s.monitor.state = .down → exec (.probeEcho f) s = .next
        ((({ countedIn s .c with
            monitor := ⟨.up, 0, s.monitor.timer, s.monitor.lastProbe, r.env.seq⟩ }.broadcastTills
          (.chainState .up)).raise (.chainUp .probeEcho)).restartProbeTimer))) ∧
    (¬ (r.env.tag = Config.tag (s.controlKey .c) .probeIn r.env.covered ∧ r.env.seq.toNat / 4194304 = s.epoch ∧
        s.monitor.lastEcho.toNat % 4194304 < r.env.seq.toNat % 4194304 ∧
        r.env.seq.toNat % 4194304 ≤ s.monitor.lastProbe.toNat % 4194304) →
      exec (.probeEcho f) s = .next ((countedIn s .c).countUnmatched))

/-- Reading undoes forming (R186, 13.1.1, 13.2, 13.3.1): every lane frame of the four kinds, every inbound envelope in
its one or two segments, and every control frame reads back as the fields it was formed from. -/
def Obligations.FramesReadBack : Prop :=
  (∀ (dst src : Mac) (kind : LaneKind) (till xchg : Nat) (target : Option Nat) (body : Bytes) (tag : Tag),
    0 < till → till < 65536 → 0 < xchg → xchg < 65536 → body.length ≤ 2048 →
    (kind = .reverse → ∃ n, target = some n ∧ 0 < n ∧ n < 65536) → (kind ≠ .reverse → target = none) →
    readLaneFrame ⟨dst, src, Config.laneType, laneBytes kind till xchg target body tag⟩ =
      .good ⟨src, kind, till, xchg, target, body, tag⟩) ∧
  (∀ (dst src : Mac) (e : Envelope), (e.kind = .answer ∨ e.kind = .reversalAck ∨ e.kind = .probeEcho) →
    e.counter < 4294967296 →
    (e.body.length ≤ 1216 → readEnvelope ⟨dst, src, Config.chainType, e.segment 1 1 e.body⟩ =
      some ⟨e, 1, 1, e.body.length⟩) ∧
    (e.kind ≠ .probeEcho → 1216 < e.body.length → e.body.length ≤ 2048 →
      readEnvelope ⟨dst, src, Config.chainType, e.segment 1 2 (e.body.take 1216)⟩ =
        some ⟨{ e with body := e.body.take 1216 }, 1, 2, e.body.length⟩ ∧
      readEnvelope ⟨dst, src, Config.chainType, e.segment 2 2 (e.body.drop 1216)⟩ =
        some ⟨{ e with body := e.body.drop 1216 }, 2, 2, e.body.length⟩)) ∧
  (∀ (dst src : Mac) (cls request : Byte) (number : ControlNumber) (args : Bytes) (tag : Tag),
    args.length < 65536 →
    readControl ⟨dst, src, Config.controlType, controlFields cls number request args ++ beBytes 8 tag.toNat⟩ =
      some ⟨src, cls.toNat, number, request, some args,
        controlTagInput src (controlFields cls number request args), tag⟩)

/-! ## Handing frames, and events -/

/-- A frame handed to a port (R4, R106) is discarded and counted without carrier or at a full order, and otherwise the
last of the order; the other port is untouched. An event that occurs (R173 to R175) is latched and its count rises,
up to 255, and no other kind changes. In STARTING it is added to the start count and no notice is sent; in SERVING a
notice goes to each port of the kind's destination while its notice enable is set. -/
def Obligations.FramesHandedAndEventsRaised : Prop :=
  (∀ (p : Port) (f : OutFrame) (s : State),
    (s.handFrame p f).port p.opposite = s.port p.opposite ∧
    ((s.port p).carrier = false → (s.handFrame p f).port p = { s.port p with
      counters := { (s.port p).counters with
        noCarrier := satInc Config.count32Max (s.port p).counters.noCarrier } }) ∧
    ((s.port p).carrier = true → 256 ≤ (s.port p).order.length → (s.handFrame p f).port p = { s.port p with
      counters := { (s.port p).counters with
        fullOrder := satInc Config.count32Max (s.port p).counters.fullOrder } }) ∧
    ((s.port p).carrier = true → (s.port p).order.length < 256 →
      ((s.handFrame p f).port p).order = (s.port p).order ++ [f] ∧
      ((s.handFrame p f).port p).counters = (s.port p).counters) ∧
    tablesKept s (s.handFrame p f) ∧ workKept s (s.handFrame p f) ∧ chainKept s (s.handFrame p f) ∧
    storeKept s (s.handFrame p f) ∧ historyKept s (s.handFrame p f) ∧ clocksKept s (s.handFrame p f)) ∧
  (∀ (d : EventDetails) (s : State),
    (s.raise d).events = s.events.set d.kind.number ⟨true, satInc 255 s.events[d.kind.number].count⟩ ∧
    tablesKept s (s.raise d) ∧ workKept s (s.raise d) ∧ chainKept s (s.raise d) ∧ storeKept s (s.raise d) ∧
    clocksKept s (s.raise d) ∧ (s.raise d).scrub = s.scrub ∧ (s.raise d).device = s.device ∧
    (s.phase = .starting → (s.raise d).ports = s.ports ∧ (s.raise d).startCount = s.startCount + 1) ∧
    (s.phase = .serving → (s.raise d).startCount = s.startCount) ∧
    (s.phase = .serving → s.settings.notices[d.kind.number].enabled = false → (s.raise d).ports = s.ports) ∧
    (s.phase = .serving → s.settings.notices[d.kind.number].enabled = true → ∀ p,
      ((p ∉ destinationPorts s.settings.notices[d.kind.number].destination → (s.raise d).port p = s.port p) ∧
       (p ∈ destinationPorts s.settings.notices[d.kind.number].destination → (s.port p).carrier = true →
        (s.port p).order.length < 256 → ((s.raise d).port p).order = (s.port p).order ++
          [s.notice p d (satInc 255 s.events[d.kind.number].count)]))))

/-! ## Control frames (chapters 8 and 10) -/

/-- Every control row (R162, R163). Before acceptance a frame too short is dropped and counted malformed; one whose tag
fails is refused TAG and counted; one whose number is not above the last accepted is refused STALE. Both refusals carry
the data that 13.3.2 gives a refused COMMIT or HOLD with every field absent (the model's reading, log 40), and none for
another request. None of them changes anything else. An accepted frame's number becomes the port's last accepted number
and its source the port's notice address (R174), and the idle timer restarts while the port's set is OPEN (R140),
whatever the request; the other port's number, notice address and set stand as they were. -/
def Obligations.ControlFramesRefused : Prop :=
  (∀ (c : Instr) (p : Port) (f : EthFrame) (s : State), controlOf c = some (p, f) → taken s p f →
    f.etype = Config.controlType → f.dst = s.settings.station p →
    (readControl f = none → exec c s = .next ((countedIn s p).countMalformed p)) ∧
    (∀ g, readControl f = some g → g.tag ≠ Config.tag (s.controlKey p) .request g.covered →
      exec c s = .next (((countedIn s p).answer p g (s.controlKey p) ⟨.refused .tag, absentData g.request⟩ false).countPort p
        (fun x => { x with tagFailures := satInc Config.count32Max x.tagFailures }))) ∧
    (∀ g, readControl f = some g → g.tag = Config.tag (s.controlKey p) .request g.covered →
      g.number.toNat ≤ (s.ctl p).lastNumber →
      exec c s = .next ((countedIn s p).answer p g (s.controlKey p) ⟨.refused .stale, absentData g.request⟩ false))) ∧
  (∀ (c : Instr) (p : Port) (f : EthFrame) (g : ControlFrame) (s : State), controlOf c = some (p, f) →
    accepted s p f g →
    heard s p g = { countedIn s p with control := (heard s p g).control } ∧
    (heard s p g).ctl p.opposite = s.ctl p.opposite ∧
    (heard s p g).ctl p = { s.ctl p with
      lastNumber := g.number.toNat
      noticeAddress := some g.src
      changeSet := { (s.ctl p).changeSet with
        idle := if (s.ctl p).changeSet.entries = [] then (s.ctl p).changeSet.idle
          else some (s.clock + 1000 * s.settings.idleLimit) } } ∧
    ∃ t, exec c s = .next t ∧ (t.ctl p).lastNumber = g.number.toNat ∧ (t.ctl p).noticeAddress = some g.src ∧
      ((t.ctl p).changeSet.entries ≠ [] →
        (t.ctl p).changeSet.idle = some (s.clock + 1000 * s.settings.idleLimit)) ∧
      (t.ctl p.opposite).lastNumber = (s.ctl p.opposite).lastNumber ∧
      (t.ctl p.opposite).noticeAddress = (s.ctl p.opposite).noticeAddress ∧
      (t.ctl p.opposite).changeSet = (s.ctl p.opposite).changeSet)

/-- The nine ASK rows (R39, R101, R135, R160, R165 to R167, R173, R177): a snapshot of the items asked for is replied
DONE, with the table's totals: of the items from the first on, cut at the table's end, as many as the reply holds
(which is the model's reading, log 30), each with the fields its table gives. A count outside 1..64, or a first item
beyond a table of fixed size, is refused MALFORMED. The clear flag clears the counters, latches and fault map entries
that are returned and keeps the others; ASK of FAULTS also empties the capture and its missed count; a table that has
nothing to clear is left as it was. -/
def Obligations.AskReturnsAndClears : Prop :=
  (∀ (table rowTable : AskTable) (p : Port) (f : EthFrame) (g : ControlFrame) (first count : Nat) (clear : Bool)
    (s : State), accepted s p f g → g.read = some (.ask table first count clear) →
    (1 ≤ count → count ≤ 64 → (table = .log ∨ first < s.tableLength table) →
      exec (askRow rowTable p f) s = .next ((if clear then (heard s p g).askClear table first
          ((heard s p g).askItems table first count).length else heard s p g).answer p g (s.controlKey p)
        ⟨.done, .ask ((heard s p g).askItems table first count) ((heard s p g).askTotals table)⟩ false)) ∧
    (count = 0 ∨ 64 < count ∨ (table ≠ .log ∧ s.tableLength table ≤ first) →
      exec (askRow rowTable p f) s = .next ((heard s p g).answer p g (s.controlKey p) ⟨.refused .malformed, .none⟩
        false)) ∧
    (table ≠ .counters → table ≠ .events → table ≠ .faults → ∀ n, s.askClear table first n = s)) ∧
  (∀ (first n : Nat) (s : State),
    (∀ p, ((s.askClear .counters first n).port p).counters =
      if first ≤ (match p with | .s => 0 | .c => 1) ∧ (match p with | .s => 0 | .c => 1) < first + n then
        zeroPortCounters else (s.port p).counters) ∧
    ((s.askClear .counters first n).device =
      if first ≤ 2 ∧ 2 < first + n then zeroDeviceCounters else s.device) ∧
    (∀ l : LaneId, (s.askClear .counters first n).lane l =
      if first ≤ l.val + 3 ∧ l.val + 3 < first + n then { s.lane l with counters := zeroLaneCounters } else s.lane l) ∧
    (∀ k : EventNumber, (s.askClear .events first n).events[k] =
      if first ≤ k.val ∧ k.val < first + n then clearLatch else s.events[k]) ∧
    (∀ q : Position, (s.askClear .faults first n).scrub.map[q] =
      if first ≤ q.val ∧ q.val < first + n then clearFaultEntry else s.scrub.map[q]) ∧
    (s.askClear .faults first n).scrub.capture = none ∧ (s.askClear .faults first n).scrub.missed = 0 ∧
    (s.askClear .faults first n).scrub.suppress = s.scrub.suppress ∧
    (s.askClear .faults first n).scrub.walk = s.scrub.walk ∧ (s.askClear .faults first n).device = s.device) ∧
  (∀ (table : AskTable) (first count : Nat) (s : State) (size : List AskItem → Nat),
    (∀ items, size items = (items.map (fun x => x.lengthed.length)).sum) →
    ∃ rest, ((List.range' first (min count (s.tableLength table - first))).map (s.askItem table)) =
        (s.askItems table first count ++ rest).map some ∧
      size (s.askItems table first count) ≤ 1477 - (s.askTotals table).bytes.length ∧
      ∀ x more, rest = x :: more →
        1477 - (s.askTotals table).bytes.length < size (s.askItems table first count) + x.lengthed.length) ∧
  (∀ s : State,
    (∀ l : LaneId, s.askItem .lane l.val = some (.lane ⟨(s.lane l).config, (s.lane l).counter, (s.lane l).openPayment,
      (s.lane l).tagFailures, (s.lane l).lastAccepted, (s.lane l).recent, s.log.countP (fun e => e.lane = l),
      s.jobInFlight l, (s.lane l).advancePending, (s.lane l).mailbox.map (fun f => (f.kind, f.xchg))⟩)) ∧
    (∀ n : SlotId, s.askItem .slot n.val = some (.slot ⟨(s.slot n).state, (s.slot n).usage, (s.slot n).generation,
      (s.slot n).check, s.lanes.toList.countP (fun r => decide (r.config.state ≠ .unused) &&
        (decide (r.config.link = some n) || decide (r.config.base = some n))), (s.slot n).bound.length⟩)) ∧
    (∀ i : EntryId, s.askItem .exchange i.val =
      some (.exchange ((s.exchange i).map (fun e => (e, e.deadline - s.clock))))) ∧
    (∀ k e, s.log[k]? = some e → s.askItem .log k = some (.log ⟨e.place, e.lane, e.kind, e.state, e.written, e.seq,
      e.orig, e.cause, e.counter, e.base, e.gen, e.cardClass, e.amount, e.xchg, e.repeatCount,
      e.message.messageLength⟩)) ∧
    (∀ c : CardClass, s.askItem .standIn c.val = some (.standIn s.standIn[c])) ∧
    s.askItem .settings 0 = some (.settings s.settings) ∧
    s.askItem .counters 0 = some (.portCounters (s.port .s).counters) ∧
    s.askItem .counters 1 = some (.portCounters (s.port .c).counters) ∧
    s.askItem .counters 2 = some (.deviceCounters s.device) ∧
    (∀ l : LaneId, s.askItem .counters (l.val + 3) = some (.laneCounters (s.lane l).counters)) ∧
    (∀ q : Position, s.askItem .faults q.val = some (.fault s.scrub.map[q])) ∧
    (∀ k : EventNumber, s.askItem .events k.val = some (.event s.events[k] s.settings.notices[k])) ∧
    s.askTotals .exchange = .exchange (s.exchanges.toList.countP Option.isNone) ∧
    s.askTotals .log = .log s.log.length (s.log.countP (fun e => e.kind = .payment))
      (s.log.countP (fun e => e.state = .sent)) (1024 - s.log.length) ∧
    s.askTotals .faults = .faults s.scrub.capture s.scrub.missed s.scrub.suppress s.scrub.walk)

/-- STAGE (R139, R140): a readable entry replaces the entry of its table and index in its place, or joins the end of
the set, and the idle timer restarts; at a full set it is refused FULL; an index or a record that cannot be read is
refused MALFORMED. An index 0..255 is used as given; NEXT, 65535, is one above the set's most recent index of the
table, 0 where it has none, and cannot be 256; an accepted STAGE makes its index the most recent one of its table. -/
def Obligations.StageJoinsTheSet : Prop :=
  (∀ (c : ChangeSet) (table : StageTable) (index : Nat),
    (index < 256 → c.resolve table index = some index) ∧
    (index = 65535 → c.last table = none → c.resolve table index = some 0) ∧
    (∀ k, index = 65535 → c.last table = some k → c.resolve table index = if k < 255 then some (k + 1) else none) ∧
    (256 ≤ index → index ≠ 65535 → c.resolve table index = none) ∧
    (c.setLast table index).last table = some index ∧
    (∀ u, u ≠ table → (c.setLast table index).last u = c.last u) ∧
    (c.setLast table index).entries = c.entries) ∧
  (∀ (p : Port) (f : EthFrame) (g : ControlFrame) (code index : Nat) (bytes : Bytes) (s : State),
    accepted s p f g → g.read = some (.stage code index bytes) →
    (∀ (k : Nat) (r : StagedRecord), readStageTable code = some r.table →
      (s.ctl p).changeSet.resolve r.table index = some k → readRecord (s.controlKey p) code bytes = some r →
      ((∃ e ∈ (s.ctl p).changeSet.entries, e.isFor r.table k = true) →
        exec (.stage p f) s = .next ((((heard s p g).setCtl p { (heard s p g).ctl p with
          changeSet := ChangeSet.setLast { ((heard s p g).ctl p).changeSet with
            entries := (s.ctl p).changeSet.entries.map (fun e => if e.isFor r.table k then ⟨k, r⟩ else e) }
            r.table k }).restartIdle p).answer p g (s.controlKey p)
          ⟨.done, .staged k (s.ctl p).changeSet.entries.length⟩ false)) ∧
      ((∀ e ∈ (s.ctl p).changeSet.entries, e.isFor r.table k = false) →
        ((s.ctl p).changeSet.entries.length < 32 →
          exec (.stage p f) s = .next ((((heard s p g).setCtl p { (heard s p g).ctl p with
            changeSet := ChangeSet.setLast { ((heard s p g).ctl p).changeSet with
              entries := (s.ctl p).changeSet.entries ++ [⟨k, r⟩] } r.table k }).restartIdle p).answer p g
            (s.controlKey p) ⟨.done, .staged k ((s.ctl p).changeSet.entries.length + 1)⟩ false)) ∧
        (32 ≤ (s.ctl p).changeSet.entries.length → exec (.stage p f) s = .next ((heard s p g).answer p g
          (s.controlKey p) ⟨.refused .full, .none⟩ false)))) ∧
    ((readStageTable code = none ∨ readRecord (s.controlKey p) code bytes = none ∨
        ∀ t, readStageTable code = some t → (s.ctl p).changeSet.resolve t index = none) →
      exec (.stage p f) s = .next ((heard s p g).answer p g (s.controlKey p) ⟨.refused .malformed, .none⟩ false)))

/-- COMMIT (R142, R146, R147, R179): an EMPTY set is refused EMPTY, its reply naming no entry, so that the table, index and
position that 13.3.2 gives it are absent (the model's reading, log 40); a set with an entry that fails is refused with
that entry and changes nothing; any other set is applied at once to the working copies, empties the set, leaves the
hold, and is replied DONE. Where the Persist Queue has room, the commit group of every record that changed joins it with the
advances of the reset lanes directly behind it, in the set's order (log 20), no older ceiling write of a reset lane
stays but one being written, which is stale (R53), every lane of the set has made its advance test, and no event is
raised. That each lane of a set whose group fails at once keeps the record the group carried is the model's reading (log
23). -/
def Obligations.CommitAppliesAllOrNothing : Prop :=
  ∀ (p : Port) (f : EthFrame) (g : ControlFrame) (es : List StagedEntry) (s : State), accepted s p f g →
    g.read = some .commit → es = (s.ctl p).changeSet.entries →
    (es = [] → exec (.commit p f) s = .next ((heard s p g).answer p g (s.controlKey p)
      ⟨.refused .empty, .noEntry⟩ false)) ∧
    (es ≠ [] →
      (∀ e k reason, s.judge p es = some (e, k, reason) →
        exec (.commit p f) s = .next ((heard s p g).answer p g (s.controlKey p)
          ⟨.refused reason, .failed e.record.table e.index k⟩ false)) ∧
      (s.judge p es = none →
        ∃ t, exec (.commit p f) s = .next (t.answer p g (s.controlKey p) ⟨.done, .applied es.length⟩ false) ∧
          t.slots = slotsApplied s es ∧ t.settings = (settingsEntry es).getD s.settings ∧
          t.standIn = (classEntries es).foldl (fun v x => v.set x.1 x.2) s.standIn ∧
          (∀ l : LaneId, t.lane l = { (lanesApplied s es)[l] with
            advancePending := (t.lane l).advancePending
            mailbox := (t.lane l).mailbox
            counters := (t.lane l).counters
            lostCommit := (t.lane l).lostCommit
            config := { (lanesApplied s es)[l].config with state := (t.lane l).config.state } }) ∧
          (∀ full, full = ((resetLanes s es).foldl State.dropCeilings s).persist.full →
            (∀ l ∈ laneEntries es, (t.lane l).lostCommit =
              if full then some (lanesApplied s es)[l].config else none) ∧
            (∀ l, l ∉ laneEntries es → (t.lane l).lostCommit = (s.lane l).lostCommit)) ∧
          (t.ctl p).changeSet = emptyChangeSet ∧ (t.ctl p).hold = (s.ctl p).hold ∧ workKept s t ∧ chainKept s t ∧
          (s.persist.unwritten.length + es.length + 49 ≤ 4096 →
            (∀ l : LaneId, (t.lane l).config = (lanesApplied s es)[l].config ∧
              (t.lane l).mailbox = (s.lane l).mailbox ∧ (t.lane l).counters = (s.lane l).counters) ∧
            (∀ l ∈ laneEntries es, (t.lane l).wantsAdvance = false) ∧
            (∀ l ∈ resetLanes s es, (t.lane l).advancePending = true) ∧ t.events = s.events ∧
            ∃ before behind, t.persist.unwritten = before ++ .group (commitGroup s es) ::
                (resetLanes s es).map (fun l => .ceiling l (lanesApplied s es)[l].config.base
                  (lanesApplied s es)[l].config.baseGen 513 false) ++ behind ∧
              ∀ w ∈ before, ∀ l ∈ resetLanes s es, w.isCeilingOf l = true →
                s.persist.current ≠ none ∧ t.persist.current = some w ∧ w.stale l = w)))

/-- COMMIT's judgement (R142 to R145): the entries are judged in the set's order, each against the tables as the whole
set leaves them, and the first that fails decides with the first check it fails. A LANE entry: an index of a lane; a
lane that is not trading, CONFLICT otherwise; the fields, slots, uses, numbers and binding that R143 asks,
BAD-REFERENCE otherwise. A SLOT entry: an index of a slot; held by the port; allowed to it; for a WRITE the check value,
then the uses and the base lanes staged; for an ERASE no lane that names it. A STANDIN or SETTINGS entry: its own
ranges. -/
def Obligations.CommitJudgesEachEntry : Prop :=
  (∀ (p : Port) (es : List StagedEntry) (s : State) (verdict : Nat → StagedEntry → Option ControlReason),
    (∀ k e, verdict k e = s.judgeEntry p es (slotsBefore s es k) (lanesApplied s es) e) →
    (s.judge p es = none ↔ ∀ k e, es[k]? = some e → verdict k e = none) ∧
    (∀ e k reason, s.judge p es = some (e, k, reason) ↔ ∃ n, k = n + 1 ∧ es[n]? = some e ∧
      verdict n e = some reason ∧ ∀ m x, m < n → es[m]? = some x → verdict m x = none)) ∧
  (∀ (p : Port) (es : List StagedEntry) (slots : Vector SlotRecord 96) (lanes : Vector LaneRecord 48) (index : Nat)
    (r : StagedLane) (s : State) (verdict : Option ControlReason),
    verdict = s.judgeEntry p es slots lanes ⟨index, .lane r⟩ →
    (48 ≤ index → verdict = some .badReference) ∧
    (∀ (l : LaneId) (idle good : Prop), index = l.val →
      (idle ↔ ((s.lane l).config.state = .unused ∨ (∃ c, (s.lane l).config.state = .suspended c) ∨
          ∃ c, (s.lane l).config.state = .faulted c) ∧ (s.lane l).mailbox = none ∧ s.jobInFlight l = false) →
      (good ↔ (1 ≤ r.till ∧ r.till ≤ 4095 ∧ printableIdentity r.identity = true ∧
          (∀ a, r.station = some a → individual a = true) ∧ r.classes.toNat < 1024) ∧
        (∃ link base : SlotId, r.link = link.val ∧ r.base = base.val ∧ 2 ≤ link.val ∧ 2 ≤ base.val ∧
          slots[link].state = .active ∧ slots[link].usage = some .link ∧ slots[base].state = .active ∧
          slots[base].usage = some .base ∧
          (((s.lane l).config.base = some base ∧ (s.lane l).config.baseGen = some slots[base].generation ∧
              (s.lane l).config.identity = some r.identity) ∨
            (r.identity ∉ slots[base].bound ∧ slots[base].bound.length < 48))) ∧
        (lanes[l].config.state = .unused ∨ ∀ k : LaneId, k ≠ l → lanes[k].config.state ≠ .unused →
          lanes[k].config.till ≠ lanes[l].config.till ∧ lanes[k].config.identity ≠ lanes[l].config.identity)) →
      (¬ idle → verdict = some .conflict) ∧ (idle → ¬ good → verdict = some .badReference) ∧
      (idle → good → verdict = none))) ∧
  (∀ (p : Port) (es : List StagedEntry) (slots : Vector SlotRecord 96) (lanes : Vector LaneRecord 48) (index : Nat)
    (record : StagedRecord) (s : State) (verdict : Option ControlReason), record.table = .slot →
    verdict = s.judgeEntry p es slots lanes ⟨index, record⟩ →
    (96 ≤ index → verdict = some .badReference) ∧
    (∀ (n : SlotId) (holds allows unnamed : Prop), index = n.val →
      (holds ↔ ∃ q, grantedRange s p = some q ∧ q.low ≤ n.val ∧ n.val ≤ q.high) →
      (allows ↔ n ≠ controlSlot p.opposite ∧ (record = .slotErase → 2 ≤ n.val) ∧
        ∀ u k c, record = .slotWrite u k c →
          (n.val < 2 → u = .control) ∧ (2 ≤ n.val → u ≠ .control ∧ (s.slot n).generation < 65535)) →
      (unnamed ↔ ∀ l : LaneId, lanes[l].config.state ≠ .unused →
        lanes[l].config.link ≠ some n ∧ lanes[l].config.base ≠ some n) →
      (¬ holds → verdict = some .notHeld) ∧ (holds → ¬ allows → verdict = some .notAllowed) ∧
      (holds → allows →
        (record = .slotErase → (unnamed → verdict = none) ∧ (¬ unnamed → verdict = some .inUse)) ∧
        (∀ u k c, record = .slotWrite u k c → ∀ suits : Prop,
          (suits ↔ (∀ l : LaneId, lanes[l].config.state ≠ .unused →
              (lanes[l].config.link = some n → u = .link) ∧ (lanes[l].config.base = some n → u = .base)) ∧
            ∀ l : LaneId, (s.lane l).config.state ≠ .unused → (s.lane l).config.base = some n →
              ∃ e ∈ es, e.record.table = .lane ∧ e.index = l.val) →
          (Config.checkValue k ≠ c → verdict = some .checkValue) ∧
          (Config.checkValue k = c → (suits → verdict = none) ∧ (¬ suits → verdict = some .badReference)))))) ∧
  (∀ (p : Port) (es : List StagedEntry) (slots : Vector SlotRecord 96) (lanes : Vector LaneRecord 48) (index : Nat)
    (s : State) (verdict : StagedRecord → Option ControlReason),
    (∀ r, verdict r = s.judgeEntry p es slots lanes ⟨index, r⟩) →
    (∀ r : ClassRecord, ∀ good : Prop, (good ↔ index ≤ 9 ∧ r.low ≤ r.high ∧ r.high ≤ 99999999 ∧ r.laneCap ≤ 960 ∧
        5 ≤ r.answerTimeout ∧ r.answerTimeout ≤ 120) →
      (good → verdict (.standIn r) = none) ∧ (¬ good → verdict (.standIn r) = some .badReference)) ∧
    (∀ b : SettingsBlock, ∀ good : Prop, (good ↔ index = 0 ∧ individual b.sStation = true ∧
        individual b.cStation = true ∧ (1024 ≤ b.warnMargin ∧ b.warnMargin ≤ 1048576) ∧
        (5 ≤ b.reversalTimeout ∧ b.reversalTimeout ≤ 120) ∧ (1 ≤ b.probeInterval ∧ b.probeInterval ≤ 60) ∧
        (1 ≤ b.missLimit ∧ b.missLimit ≤ 10) ∧ (1 ≤ b.reassemblyLimit ∧ b.reassemblyLimit ≤ 10) ∧
        (5 ≤ b.scrubInterval ∧ b.scrubInterval ≤ 1000) ∧ (10 ≤ b.holdLimit ∧ b.holdLimit ≤ 600) ∧
        (10 ≤ b.idleLimit ∧ b.idleLimit ≤ 900)) →
      (good → verdict (.settings b) = none) ∧ (¬ good → verdict (.settings b) = some .badReference)))

/-- What a committed entry makes of its record (R35, R41, R42, R45, R56): a written slot is ACTIVE under a generation one
higher, with the key and its check value and no bound identity; an erased one is EMPTY and keeps its generation; a
lane takes the entry's fields, leaves FAULTED for SUSPENDED CONTROL, and starts its counter and ceiling at 1 when
its base slot or base generation changes, and only then. When either of those or the terminal identity changes, the
new identity joins the bound identities of the new base slot, and no other slot's. That no earlier lost commit stands in
for the lane's record any more is the model's reading (log 23). -/
def Obligations.CommittedRecords : Prop :=
  (∀ (slots : Vector SlotRecord 96) (n : SlotId) (u : SlotUsage) (k : Key) (c : CheckValue),
    (applySlot slots ⟨n.val, .slotWrite u k c⟩)[n] = ⟨.active, some u,
      (if n.val < 2 ∧ slots[n].generation = 65535 then 65535 else slots[n].generation + 1),
      some (Config.checkValue k), some k, []⟩ ∧
    (applySlot slots ⟨n.val, .slotErase⟩)[n] = ⟨.empty, none, slots[n].generation, none, none, []⟩ ∧
    ∀ m : SlotId, m ≠ n → (applySlot slots ⟨n.val, .slotWrite u k c⟩)[m] = slots[m] ∧
      (applySlot slots ⟨n.val, .slotErase⟩)[m] = slots[m]) ∧
  (∀ (slots : Vector SlotRecord 96) (lanes : Vector LaneRecord 48) (l : LaneId) (r : StagedLane) (new : LaneRecord),
    new = (applyLane slots lanes ⟨l.val, .lane r⟩)[l] →
    new.config.till = some r.till ∧ new.config.identity = some r.identity ∧ new.config.station = r.station ∧
    new.config.frozen = r.frozen ∧ new.config.classes = r.classes.setWidth 10 ∧
    new.config.link = slotOf r.link ∧ new.config.base = slotOf r.base ∧
    new.config.baseGen = (slotOf r.base).map (fun n => slots[n].generation) ∧
    new.recent = lanes[l].recent ∧ new.lastAccepted = lanes[l].lastAccepted ∧
    new.tagFailures = lanes[l].tagFailures ∧
    ((∀ c, lanes[l].config.state ≠ .faulted c) → new.config.state = lanes[l].config.state) ∧
    ((∃ c, lanes[l].config.state = .faulted c) → new.config.state = .suspended .control) ∧
    (new.config.base = lanes[l].config.base → new.config.baseGen = lanes[l].config.baseGen →
      new.counter = lanes[l].counter ∧ new.config.ceiling = lanes[l].config.ceiling) ∧
    ((new.config.base ≠ lanes[l].config.base ∨ new.config.baseGen ≠ lanes[l].config.baseGen) →
      new.counter = 1 ∧ new.config.ceiling = 1) ∧ new.lostCommit = none ∧
    (∀ k : LaneId, k ≠ l → (applyLane slots lanes ⟨l.val, .lane r⟩)[k] = lanes[k]) ∧
    (∀ n, slotOf r.base = some n →
      (applyBinding lanes slots ⟨l.val, .lane r⟩)[n] = { slots[n] with
        bound := if lanes[l].config.base = some n ∧ lanes[l].config.baseGen = some slots[n].generation ∧
          lanes[l].config.identity = some r.identity then slots[n].bound else slots[n].bound ++ [r.identity] }) ∧
    (∀ m : SlotId, slotOf r.base ≠ some m → (applyBinding lanes slots ⟨l.val, .lane r⟩)[m] = slots[m]))

/-- DISCARD (R141): the port's change set becomes EMPTY and DONE is replied, whatever the set held; the hold stands as
it was and no event is raised. -/
def Obligations.DiscardEmptiesTheSet : Prop :=
  ∀ (p : Port) (f : EthFrame) (g : ControlFrame) (s : State), accepted s p f g → g.read = some .discard →
    ∃ t, exec (.discard p f) s = .next t ∧
      t = ((heard s p g).emptySet p).answer p g (s.controlKey p) ⟨.done, .none⟩ false ∧
      (t.ctl p).changeSet = emptyChangeSet ∧ (t.ctl p).hold = (s.ctl p).hold ∧ t.events = s.events

/-- HOLD and RELEASE (R148, R149, R151): a HOLD of a readable range makes a hold of NONE PENDING, replied before its
grant test, and is refused HOLD-EXISTS with the hold that stands otherwise; RELEASE makes the hold NONE, replies DONE
and makes the grant test. That a HOLD refused MALFORMED gives state and range as absent, the hold that stands not among
them, is the model's reading (log 40). -/
def Obligations.HoldRequestedAndReleased : Prop :=
  (∀ (p : Port) (f : EthFrame) (g : ControlFrame) (low high : Nat) (s : State), accepted s p f g →
    g.read = some (.hold low high) →
    (95 < high ∨ high < low → exec (.hold p f) s = .next ((heard s p g).answer p g (s.controlKey p)
      ⟨.refused .malformed, .noHold⟩ false)) ∧
    (high ≤ 95 → low ≤ high →
      ((s.ctl p).hold = .none → exec (.hold p f) s = .next ((((heard s p g).setCtl p { (heard s p g).ctl p with
        hold := .pending ⟨low, high, g.number, g.src⟩ }).answer p g (s.controlKey p)
          ⟨.pending, .hold false low high⟩ false).grantHolds)) ∧
      (∀ r, (s.ctl p).hold = .pending r → exec (.hold p f) s = .next ((heard s p g).answer p g (s.controlKey p)
        ⟨.refused .holdExists, .hold false r.low r.high⟩ false)) ∧
      (∀ r limit, (s.ctl p).hold = .granted r limit → exec (.hold p f) s = .next ((heard s p g).answer p g
        (s.controlKey p) ⟨.refused .holdExists, .hold true r.low r.high⟩ false)))) ∧
  (∀ (p : Port) (f : EthFrame) (g : ControlFrame) (s : State), accepted s p f g → g.read = some .release →
    exec (.release p f) s = .next ((((heard s p g).setCtl p { (heard s p g).ctl p with hold := .none }).answer p g
      (s.controlKey p) ⟨.done, .none⟩ false).grantHolds))

/-- HOLD_GRANT (R149, R168): a PENDING hold is granted exactly when the job in flight loaded no slot of its range and the
other port holds no overlapping GRANTED range; its limit then runs and a GRANTED reply is handed to its port. Of two
that overlap the S-port's is granted. -/
def Obligations.HoldGrantTest : Prop :=
  (∀ (p : Port) (r : HoldRequest) (s : State), (s.ctl p).hold = .pending r →
    (∀ q, (s.ctl p.opposite).hold ≠ .pending q) →
    (s.jobUses r = false → (∀ q, grantedRange s p.opposite = some q → q.overlaps r = false) →
      exec .holdGrant s = .next ((s.setCtl p { s.ctl p with
        hold := .granted r (s.after s.settings.holdLimit) }).reply p r.source r.number 5 .granted
          (.hold true r.low r.high) (s.controlKey p) false)) ∧
    ((s.jobUses r = true ∨ ∃ q, grantedRange s p.opposite = some q ∧ q.overlaps r = true) →
      exec .holdGrant s = .next s)) ∧
  (∀ (a b : HoldRequest) (s : State), (s.ctl .s).hold = .pending a → (s.ctl .c).hold = .pending b →
    s.jobUses a = false → a.overlaps b = true →
    ∃ t, exec .holdGrant s = .next t ∧ (t.ctl .s).hold = .granted a (s.after s.settings.holdLimit) ∧
      (t.ctl .c).hold = .pending b) ∧
  (∀ s : State, (∀ p r, (s.ctl p).hold ≠ .pending r) → exec .holdGrant s = .next s)

/-- HOLD_LIMIT and CHANGE_SET_IDLE_LIMIT (R140, R152): at its limit a GRANTED hold becomes NONE and its port's set EMPTY,
and HOLD-REVOKED is raised; at its idle limit an OPEN set becomes EMPTY and CHANGE-SET-ABANDONED is raised, the hold
standing. Before its time neither does anything (log 6). -/
def Obligations.HoldAndSetLimits : Prop :=
  ∀ (p : Port) (s : State),
    (∀ r limit, (s.ctl p).hold = .granted r limit → limit ≤ s.clock →
      exec (.holdLimit p) s = .next (((s.setCtl p { s.ctl p with hold := .none, changeSet := emptyChangeSet }).raise
        (.holdRevoked p r.low r.high (s.ctl p).changeSet.entries.length)).grantHolds)) ∧
    (∀ r limit, (s.ctl p).hold = .granted r limit → s.clock < limit → exec (.holdLimit p) s = .next s) ∧
    ((∀ r limit, (s.ctl p).hold ≠ .granted r limit) → exec (.holdLimit p) s = .next s) ∧
    (∀ time, (s.ctl p).changeSet.idle = some time → time ≤ s.clock → (s.ctl p).changeSet.entries ≠ [] →
      exec (.changeSetIdleLimit p) s = .next ((s.setCtl p { s.ctl p with changeSet := emptyChangeSet }).raise
        (.changeSetAbandoned p (s.ctl p).changeSet.entries.length))) ∧
    (∀ time, (s.ctl p).changeSet.idle = some time → s.clock < time → exec (.changeSetIdleLimit p) s = .next s) ∧
    ((s.ctl p).changeSet.idle = none → exec (.changeSetIdleLimit p) s = .next s)

/-- SET_LANE_READY, SET_LANE_SUSPEND, SET_LANE_TEST and SET_LANE_UNUSED by the lane's state (R17, R32, R33), and a lane above
47 in any of the five rows (R169). By READY a lane of TEST or SUSPENDED, or a complete lane of UNUSED, has its tag
failures set to 0 and becomes READY, or EXHAUSTED when its counter has passed the payment limit; an incomplete one
is refused BAD-REFERENCE, a FAULTED one STATE. A lane that leaves UNUSED makes the advance test (R52); that an advance
which a start would find without its commit stands behind the group still to be written, fails at once at a full
Persist Queue, and is not requested where there is no such group, is the model's choice (log 20). That the tag failures
are set to 0 from TEST and UNUSED too is the model's reading (log 33). -/
def Obligations.SetLaneActs : Prop :=
  (∀ (p : Port) (f : EthFrame) (g : ControlFrame) (l : LaneId) (s ready : State), accepted s p f g →
    g.read = some (.setLane l.val .ready) →
    (ready = if 4194047 < (s.lane l).counter then
      ((heard s p g).modLane l (fun r => { r with tagFailures := 0 })).changeState l .exhausted
        (some (.laneExhausted l (s.lane l).counter))
      else ((heard s p g).modLane l (fun r => { r with tagFailures := 0 })).changeState l .ready none) →
    (((s.lane l).config.state = .ready ∨ (s.lane l).config.state = .exhausted) →
      exec (.setLaneReady p f) s = .next ((heard s p g).answer p g (s.controlKey p) ⟨.done, .none⟩ false)) ∧
    (((s.lane l).config.state = .test ∨ ∃ c, (s.lane l).config.state = .suspended c) →
      exec (.setLaneReady p f) s = .next (ready.answer p g (s.controlKey p) ⟨.done, .none⟩ false)) ∧
    ((s.lane l).config.state = .unused → s.laneComplete l = true →
      ∃ t, exec (.setLaneReady p f) s = .next (t.answer p g (s.controlKey p) ⟨.done, .none⟩ false) ∧
        (((ready.lane l).wantsAdvance = false ∨ ready.store.founds (ready.advanceWrite l) = true) →
          t = ready.advanceTest l) ∧
        ((ready.lane l).wantsAdvance = true → ready.store.founds (ready.advanceWrite l) = false →
          ((∃ w ∈ ready.persist.unwritten, w.touchesLane l = true) → t = ready.requestAdvance l (joinBehind l)) ∧
          (ready.persist.full = true → t = (ready.modLane l (fun r => { r with
            advancePending := true })).ceilingFailed l) ∧
          ((∀ w ∈ ready.persist.unwritten, w.touchesLane l = false) → ready.persist.full = false → t = ready))) ∧
    ((s.lane l).config.state = .unused → s.laneComplete l = false → exec (.setLaneReady p f) s =
      .next ((heard s p g).answer p g (s.controlKey p) ⟨.refused .badReference, .none⟩ false)) ∧
    ((∃ c, (s.lane l).config.state = .faulted c) → exec (.setLaneReady p f) s =
      .next ((heard s p g).answer p g (s.controlKey p) ⟨.refused .state, .none⟩ false))) ∧
  ((∀ (p : Port) (f : EthFrame) (g : ControlFrame) (l : LaneId) (a : LaneAction) (s : State)
    (reply : State → ReplyStatus → State), accepted s p f g → g.read = some (.setLane l.val a) →
    (∀ t st, reply t st = t.answer p g (s.controlKey p) ⟨st, .none⟩ false) →
    (a = .suspend →
      (((s.lane l).config.state = .ready ∨ (s.lane l).config.state = .test ∨ (s.lane l).config.state = .exhausted ∨
          (s.lane l).config.state = .suspended .tagFailures) →
        exec (.setLaneSuspend p f) s =
          .next (reply ((heard s p g).changeState l (.suspended .control) none) .done)) ∧
      ((s.lane l).config.state = .suspended .control →
        exec (.setLaneSuspend p f) s = .next (reply (heard s p g) .done)) ∧
      (((s.lane l).config.state = .unused ∨ ∃ c, (s.lane l).config.state = .faulted c) →
        exec (.setLaneSuspend p f) s = .next (reply (heard s p g) (.refused .state)))) ∧
    (a = .test →
      ((s.lane l).config.state = .ready →
        exec (.setLaneTest p f) s = .next (reply ((heard s p g).changeState l .test none) .done)) ∧
      ((s.lane l).config.state = .test → exec (.setLaneTest p f) s = .next (reply (heard s p g) .done)) ∧
      ((s.lane l).config.state ≠ .ready → (s.lane l).config.state ≠ .test →
        exec (.setLaneTest p f) s = .next (reply (heard s p g) (.refused .state)))) ∧
    (a = .unused →
      ((s.lane l).config.state = .unused → exec (.setLaneUnused p f) s = .next (reply (heard s p g) .done)) ∧
      ((s.lane l).config.state ≠ .unused →
        (s.laneIdle l = true → exec (.setLaneUnused p f) s = .next (reply
          (((heard s p g).modLane l (fun r => { r with
            recent := [], lastAccepted := none, tagFailures := 0 })).changeState l .unused none) .done)) ∧
        (s.laneIdle l = false →
          exec (.setLaneUnused p f) s = .next (reply (heard s p g) (.refused .conflict)))))) ∧
  (∀ (p : Port) (f : EthFrame) (g : ControlFrame) (lane : Nat) (a : LaneAction) (s : State), accepted s p f g →
    g.read = some (.setLane lane a) → 48 ≤ lane →
    exec (setLaneRow a p f) s = .next ((heard s p g).answer p g (s.controlKey p) ⟨.refused .malformed, .none⟩ false)))

/-- SET_LANE_CLEAR_VOLATILE (R38): on a lane that is idle, in any state, the tag failures, the last accepted number, the
recent list and the lane counters are cleared, nothing else of the lane changes, no write is queued, and DONE is
replied; on any other lane CONFLICT is refused and the lane is unchanged. -/
def Obligations.ClearVolatileActs : Prop :=
  ∀ (p : Port) (f : EthFrame) (g : ControlFrame) (l : LaneId) (s : State), accepted s p f g →
    g.read = some (.setLane l.val .clearVolatile) →
    ((s.ownsEntry l = false ∧ s.logCount l = 0 ∧ (s.lane l).mailbox = none ∧ s.jobInFlight l = false) →
      exec (.setLaneClearVolatile p f) s = .next (((heard s p g).setLane l { s.lane l with
        tagFailures := 0, lastAccepted := none, recent := [], counters := zeroLaneCounters }).answer p g
          (s.controlKey p) ⟨.done, .none⟩ false)) ∧
    (¬ (s.ownsEntry l = false ∧ s.logCount l = 0 ∧ (s.lane l).mailbox = none ∧ s.jobInFlight l = false) →
      exec (.setLaneClearVolatile p f) s = .next ((heard s p g).answer p g (s.controlKey p)
        ⟨.refused .conflict, .none⟩ false))

/-- RESTART is replied DONE with the reply whose leaving begins a warm start (R170), and UNKNOWN_REQUEST is refused
MALFORMED (R165), with a COMMIT's or a HOLD's fields absent where its code is theirs (log 40); neither changes anything
else but what acceptance does. That the port marks the reply as awaited, or keeps the mark of one that has left, until
the start comes as a step of its own is the model's reading (log 37). -/
def Obligations.RestartAndUnknownRequests : Prop :=
  ∀ (p : Port) (f : EthFrame) (g : ControlFrame) (s : State), accepted s p f g →
    (g.read = some .restart → exec (.restart p f) s = .next (((heard s p g).setCtl p { (heard s p g).ctl p with
      restart := if (s.ctl p).restart = .left then .left else .waiting }).answer p g (s.controlKey p)
        ⟨.done, .none⟩ true)) ∧
    (g.read = none → exec (.unknownRequest p f) s = .next ((heard s p g).answer p g (s.controlKey p)
      ⟨.refused .malformed, absentData g.request⟩ false))

/-- A lane enters a state (R10, R12, R15, R24): a frame in its mailbox that the state does not take leaves it, is refused
to its source under the reason of the state, tagged at handing, and counted as refused; any other frame stays; other
lanes are as they were, and a lane-state write of the new state is among the writes queued. -/
def Obligations.StateEntryEmptiesTheMailbox : Prop :=
  ∀ (l : LaneId) (st : LaneState) (event : Option EventDetails) (s t u : State), t = s.changeState l st event →
    u = (match event with
      | some d => (s.setLane l { s.lane l with config := { (s.lane l).config with state := st } }).raise d
      | none => s.setLane l { s.lane l with config := { (s.lane l).config with state := st } }) →
    st ≠ .unused → s.persist.full = false →
    (t.lane l).config = { (s.lane l).config with state := st } ∧ otherLanes s t l ∧
    .laneState l st ∈ t.persist.unwritten ∧ workKept s t ∧ chainKept s t ∧ standingTables s t ∧
    (∀ f, (s.lane l).mailbox = some f → stateTakes st f.kind → t.lane l = { s.lane l with
      config := { (s.lane l).config with state := st } } ∧ t.ports = u.ports) ∧
    (∀ f reason, (s.lane l).mailbox = some f → ¬ stateTakes st f.kind →
      (st = .exhausted → reason = .exhausted) → ((∃ c, st = .suspended c) → reason = .suspended) →
      ((∃ c, st = .faulted c) → reason = .faulted) →
      t.lane l = { s.lane l with
        config := { (s.lane l).config with state := st }
        mailbox := none
        counters := (s.lane l).counters.refuse reason } ∧
      t.ports = (u.handTill f.src ((s.lane l).config.till.getD f.till) f.xchg (.refused reason)
        (u.handKey l)).ports) ∧
    ((s.lane l).mailbox = none → (t.lane l).mailbox = none ∧ t.ports = u.ports)

/-! ## The Wrap Engine's grants (R60 to R64) -/

/-- ENGINE_GRANT, the order of work (R60 to R63): the oldest eligible answer first; without one, the eligible entry with
the earliest deadline, the lower index on a tie. With no eligible work, with a job in flight, or in STARTING, nothing
changes (log 6). An answer is eligible unless the entry found for it keeps a key slot inside a GRANTED range; an entry
in REVERSAL-DUE, or in REVERSING with its mark set, where its lane's base slot is not held, its lane has a value or
need not wait for one, and a new reversal finds a Send Queue place; a mailbox where its lane is not skipped and its
lane's slots are usable (R64). -/
def Obligations.GrantTakesWorkInOrder : Prop :=
  (∀ (s : State) (held : Option SlotId → Prop) (valued : LaneId → Prop) (place : Prop),
    (∀ n, held n ↔ ∃ m p r, n = some m ∧ grantedRange s p = some r ∧ r.low ≤ m.val ∧ m.val ≤ r.high) →
    (∀ l, valued l ↔ (s.lane l).counter < (s.lane l).config.ceiling ∨ (s.lane l).config.ceiling = 4194304) →
    (place ↔ s.sendQueue.length + s.reserved < 64) →
    (∀ env, s.currentMatch env = none → s.answerEligible env = true) ∧
    (∀ env i e, s.currentMatch env = some (i, e) →
      (s.answerEligible env = true ↔
        ¬ held (some e.base) ∧ (e.kind = .payment → ¬ held (s.lane e.lane).config.link))) ∧
    (∀ env i e, s.currentMatch env = some (i, e) ↔ s.exchange i = some e ∧ e.seq = env.seq ∧
      (e.state = .awaiting ∨ e.state = .reversing ∨ e.kind = .logSend) ∧
      ∀ j x, j < i → s.exchange j = some x → x.seq = env.seq →
        ¬ (x.state = .awaiting ∨ x.state = .reversing ∨ x.kind = .logSend)) ∧
    (∀ e, s.reversalEligible e = true ↔ ¬ held (s.lane e.lane).config.base ∧
      (valued e.lane ∨ (s.lane e.lane).config.state = .faulted .ceiling) ∧
      ((e.state = .reversalDue ∧ place) ∨ (e.state = .reversing ∧ e.repeatDue = true))) ∧
    (∀ l, s.mailboxEligible l = true ↔ ∃ f, (s.lane l).mailbox = some f ∧ ¬ held (s.lane l).config.link ∧
      ¬ held (s.lane l).config.base ∧ valued l ∧ place ∧
      (∃ k, s.linkKey l = some k) ∧ ∃ k, s.laneBaseKey l = some k)) ∧
  ∀ (w : Wear) (s : State),
    (∀ env older younger, s.phase = .serving → s.engine.job = none → s.answerQueue = older ++ env :: younger →
      (∀ x ∈ older, s.answerEligible x = false) → s.answerEligible env = true →
      ∃ t base link, exec (.engineGrant w) s = .next t ∧ t.answerQueue = older ++ younger ∧
        t.engine = { s.engine with job := some (.answer env
          ((s.currentMatch env).map (fun x => (x.1, x.2.stamp))) ((s.currentMatch env).map (fun x => x.2.lane))
          base link) } ∧ t.sendQueue = s.sendQueue ∧ t.exchanges = s.exchanges ∧ t.log = s.log) ∧
    (∀ i e, s.phase = .serving → s.engine.job = none → noAnswerEligible s → s.exchange i = some e →
      s.reversalEligible e = true →
      (∀ j x, s.exchange j = some x → s.reversalEligible x = true →
        e.deadline < x.deadline ∨ (e.deadline = x.deadline ∧ i ≤ j)) →
      ∃ t base, exec (.engineGrant w) s = .next t ∧
        t.engine = { s.engine with job := some (if e.state = .reversing then .repetition i e.lane base
          else .reversal i e.lane base) } ∧
        t.answerQueue = s.answerQueue ∧ t.sendQueue = s.sendQueue ∧ t.exchanges = s.exchanges ∧ t.log = s.log) ∧
    ((s.phase = .starting ∨ s.engine.job ≠ none ∨
        (noAnswerEligible s ∧ noReversalEligible s ∧ ∀ l, s.mailboxEligible l = false)) →
      exec (.engineGrant w) s = .next s)

/-- ENGINE_GRANT of a mailbox (R23, R58, R63, R64), the memories being sound: the frame leaves the mailbox and the lane
becomes the last served. A frame that fails a check made again is refused and the engine stays IDLE; any other
becomes the lane job, with the link key, and the base key where its kind needs it. -/
def Obligations.GrantServesMailbox : Prop :=
  ∀ (l : LaneId) (f : LaneFrame) (s : State), mailboxTurn s l f → s.upsets = [] →
    (¬ stationAgrees (s.lane l).config f →
      exec (.engineGrant noWear) s = .next (((takenFrom s l).refuseAtHand l f .identity).finishJob)) ∧
    (stationAgrees (s.lane l).config f →
      (f.kind = .pay → (s.lane l).openPayment ≠ none →
        exec (.engineGrant noWear) s = .next (((takenFrom s l).refuseAtHand l f .laneBusy).finishJob)) ∧
      ((f.kind = .pay → (s.lane l).openPayment = none) →
        ((s.lane l).lastAccepted = some f.xchg →
          exec (.engineGrant noWear) s = .next (((takenFrom s l).refuseAtHand l f .duplicate).finishJob)) ∧
        ((s.lane l).lastAccepted ≠ some f.xchg →
          ∃ link, s.linkKey l = some link ∧
            (f.kind = .enrol → exec (.engineGrant noWear) s =
              .next ((takenFrom s l).startJob (.lane l f link .enrol))) ∧
            (f.kind = .askState → exec (.engineGrant noWear) s =
              .next ((takenFrom s l).startJob (.lane l f link .askState))) ∧
            (f.kind = .pay → (s.lane l).config.state = .test → exec (.engineGrant noWear) s =
              .next ((takenFrom s l).startJob (.lane l f link .payTest))) ∧
            (f.kind = .pay → (s.lane l).config.state ≠ .test → ∃ base, s.laneBaseKey l = some base ∧
              exec (.engineGrant noWear) s = .next ((takenFrom s l).startJob (.lane l f link (.pay base)))) ∧
            (f.kind = .reverse → ∃ base, s.laneBaseKey l = some base ∧
              exec (.engineGrant noWear) s = .next ((takenFrom s l).startJob (.lane l f link (.reverse base)))))))

/-- The engine-side check finds a lane job's link slot uncorrectable (R34, R43, R64, R157, R158): the slot and the lane
become FAULTED, the frame is refused and counted, the engine is IDLE, and no counter value is taken. -/
def Obligations.UncorrectableKeyEndsTheJob : Prop :=
  ∀ (l : LaneId) (f : LaneFrame) (link : LoadedKey) (stuck : Bool) (s : State), mailboxTurn s l f →
    (s.lane l).config.state = .ready → stationAgrees (s.lane l).config f →
    (f.kind = .pay → (s.lane l).openPayment = none) → (s.lane l).lastAccepted ≠ some f.xchg →
    s.linkKey l = some link → s.upsetAt (slotPosition link.slot) = some (.uncorrectable stuck) →
    ∃ t, exec (.engineGrant noWear) s = .next t ∧ t.engine = { s.engine with job := none, lastServed := l } ∧
      (t.slot link.slot).state = .faulted ∧ (t.slot link.slot).key = none ∧
      (t.lane l).config.state = .faulted .linkKey ∧ (t.lane l).mailbox = none ∧
      (t.lane l).counter = (s.lane l).counter ∧ (t.lane l).tagFailures = (s.lane l).tagFailures ∧
      (t.lane l).lastAccepted = (s.lane l).lastAccepted ∧
      (t.lane l).counters = (s.lane l).counters.refuse .faulted ∧
      (t.scrub.map[slotPosition link.slot]).uncorrectable = true ∧ t.exchanges = s.exchanges ∧ t.log = s.log

/-! ## Lane jobs (R65 to R72) -/

/-- The four lane job rows when the lane tag fails (R30, R66): REFUSED TAG under the job's key, then the failure is
counted, and the fifth suspends a lane in READY, TEST or EXHAUSTED. The job is over. -/
def Obligations.LaneJobTagFails : Prop :=
  ∀ (l : LaneId) (f : LaneFrame) (link : LoadedKey) (work : LaneWork) (s t : State),
    s.engine.job = some (.lane l f link work) → f.tag ≠ f.expectedTag link.key →
    t = (s.refuseInJob l f link .tag).modLane l (fun r => { r with
      tagFailures := satInc 5 (s.lane l).tagFailures }) →
    ((s.lane l).tagFailures < 4 → exec (jobRow work) s = .next t.finishJob) ∧
    (4 ≤ (s.lane l).tagFailures →
      (((s.lane l).config.state = .ready ∨ (s.lane l).config.state = .test ∨
          (s.lane l).config.state = .exhausted) →
        exec (jobRow work) s = .next ((t.changeState l (.suspended .tagFailures)
          (some (.laneSuspended l .tagFailures))).finishJob)) ∧
      (((s.lane l).config.state = .unused ∨ (∃ c, (s.lane l).config.state = .suspended c) ∨
          ∃ c, (s.lane l).config.state = .faulted c) → exec (jobRow work) s = .next t.finishJob))

/-- A wrap's counter value and sequence (R33, R51, R52, R54, R55, R65): the value is the lane's counter, which rises by
one; the last payment value moves a READY lane into EXHAUSTED; passing the margin raises COUNTER-WARN; near its
ceiling the lane requests an advance of 512; and the sequence carries the epoch and is used by no entry. -/
def Obligations.WrapTakesValueAndSequence : Prop :=
  (∀ (l : LaneId) (s t : State), t = (s.takeCounter l).2 →
    (s.takeCounter l).1 = (s.lane l).counter ∧ (t.lane l).counter = (s.lane l).counter + 1 ∧ otherLanes s t l ∧
    (t.lane l).config.ceiling = (s.lane l).config.ceiling ∧ workKept s t ∧ chainKept s t ∧ standingTables s t ∧
    ((s.lane l).counter = 4194047 → (s.lane l).config.state = .ready → s.persist.unwritten.length < 4095 →
      (t.lane l).config.state = .exhausted ∧ t.events[3].latched = true) ∧
    ((s.lane l).counter = 4194303 - s.settings.warnMargin → t.events[2].latched = true) ∧
    ((s.lane l).advancePending = false → (s.lane l).config.state ≠ .unused →
      (s.lane l).config.state ≠ .faulted .ceiling → (s.lane l).config.ceiling < 4194304 →
      (s.lane l).config.ceiling ≤ (s.lane l).counter + 1 + 64 → s.persist.unwritten.length < 4095 →
      (t.lane l).advancePending = true ∧
      .ceiling l (s.lane l).config.base (s.lane l).config.baseGen
        (min ((s.lane l).config.ceiling + 512) 4194304) false ∈ t.persist.unwritten)) ∧
  (∀ s : State, s.log.length ≤ 1024 → s.epoch < 1024 → s.engine.running < 4194304 →
    s.assignSeq.1 ∉ s.usedSeqs ∧ s.assignSeq.1.toNat / 4194304 = s.epoch)

/-- PAY_JOB, live (R26, R27, R67, R68, R81): a payment whose lane may send it live takes the counter value and a
sequence, is wrapped with origin LIVE, placed in the Send Queue while the C-port has carrier, and given an AWAITING
entry that is the lane's open payment; the recent list gains it and the lane counts it. -/
def Obligations.PayGoesLive : Prop :=
  ∀ (l : LaneId) (f : LaneFrame) (link base : LoadedKey) (cls : CardClass) (amount : Nat) (i : EntryId) (s : State),
    verifiedJob s l f link (.pay base) → readHeader (decrypt link.key f.body) = some (cls, amount) →
    (s.lane l).counter ≤ 4194047 → s.monitor.state = .up → s.logCount l = 0 → s.freeEntry = some i →
    ∃ t, exec .payJob s = .next t ∧
      t.exchange i = some ⟨.payment, .awaiting, l, f.xchg, s.assignSeq.1, none, none, base.slot, base.gen,
        (s.lane l).counter, some cls, s.after s.standIn[cls].answerTimeout, false, none, s.nextStamp⟩ ∧
      otherEntries s t i ∧ (t.lane l).counter = (s.lane l).counter + 1 ∧ (t.lane l).openPayment = some i ∧
      (t.lane l).lastAccepted = some f.xchg ∧ (t.lane l).tagFailures = 0 ∧
      (t.lane l).recent = joinRecent (s.lane l).recent ⟨f.xchg, s.assignSeq.1, .exchange i⟩ ∧
      (t.lane l).counters.live = satInc Config.count32Max (s.lane l).counters.live ∧ otherLanes s t l ∧
      ((s.port .c).carrier = true → t.sendQueue = s.sendQueue ++ [wrap .payment .live base.key (s.laneIdentity l)
        (s.lane l).counter s.assignSeq.1 0 (decrypt link.key f.body)]) ∧
      ((s.port .c).carrier = false → t.sendQueue = s.sendQueue) ∧ t.engine.job = none ∧ t.log = s.log ∧
      t.answerQueue = s.answerQueue ∧ t.reassembly = s.reassembly ∧ t.monitor = s.monitor ∧ standingTables s t

/-- PAY_JOB, to the log (R69, R119, R123): a payment that cannot go live and is eligible for stand-in takes the value and
a sequence, is wrapped with origin DEFERRED into the newest log entry, unwritten, whose append write is queued; no
exchange entry and no Send Queue place is taken. The 769th entry raises LOG-HIGH. -/
def Obligations.PayGoesToTheLog : Prop :=
  ∀ (l : LaneId) (f : LaneFrame) (link base : LoadedKey) (cls : CardClass) (amount : Nat) (p : PlaceId)
    (x : LogEntry) (s : State),
    verifiedJob s l f link (.pay base) → readHeader (decrypt link.key f.body) = some (cls, amount) →
    (s.lane l).counter ≤ 4194047 → (s.monitor.state ≠ .up ∨ s.logCount l ≠ 0) → standsIn s l cls amount →
    s.freePlace = some p → s.persist.unwritten.length < 4094 → (∀ e ∈ s.log, e.serial < s.nextSerial) →
    x = ⟨p, l, .payment, .queued, false, s.assignSeq.1, none, none, (s.lane l).counter, base.slot, base.gen, some cls,
      some amount, f.xchg, 0, wrap .payment .deferred base.key (s.laneIdentity l) (s.lane l).counter s.assignSeq.1 0
        (decrypt link.key f.body), s.nextSerial, false⟩ →
    ∃ t, exec .payJob s = .next t ∧ t.log = s.log ++ [x] ∧
      .append x (some f.src) f.till ∈ t.persist.unwritten ∧ (t.lane l).counter = (s.lane l).counter + 1 ∧
      (s.log.length = 768 → t.events[12].latched = true) ∧
      (s.log.length ≠ 768 → t.events[12] = s.events[12]) ∧
      (t.lane l).recent = joinRecent (s.lane l).recent ⟨f.xchg, s.assignSeq.1, .log p⟩ ∧
      (t.lane l).openPayment = (s.lane l).openPayment ∧ otherLanes s t l ∧ t.exchanges = s.exchanges ∧
      t.sendQueue = s.sendQueue ∧ t.engine.job = none ∧ t.answerQueue = s.answerQueue ∧ t.monitor = s.monitor ∧
      standingTables s t

/-- PAY_JOB, refused or echoed (R31, R66, R67, R119): the first of malformed header, TEST-ECHO on a lane that was TEST,
EXHAUSTED, CHAIN-DOWN, DRAINING and UPSTREAM-FULL that applies; no value is taken and nothing is sent upstream. -/
def Obligations.PayRefusedOrEchoed : Prop :=
  ∀ (l : LaneId) (f : LaneFrame) (link : LoadedKey) (s : State) (refused : TillReason → State),
    (∀ reason, refused reason = ((s.tagVerified l f).refuseInJob l f link reason).finishJob) →
    (verifiedJob s l f link .payTest →
      (readHeader (decrypt link.key f.body) = none → exec .payJob s = .next (refused .malformed)) ∧
      (readHeader (decrypt link.key f.body) ≠ none → exec .payJob s = .next (((s.tagVerified l f).replyInHand l f
        (.testEcho (decrypt link.key f.body)) (some link.key)).finishJob))) ∧
    (∀ base, verifiedJob s l f link (.pay base) →
      (readHeader (decrypt link.key f.body) = none → exec .payJob s = .next (refused .malformed)) ∧
      (∀ cls amount, readHeader (decrypt link.key f.body) = some (cls, amount) →
        (4194047 < (s.lane l).counter → exec .payJob s = .next (refused .exhausted)) ∧
        ((s.lane l).counter ≤ 4194047 →
          (s.monitor.state ≠ .up → ¬ standsIn s l cls amount → exec .payJob s = .next (refused .chainDown)) ∧
          (s.monitor.state = .up → s.logCount l ≠ 0 → ¬ standsIn s l cls amount →
            exec .payJob s = .next (refused .draining)) ∧
          (s.monitor.state = .up → s.logCount l = 0 → s.freeEntry = none →
            exec .payJob s = .next (refused .upstreamFull)))))

/-- ENROL_JOB and ASK_STATE_JOB (R20, R25, R72): a verified frame is recorded as the last accepted, the station is
learned where the lane has none or an ENROL comes to a lane not frozen, and STATE with the lane's and the monitor's
present states goes to the frame's source under the job's link key. Nothing upstream is touched. -/
def Obligations.StateReplied : Prop :=
  ∀ (l : LaneId) (f : LaneFrame) (link : LoadedKey) (work : LaneWork) (s : State), (work = .enrol ∨ work = .askState) →
    verifiedJob s l f link work →
    ∃ t, exec (jobRow work) s = .next t ∧
      t = ((s.setLane l { s.lane l with
        tagFailures := 0
        lastAccepted := some f.xchg
        config := { (s.lane l).config with
          station := if (s.lane l).config.station = none ∨ ((s.lane l).config.frozen = false ∧ f.kind = .enrol)
            then some f.src else (s.lane l).config.station } }).handTill f.src
              ((s.lane l).config.till.getD f.till) f.xchg
              (.state (s.lane l).config.state s.monitor.state) (some link.key)).finishJob ∧
      (t.lane l).counter = (s.lane l).counter ∧ (t.lane l).recent = (s.lane l).recent ∧
      t.exchanges = s.exchanges ∧ t.log = s.log ∧ t.sendQueue = s.sendQueue ∧ t.engine.job = none

/-- REVERSE_JOB by the place of the item that its target names (R29, R70, R89, R132): NO-EXCHANGE without an item;
REVERSAL-TAKEN and nothing upstream where the payment is reversed or being reversed; a payment in AWAITING enters
REVERSAL-DUE with cause TILL; a QUEUED log payment is cancelled in place. -/
def Obligations.ReverseActsByPlace : Prop :=
  ∀ (l : LaneId) (f : LaneFrame) (link base : LoadedKey) (n : Nat) (s v taken : State),
    verifiedJob s l f link (.reverse base) → f.target = some n → v = s.tagVerified l f →
    taken = (v.replyInHand l f .reversalTaken (some link.key)).finishJob →
    ((s.lane l).recent.find? (fun x => x.xchg = n) = none →
      exec .reverseJob s = .next ((v.refuseInJob l f link .noExchange).finishJob)) ∧
    (∀ item, (s.lane l).recent.find? (fun x => x.xchg = n) = some item →
      (item.place = .reversed → exec .reverseJob s = .next taken) ∧
      (∀ i e, item.place = .exchange i → s.exchange i = some e →
        ((e.state = .reversalDue ∨ e.state = .reversing) → exec .reverseJob s = .next taken) ∧
        (e.kind = .payment → e.state = .awaiting → exec .reverseJob s = .next
          ((((v.setExchange i (some { e with
              state := .reversalDue, orig := some e.seq, cause := some .till })).modLane e.lane
            (fun r => { r with openPayment := none })).replyInHand l f .reversalTaken (some link.key)).finishJob))) ∧
      (∀ p e, item.place = .log p → s.logAt p = some e →
        (e.kind = .reversal → exec .reverseJob s = .next taken) ∧
        (e.kind = .payment → e.state = .queued → s.persist.full = false →
          ∃ t, exec .reverseJob s = .next t ∧ t.log = s.log.filter (fun x => x.serial ≠ e.serial) ∧
            .removal e.place e.serial (some ⟨l, f.xchg⟩) ∈ t.persist.unwritten ∧
            (t.lane l).recent = (s.lane l).recent.map (fun x =>
              if x.xchg = n then { x with place := .reversed } else x) ∧
            (t.lane l).counter = (s.lane l).counter ∧ t.sendQueue = s.sendQueue ∧ t.exchanges = s.exchanges)))

/-- REVERSE_JOB that must wrap a new reversal (R54, R71, R96, R133): SPENT on a spent lane; live with an entry in
REVERSING where the monitor is UP, the lane's log is empty and an entry is free; to the log behind a SENT payment, and
where it cannot go live; UPSTREAM-FULL where the log is full. REVERSAL-TAKEN goes to the frame's source under the job's
key in the live case and in the log case; the lane counts a reversal sent in the live case alone. -/
def Obligations.NewReversalWrapped : Prop :=
  ∀ (l : LaneId) (f : LaneFrame) (link base : LoadedKey) (n : Nat) (item : RecentItem) (sent : Bool)
    (taken : State → Prop) (s : State),
    verifiedJob s l f link (.reverse base) → f.target = some n →
    (∀ t, taken t ↔ ((s.port .s).carrier = true → (s.port .s).order.length < 240 →
      .till (makeTill f.src s.settings.sStation ((s.lane l).config.till.getD f.till) f.xchg .reversalTaken
        (some link.key)) ∈ (t.port .s).order)) →
    (s.lane l).recent.find? (fun x => x.xchg = n) = some item →
    ((∃ o, item.place = .done o ∧ sent = false) ∨ (∃ p e, item.place = .log p ∧ s.logAt p = some e ∧
      e.kind = .payment ∧ e.state = .sent ∧ e.seq = item.seq ∧ sent = true)) →
    ((s.lane l).counter = 4194304 → exec .reverseJob s = .next
      (((s.tagVerified l f).refuseInJob l f link .spent).finishJob)) ∧
    ((s.lane l).counter ≠ 4194304 →
      (∀ i, sent = false → s.monitor.state = .up → s.logCount l = 0 → s.freeEntry = some i →
        ∃ t, exec .reverseJob s = .next t ∧
          t.exchange i = some ⟨.reversal, .reversing, l, n, s.assignSeq.1, some item.seq, some .till, base.slot,
            base.gen, (s.lane l).counter, none, s.after s.settings.reversalTimeout, false, none, s.nextStamp⟩ ∧
          otherEntries s t i ∧ t.log = s.log ∧ (t.lane l).counter = (s.lane l).counter + 1 ∧
          (t.lane l).recent = (s.lane l).recent.map (fun x =>
            if x.xchg = n then { x with place := .exchange i } else x) ∧
          ((s.port .c).carrier = true → t.sendQueue = s.sendQueue ++ [wrap .reversal .live base.key
            (s.laneIdentity l) (s.lane l).counter s.assignSeq.1 item.seq (reversalBody .till n)]) ∧
          (t.lane l).counters.reversals = satInc Config.count32Max (s.lane l).counters.reversals ∧ taken t ∧
          t.engine.job = none) ∧
      (∀ p x, (sent = true ∨ s.monitor.state ≠ .up ∨ s.logCount l ≠ 0 ∨ s.freeEntry = none) →
        s.freePlace = some p → s.persist.unwritten.length < 4094 → (∀ e ∈ s.log, e.serial < s.nextSerial) →
        x = ⟨p, l, .reversal, .queued, false, s.assignSeq.1, some item.seq, some .till, (s.lane l).counter,
          base.slot, base.gen, none, none, n, 0, wrap .reversal .deferred base.key (s.laneIdentity l)
            (s.lane l).counter s.assignSeq.1 item.seq (reversalBody .till n), s.nextSerial, false⟩ →
        ∃ t, exec .reverseJob s = .next t ∧ t.log = s.log ++ [x] ∧ .append x none 0 ∈ t.persist.unwritten ∧
          t.exchanges = s.exchanges ∧ t.sendQueue = s.sendQueue ∧
          (t.lane l).counter = (s.lane l).counter + 1 ∧
          (t.lane l).counters.reversals = (s.lane l).counters.reversals ∧ taken t ∧
          (t.lane l).recent = (s.lane l).recent.map (fun x =>
            if x.xchg = n then { x with place := .log p } else x) ∧ t.engine.job = none) ∧
      ((sent = true ∨ s.monitor.state ≠ .up ∨ s.logCount l ≠ 0 ∨ s.freeEntry = none) → s.freePlace = none →
        exec .reverseJob s = .next (((s.tagVerified l f).refuseInJob l f link .upstreamFull).finishJob)))

/-! ## Answer, reversal and repeat jobs (R73 to R77) -/

/-- ANSWER_JOB of an envelope that passes every check (R73, R74, R93, R98, R130): a live payment's ANSWER is handed to
its till and its entry freed; an acknowledged reversal's entry is freed with no frame to the till; a drained log
entry is removed with its exchange entry, and DEFERRED-DECLINED raised for a declined one. The recent list follows, and
the envelope is valid for the monitor, which takes it after the settling (the model's choice, log 22) and passes to UP,
at a C-port without carrier too (the model's choice, log 49). -/
def Obligations.AnswerSettled : Prop :=
  ∀ (env : Envelope) (base : LoadedKey) (link : Option LoadedKey) (i : EntryId) (e : Exchange) (key : Key)
    (s : State), answerFor s env (some base) link i e →
    key = Config.transactionKey base.key (s.laneIdentity e.lane) e.counter → envelopePasses s env e key →
    (∀ o, env.kind = .answer → e.kind = .payment → readOutcome (decrypt key env.body) = some o →
      ∃ u, exec .answerJob s = .next ((u.validEnvelope .answer).finishJob) ∧
        u = (((s.sendEarlier e.lane e.xchg (.answer (decrypt key env.body))
          (link.map LoadedKey.key)).countAnswer e.lane).setExchange i none).modLane e.lane (fun r => { r with
            openPayment := none
            recent := r.recent.map (fun x => if x.place = .exchange i then { x with place := .done o } else x) })) ∧
    (env.kind = .reversalAck → e.state = .reversing → e.kind ≠ .logSend →
      exec .answerJob s = .next ((((s.setExchange i none).modLane e.lane (fun r => { r with
        recent := r.recent.map (fun x => if x.place = .exchange i then { x with place := .reversed } else x)
        })).validEnvelope .reversalAck).finishJob)) ∧
    (∀ p x, e.kind = .logSend → e.logRef = some p → s.logAt p = some x → s.persist.full = false →
      (env.kind = .answer → readOutcome (decrypt key env.body) ≠ none) →
      (env.kind = .answer ∨ env.kind = .reversalAck) →
      ∃ t, exec .answerJob s = .next t ∧ t.exchange i = none ∧ otherEntries s t i ∧
        t.log = s.log.filter (fun y => y.serial ≠ x.serial) ∧
        .removal x.place x.serial none ∈ t.persist.unwritten ∧ t.engine.job = none ∧ t.monitor.state = .up ∧
        otherLanes s t x.lane ∧
        (∀ o, env.kind = .answer → readOutcome (decrypt key env.body) = some o →
          t.lane x.lane = { s.lane x.lane with
            recent := (s.lane x.lane).recent.map (fun y =>
              if y.place = .log x.place then { y with place := .done o } else y) } ∧
          (o = .declined → t.events[11] = ⟨true, satInc 255 s.events[11].count⟩ ∧
            exec .answerJob s = .next (((((((s.setExchange i none).unlog x.serial).queueRemoval x none).moveItem x.lane
              (.log x.place) (.done .declined)).raise (.deferredDeclined x.lane x.xchg (x.amount.getD 0)
                x.seq)).validEnvelope .answer).finishJob)) ∧
          (o ≠ .declined → t.events[11] = s.events[11])) ∧
        (env.kind = .reversalAck → t.events[11] = s.events[11] ∧ t.lane x.lane = { s.lane x.lane with
          recent := (s.lane x.lane).recent.map (fun y =>
            if y.place = .log x.place then { y with place := .reversed } else y) }))

/-- ANSWER_JOB of an envelope that settles nothing, or settles its entry unverified (R73, R75, R87): LATE, UNMATCHED, or,
without a base key for its entry, UNMATCHED with the entry freed and REVERSAL-ABANDONED, or with the log entry of a
LOG-SEND entry removed and no event. A verified ANSWER whose body opens with no outcome is counted UNMATCHED, leaves
the entry, and is valid for the monitor. -/
def Obligations.AnswerNotVerified : Prop :=
  ∀ (env : Envelope) (found : Option (EntryId × Nat)) (lane : Option LaneId) (base link : Option LoadedKey)
    (s : State), s.engine.job = some (.answer env found lane base link) →
    (s.isLate env = true → exec .answerJob s = .next s.countLate.finishJob) ∧
    (s.isLate env = false → s.entryOf env.seq = none → exec .answerJob s = .next s.countUnmatched.finishJob) ∧
    (∀ i e, s.isLate env = false → s.entryOf env.seq = some (i, e) →
      (found ≠ some (i, e.stamp) → exec .answerJob s = .next s.countUnmatched.finishJob) ∧
      (∀ k key, found = some (i, e.stamp) → base = some k →
        key = Config.transactionKey k.key (s.laneIdentity e.lane) e.counter → ¬ envelopePasses s env e key →
        exec .answerJob s = .next s.countUnmatched.finishJob) ∧
      (found = some (i, e.stamp) → base = none →
        (e.state = .awaiting → e.kind = .payment →
          ∃ u, exec .answerJob s = .next (((u.sendEarlier e.lane e.xchg .timedOut (u.handKey e.lane)).countTimeout
              e.lane).raise (.reversalAbandoned e.lane (some e.seq))).finishJob ∧
            u = (s.countUnmatched.setExchange i none).modLane e.lane (fun r => { r with
              openPayment := none, recent := r.recent.filter (fun x => x.place ≠ .exchange i) })) ∧
        (e.state = .reversing → e.kind ≠ .logSend →
          exec .answerJob s = .next ((((s.countUnmatched.setExchange i none).modLane e.lane (fun r => { r with
            recent := r.recent.filter (fun x => x.place ≠ .exchange i) })).raise
              (.reversalAbandoned e.lane e.orig)).finishJob)) ∧
        (∀ p x, e.kind = .logSend → e.logRef = some p → s.logAt p = some x → s.persist.full = false →
          ∃ t, exec .answerJob s = .next t ∧ t.exchange i = none ∧ otherEntries s t i ∧
            t.log = s.log.filter (fun y => y.serial ≠ x.serial) ∧
            .removal x.place x.serial none ∈ t.persist.unwritten ∧ otherLanes s t x.lane ∧
            t.lane x.lane = { s.lane x.lane with
              recent := (s.lane x.lane).recent.filter (fun y => y.place ≠ .log x.place) } ∧
            t.device = { s.device with unmatched := satInc Config.count32Max s.device.unmatched } ∧
            t.events = s.events ∧ t.monitor = s.monitor ∧ t.engine.job = none)) ∧
      (∀ k key, found = some (i, e.stamp) → base = some k →
        key = Config.transactionKey k.key (s.laneIdentity e.lane) e.counter → envelopePasses s env e key →
        env.kind = .answer → readOutcome (decrypt key env.body) = none →
        exec .answerJob s = .next ((s.countUnmatched.validEnvelope .answer).finishJob)))

/-- REVERSAL_JOB and REPEAT_JOB (R76, R77, R94, R95): the reversal is abandoned without a base key, on a spent lane, on a
lane FAULTED with cause CEILING at its ceiling, and where the log it needs is full; it is sent live into REVERSING
where the monitor is UP and the lane's log empty; otherwise, and always for a repeat, it moves into the log. -/
def Obligations.ReversalJobsAct : Prop :=
  ∀ (c : Instr) (i : EntryId) (e : Exchange) (l : LaneId) (base : Option LoadedKey) (repeated : Bool) (s : State),
    s.exchange i = some e →
    ((repeated = false ∧ c = .reversalJob ∧ e.state = .reversalDue ∧ s.engine.job = some (.reversal i l base)) ∨
      (repeated = true ∧ c = .repeatJob ∧ e.state = .reversing ∧ s.engine.job = some (.repetition i l base))) →
    ((base = none ∨ (s.lane e.lane).counter = 4194304 ∨
        ((s.lane e.lane).config.state = .faulted .ceiling ∧
          (s.lane e.lane).counter = (s.lane e.lane).config.ceiling) ∨
        ((repeated = true ∨ s.monitor.state ≠ .up ∨ s.logCount e.lane ≠ 0) ∧ s.freePlace = none)) →
      exec c s = .next ((((s.setExchange i none).modLane e.lane (fun r => { r with
        recent := r.recent.filter (fun x => x.place ≠ .exchange i) })).raise
          (.reversalAbandoned e.lane e.orig)).finishJob)) ∧
    (∀ k orig cause, base = some k → e.orig = some orig → e.cause = some cause →
      (s.lane e.lane).counter ≠ 4194304 →
      ((s.lane e.lane).config.state = .faulted .ceiling →
        (s.lane e.lane).counter ≠ (s.lane e.lane).config.ceiling) →
      (repeated = false → s.monitor.state = .up → s.logCount e.lane = 0 →
        ∃ t, exec c s = .next t ∧ t.exchange i = some { e with
            state := .reversing, seq := s.assignSeq.1, base := k.slot, gen := k.gen,
            counter := (s.lane e.lane).counter, deadline := s.after s.settings.reversalTimeout } ∧
          otherEntries s t i ∧ (t.lane e.lane).counter = (s.lane e.lane).counter + 1 ∧
          (t.lane e.lane).counters.reversals = satInc Config.count32Max (s.lane e.lane).counters.reversals ∧
          ((s.port .c).carrier = true → t.sendQueue = s.sendQueue ++ [wrap .reversal .live k.key
            (s.laneIdentity e.lane) (s.lane e.lane).counter s.assignSeq.1 orig (reversalBody cause e.xchg)]) ∧
          t.log = s.log ∧ t.engine.job = none) ∧
      (∀ p x, (repeated = true ∨ s.monitor.state ≠ .up ∨ s.logCount e.lane ≠ 0) → s.freePlace = some p →
        s.persist.unwritten.length < 4094 → (∀ y ∈ s.log, y.serial < s.nextSerial) →
        x = ⟨p, e.lane, .reversal, .queued, false, s.assignSeq.1, some orig, some cause, (s.lane e.lane).counter,
          k.slot, k.gen, none, none, e.xchg, if repeated then 1 else 0,
          wrap .reversal (if repeated then .repeated else .deferred) k.key (s.laneIdentity e.lane)
            (s.lane e.lane).counter s.assignSeq.1 orig (reversalBody cause e.xchg), s.nextSerial, false⟩ →
        ∃ t, exec c s = .next t ∧ t.log = s.log ++ [x] ∧ .append x none 0 ∈ t.persist.unwritten ∧
          t.exchange i = none ∧ otherEntries s t i ∧ t.sendQueue = s.sendQueue ∧
          (t.lane e.lane).counter = (s.lane e.lane).counter + 1 ∧
          (t.lane e.lane).recent = (s.lane e.lane).recent.map (fun y =>
            if y.place = .exchange i then { y with place := .log p } else y) ∧ t.engine.job = none))

/-! ## Deadlines, the drain and the monitor's timer -/

/-- PAYMENT_DEADLINE (R84): at its deadline a PAYMENT in AWAITING enters REVERSAL-DUE with cause TIMEOUT, the lane's open
payment becomes absent, TIMED-OUT is handed, the lane counts it and EXCHANGE-TIMEOUT is raised. In any other state of
the entry, and before its deadline (log 6), nothing changes. -/
def Obligations.PaymentTimesOut : Prop :=
  ∀ (i : EntryId) (s : State),
    (∀ e, s.exchange i = some e → s.phase = .serving → e.deadline ≤ s.clock → e.kind = .payment →
      e.state = .awaiting →
      ∃ u, exec (.paymentDeadline i) s = .next (((u.sendEarlier e.lane e.xchg .timedOut (u.handKey
          e.lane)).countTimeout e.lane).raise (.exchangeTimeout e.lane i e.xchg e.seq)) ∧
        u = (s.setExchange i (some { e with
          state := .reversalDue, orig := some e.seq, cause := some .timeout })).modLane e.lane
            (fun r => { r with openPayment := none })) ∧
    (∀ e, s.exchange i = some e → (e.kind ≠ .payment ∨ e.state ≠ .awaiting ∨ s.clock < e.deadline) →
      exec (.paymentDeadline i) s = .next s) ∧
    (s.exchange i = none → exec (.paymentDeadline i) s = .next s)

/-- REVERSING_DEADLINE (R85): the taking sets the entry's repeat due mark and changes nothing else, which makes the entry
eligible reversal work where its lane's base slot is not held and the lane has a value (R62); where the mark is set
already, and before the deadline (log 6), nothing changes. -/
def Obligations.ReversingDeadlineMarks : Prop :=
  ∀ (i : EntryId) (s : State),
    (∀ e, s.exchange i = some e → s.phase = .serving → e.deadline ≤ s.clock → e.state = .reversing →
      exec (.reversingDeadline i) s = .next (s.setExchange i (some { e with repeatDue := true })) ∧
      (s.heldOpt (s.lane e.lane).config.base = false →
        ((s.lane e.lane).hasValue = true ∨ (s.lane e.lane).config.state = .faulted .ceiling) →
        (s.setExchange i (some { e with repeatDue := true })).reversalEligible { e with repeatDue := true } = true)) ∧
    (∀ e, s.exchange i = some e → (e.state ≠ .reversing ∨ s.clock < e.deadline ∨ e.repeatDue = true) →
      exec (.reversingDeadline i) s = .next s) ∧
    (s.exchange i = none → exec (.reversingDeadline i) s = .next s)

/-- DRAIN_SEND (R97, R127, R128): with the monitor UP, fewer than 8 entries SENT, more than 16 exchange entries free, a
Send Queue place free and the oldest QUEUED entry written, that entry becomes SENT under a new LOG-SEND entry, an
update write is queued and its message placed unchanged; otherwise nothing changes (the model's choice, log 6). No
counter value is taken. The mark by which the first sending of a reversal is told is the model's own (log 19). -/
def Obligations.DrainSendsTheOldest : Prop :=
  (∀ (e : LogEntry) (older younger : List LogEntry) (i : EntryId) (s : State), s.phase = .serving →
    s.log = older ++ e :: younger → (∀ x ∈ older, x.state ≠ .queued) → e.state = .queued → e.written = true →
    (∀ x ∈ older ++ younger, x.serial ≠ e.serial) → s.freeEntry = some i → s.monitor.state = .up → s.logSent < 8 →
    16 < s.freeEntries → s.sendPlaceFree = true → s.persist.full = false →
    ∃ t, exec .drainSend s = .next t ∧
      t.exchange i = some ⟨.logSend, .awaiting, e.lane, e.xchg, e.seq, e.orig, none, e.base, e.gen, e.counter,
        e.cardClass, s.after s.settings.reversalTimeout, false, some e.place, s.nextStamp⟩ ∧ otherEntries s t i ∧
      t.log = older ++ { e with state := .sent, sentBefore := true } :: younger ∧
      .update { e with state := .sent, sentBefore := true } ∈ t.persist.unwritten ∧
      ((s.port .c).carrier = true → t.sendQueue = s.sendQueue ++ [e.message]) ∧
      (∀ l, (t.lane l).counter = (s.lane l).counter ∧ (t.lane l).counters.reversals =
        if l = e.lane ∧ e.kind = .reversal ∧ e.sentBefore = false then
          satInc Config.count32Max (s.lane l).counters.reversals else (s.lane l).counters.reversals) ∧
      t.engine = s.engine ∧ t.answerQueue = s.answerQueue ∧ t.monitor = s.monitor) ∧
  (∀ s : State, (s.phase = .starting ∨ s.monitor.state ≠ .up ∨ 8 ≤ s.logSent ∨ s.freeEntries ≤ 16 ∨
      s.sendPlaceFree = false ∨ (∀ x ∈ s.log, x.state ≠ .queued) ∨
      (∃ older e younger, s.log = older ++ e :: younger ∧ (∀ x ∈ older, x.state ≠ .queued) ∧ e.state = .queued ∧
        e.written = false)) → exec .drainSend s = .next s)

/-- LOG_SEND_DEADLINE (R98, R131): the exchange entry is freed and the log entry's repeat count rises; below 4 it
returns to QUEUED in its place in the order, with an update write; at 4 it is removed and LOG-ENTRY-ABANDONED raised.
Before the deadline nothing changes (the model's choice, log 6). -/
def Obligations.LogSendTimesOut : Prop :=
  ∀ (i : EntryId) (x : Exchange) (p : PlaceId) (e : LogEntry) (s : State), s.exchange i = some x →
    x.kind = .logSend → x.logRef = some p → s.logAt p = some e →
    (s.clock < x.deadline → exec (.logSendDeadline i) s = .next s) ∧
    (s.phase = .serving → x.deadline ≤ s.clock → s.persist.full = false →
      (e.repeatCount < 3 → ∃ t, exec (.logSendDeadline i) s = .next t ∧ t.exchange i = none ∧
        otherEntries s t i ∧ t.lanes = s.lanes ∧
        t.log = s.log.map (fun y => if y.serial = e.serial then { e with
          state := .queued, repeatCount := e.repeatCount + 1 } else y) ∧
        .update { e with state := .queued, repeatCount := e.repeatCount + 1 } ∈ t.persist.unwritten ∧
        chainKept s t ∧ t.ports = s.ports) ∧
      (3 ≤ e.repeatCount → ∃ t, exec (.logSendDeadline i) s = .next t ∧ t.exchange i = none ∧
        otherEntries s t i ∧ t.log = s.log.filter (fun y => y.serial ≠ e.serial) ∧
        .removal e.place e.serial none ∈ t.persist.unwritten ∧
        t.lane e.lane = { s.lane e.lane with
          recent := (s.lane e.lane).recent.filter (fun y => y.place ≠ .log e.place) } ∧
        otherLanes s t e.lane ∧ t.events[13].latched = true ∧ chainKept s t))

/-- PROBE_TIMER (R112, R113, R115): the missed count rises, the monitor passes by the miss limit, a probe of the next
number is placed where a place is free, and the timer restarts; a passage into DOWN raises CHAIN-DOWN. Before its
time, or with the timer stopped, nothing changes (log 6). -/
def Obligations.ProbeTimerExpires : Prop :=
  ∀ s : State,
    (∀ time, s.monitor.timer = some time → s.phase = .serving → time ≤ s.clock → (s.port .c).carrier = true →
      ∃ t, exec .probeTimer s = .next t ∧ t.monitor.timer = some (s.after s.settings.probeInterval) ∧
        (s.monitor.state = .up → t.monitor.missed = 1 ∧
          t.monitor.state = if s.settings.missLimit ≤ 1 then .down else .suspect) ∧
        (s.monitor.state = .suspect → t.monitor.missed = satInc 255 s.monitor.missed ∧
          t.monitor.state = if s.settings.missLimit ≤ satInc 255 s.monitor.missed then .down else .suspect) ∧
        (s.monitor.state = .down → t.monitor.missed = satInc 255 s.monitor.missed ∧ t.monitor.state = .down) ∧
        (s.monitor.state ≠ .down → t.monitor.state = .down → t.events[0].latched = true) ∧
        (s.sendPlaceFree = false → t.sendQueue = s.sendQueue ∧ t.monitor.lastProbe = s.monitor.lastProbe) ∧
        (s.sendPlaceFree = true → t.sendQueue = s.sendQueue ++ [s.probe t.monitor.lastProbe] ∧
          t.monitor.lastProbe = epochNumber s.epoch (if 4194303 ≤ s.monitor.lastProbe.toNat % 4194304 then 1
            else s.monitor.lastProbe.toNat % 4194304 + 1)) ∧
        tablesKept s t ∧ workKept s t ∧ t.answerQueue = s.answerQueue) ∧
    (∀ time, s.monitor.timer = some time → s.clock < time → exec .probeTimer s = .next s) ∧
    (s.monitor.timer = none → exec .probeTimer s = .next s)

/-! ## Scrubbing (chapter 9) -/

/-- SCRUB_STEP (R153 to R156, R159): at its time the scrubber checks the first position from its walk position on that
lies in no GRANTED range, passing over every one that does, and walks on behind it. A clean record changes nothing
else; a soft finding is counted, mended and reported; a hard one is counted, flagged, and reported unless its pair is
suppressed. What has happened to the memories since a check last looked comes in with the step (log 10). Before its
time nothing changes (log 6). -/
def Obligations.ScrubStepChecksTheNext : Prop :=
  ∀ (w : Wear) (q : Position) (s u : State), q = s.walkFrom 145 s.scrub.walk → u = s.applyWear w →
    (∃ k, k < 145 ∧ q = nextPosition^[k] s.scrub.walk ∧
      ∀ j, j < k → s.heldPosition (nextPosition^[j] s.scrub.walk) = true) ∧
    s.heldPosition q = false ∧
    (∀ a : Position, s.heldPosition a = true ↔ a.val < 96 ∧ ∃ p r, grantedRange s p = some r ∧ r.low ≤ a.val ∧
      a.val ≤ r.high) ∧
    ((s.phase = .starting ∨ s.clock < s.scrub.nextStep) → exec (.scrubStep w) s = .next s) ∧
    (s.phase = .serving → s.scrub.nextStep ≤ s.clock →
      (u.upsetAt q = none → exec (.scrubStep w) s = .next { u with scrub := { s.scrub with
        walk := nextPosition q, nextStep := s.clock + s.settings.scrubInterval } }) ∧
      (∀ syn stuck, u.upsetAt q = some (.single syn stuck) →
        ∃ t, exec (.scrubStep w) s = .next t ∧ t.scrub.walk = nextPosition q ∧
          t.scrub.nextStep = s.clock + s.settings.scrubInterval ∧
          (t.scrub.map[q]).soft = satInc 255 (s.scrub.map[q]).soft ∧
          (t.scrub.map[q]).syndrome = some syn ∧
          (t.scrub.map[q]).hard = ((s.scrub.map[q]).hard || stuck) ∧
          (t.scrub.map[q]).uncorrectable = (s.scrub.map[q]).uncorrectable ∧
          (∀ k : Position, k ≠ q → t.scrub.map[k] = s.scrub.map[k]) ∧
          (s.scrub.capture = none → t.scrub.capture = some ⟨q, if stuck then .hard else .soft, some syn, .scrubber,
            s.seconds⟩) ∧
          (∀ x, s.scrub.capture = some x → t.scrub.capture = some x ∧
            t.scrub.missed = satInc 255 s.scrub.missed) ∧
          (stuck = false → (q, .single syn false) ∉ t.upsets ∧ t.events[7].latched = true ∧
            t.scrub.suppress = s.scrub.suppress) ∧
          (stuck = true → (q, syn) ∈ t.scrub.suppress ∧
            ((q, syn) ∈ s.scrub.suppress → t.events = s.events ∧ t.scrub.suppress = s.scrub.suppress) ∧
            ((q, syn) ∉ s.scrub.suppress → t.events[8].latched = true)) ∧
          tablesKept s t ∧ workKept s t ∧ chainKept s t ∧ t.persist = s.persist ∧ t.store = u.store))

/-- SCRUB_STEP on an uncorrectable record, or on one whose second read shows an error past correcting (R34, R43, R153,
R157): a slot becomes FAULTED without its key, and every lane that names it and is neither UNUSED nor FAULTED becomes
FAULTED, with cause LINK-KEY where it is its link slot and BASE-KEY where it is its base slot alone; a slot that was
FAULTED stays so and faults no lane. A lane record's lane becomes FAULTED with cause RECORD, unless it is UNUSED or
FAULTED already (its first cause kept: log 48). Its counter is kept; its ceiling becomes the copy's, and stays as it was
where the copy is bad, or where the counter, or the counter after the take of a job in flight that may wrap (R51), would
exceed the copy's (R52; the model's reading, log 23). The copy is the record the lane was last committed with where that
commit's group has failed, which is the model's reading too (log 23), the one a group still to be written carries, or
the Persistent Store's. The settings block takes the factory settings and PERSIST-FAIL is raised. The flag of
the position is set. -/
def Obligations.ScrubStepFaultsTheOwner : Prop :=
  ∀ (w : Wear) (q : Position) (s u : State), q = s.walkFrom 145 s.scrub.walk → u = s.applyWear w →
    s.phase = .serving → s.scrub.nextStep ≤ s.clock →
    ((∃ stuck, u.upsetAt q = some (.uncorrectable stuck)) ∨ ∃ syn stuck, u.upsetAt q = some (.worsening syn stuck)) →
    ∃ t, exec (.scrubStep w) s = .next t ∧ (t.scrub.map[q]).uncorrectable = true ∧
      t.scrub.walk = nextPosition q ∧ workKept s t ∧ chainKept s t ∧ t.standIn = s.standIn ∧
      (s.scrub.capture = none → t.scrub.capture = some ⟨q, .uncorrectable, none, .scrubber, s.seconds⟩) ∧
      (∀ n, q = slotPosition n → (t.slot n).state = .faulted ∧ (t.slot n).key = none ∧ t.settings = s.settings ∧
        (∀ m, m ≠ n → t.slot m = s.slot m) ∧ (∀ l, (t.lane l).counter = (s.lane l).counter) ∧
        ((s.slot n).state ≠ .faulted → t.events[6].latched = true ∧
          ∀ l, (s.lane l).config.state ≠ .unused → (∀ c, (s.lane l).config.state ≠ .faulted c) →
            ((s.lane l).config.link = some n → (t.lane l).config.state = .faulted .linkKey) ∧
            ((s.lane l).config.link ≠ some n → (s.lane l).config.base = some n →
              (t.lane l).config.state = .faulted .baseKey)) ∧
        ((s.slot n).state = .faulted → t.lanes = s.lanes ∧ t.events = s.events ∧ t.persist = s.persist) ∧
        (∀ l, ((s.lane l).config.state = .unused ∨ (∃ c, (s.lane l).config.state = .faulted c) ∨
          ((s.lane l).config.link ≠ some n ∧ (s.lane l).config.base ≠ some n)) → t.lane l = s.lane l)) ∧
      (∀ l, q = lanePosition l → t.slots = s.slots ∧ t.settings = s.settings ∧ otherLanes s t l ∧
        (t.lane l).counter = (s.lane l).counter ∧
        (∀ c, (s.lane l).lostCommit = some c → u.laneCopy l = some c) ∧
        ((s.lane l).lostCommit = none →
          (∀ before g behind c, s.persist.unwritten = before ++ .group g :: behind → g.laneOf l = some c →
            (∀ w ∈ behind, w.touchesLane l = false) → u.laneCopy l = some c) ∧
          ((∀ w ∈ s.persist.unwritten, w.touchesLane l = false) → u.laneCopy l = u.store.lanes[l].read)) ∧
        (∀ c, u.laneCopy l = some c → (∀ n, c.link = some n → (s.slot n).state ≠ .empty) →
          (∀ n, c.base = some n → (s.slot n).state ≠ .empty) →
          (t.lane l).config.link = c.link ∧ (t.lane l).config.base = c.base ∧ (t.lane l).config.baseGen = c.baseGen) ∧
        (∀ c k wraps, u.laneCopy l = some c → (wraps ↔ ∃ j, s.engine.job = some j ∧ mayWrapFor j l) → k = restoredCeiling c u.store.ceilings[l] →
          ((s.lane l).counter < k → (t.lane l).config.ceiling = k) ∧
          ((s.lane l).counter = k → ¬ wraps → (t.lane l).config.ceiling = k) ∧
          ((s.lane l).counter = k → wraps → (t.lane l).config.ceiling = (s.lane l).config.ceiling) ∧
          (k < (s.lane l).counter → (t.lane l).config.ceiling = (s.lane l).config.ceiling)) ∧
        (u.laneCopy l = none → (t.lane l).config.ceiling = (s.lane l).config.ceiling) ∧
        ((s.lane l).config.state ≠ .unused → (∀ c, (s.lane l).config.state ≠ .faulted c) →
          (t.lane l).config.state = .faulted .record ∧ (t.lane l).mailbox = none ∧ t.events[5].latched = true) ∧
        ((s.lane l).config.state = .unused → (t.lane l).config.state = .unused) ∧
        (∀ c, (s.lane l).config.state = .faulted c → (t.lane l).config.state = .faulted c)) ∧
      (q = settingsPosition → t.settings = factorySettings ∧ t.slots = s.slots ∧ t.lanes = s.lanes ∧
        t.events[16].latched = true)

/-! ## Transmission and carrier (R4, R106 to R108, R112) -/

/-- PORT_FRAME_TRANSMIT and SEND_QUEUE_TRANSMIT (R4, R106 to R108): the oldest frame of the holder that the port
transmits, or takes next, leaves and is counted, an envelope above 1,216 bytes as two frames, and the port, free
again, takes its next frame; with nothing to transmit nothing changes (the model's choice, log 6). A port that is free
takes from the holder that has a frame, and of two from the one it did not take from last, at once (log 13). What
leaves is traced as bytes (log 38), an envelope's with the C-port's station address as source (log 43) and the
gateway's address, a free constant (log 3), as destination. That both segments of an envelope are counted only when it
has left whole is the model's choice (log 14), and that the leaving of a RESTART's reply is marked at its port, the
start being a later step, its reading (log 37). -/
def Obligations.TransmissionFinishes : Prop :=
  (∀ (p : Port) (s : State),
    (∀ h, freePort s p → holdersTurn s p h →
      s.takeNext p = s.setPort p { s.port p with transmitting := some h, lastTaken := h }) ∧
    ((¬ freePort s p ∨ ∀ h, ¬ holdersTurn s p h) → s.takeNext p = s)) ∧
  (∀ (p : Port) (f : OutFrame) (rest : List OutFrame) (s : State),
    ((s.takeNext p).port p).transmitting = some .order → (s.port p).order = f :: rest →
    ∃ t, exec (.portFrameTransmit p) s = .next t ∧ (t.port p).order = rest ∧
      (∃ u : State, t = u.takeNext p ∧ (u.port p).transmitting = none ∧
        (u.port p).lastTaken = ((s.takeNext p).port p).lastTaken) ∧
      (t.port p).counters = { (s.port p).counters with
        framesOut := satInc Config.count32Max (s.port p).counters.framesOut } ∧
      t.wire = s.wire ++ [(p, f.bytes)] ∧ t.port p.opposite = s.port p.opposite ∧
      ((t.ctl p).restart = if f.isRestart then .left else (s.ctl p).restart) ∧
      tablesKept s t ∧ workKept s t ∧ chainKept s t ∧ storeKept s t ∧ historyKept s t) ∧
  (∀ (p : Port) (s : State), ((s.takeNext p).port p).transmitting ≠ some .order →
    exec (.portFrameTransmit p) s = .next s) ∧
  (∀ (e : Envelope) (rest : List Envelope) (s : State),
    ((s.takeNext .c).port .c).transmitting = some .sendQueue → s.sendQueue = e :: rest →
    ∃ t, exec .sendQueueTransmit s = .next t ∧ t.sendQueue = rest ∧
      (∃ u : State, t = u.takeNext .c ∧ (u.port .c).transmitting = none ∧
        (u.port .c).lastTaken = ((s.takeNext .c).port .c).lastTaken) ∧
      (t.port .c).counters = { (s.port .c).counters with framesOut :=
        (satAdd Config.count32Max (s.port .c).counters.framesOut (if 1216 < e.body.length then 2 else 1)) } ∧
      t.wire = s.wire ++ (if 1216 < e.body.length then
          [e.segment 1 2 (e.body.take 1216), e.segment 2 2 (e.body.drop 1216)] else [e.segment 1 1 e.body]).map
        (fun b => (Port.c, ethernetBytes Config.gatewayStation s.settings.cStation Config.chainType b)) ∧
      (t.port .c).order = (s.port .c).order ∧ t.port .s = s.port .s ∧ t.control = s.control ∧ tablesKept s t ∧
      workKept s t ∧ storeKept s t ∧ historyKept s t ∧ t.answerQueue = s.answerQueue ∧ t.monitor = s.monitor) ∧
  (∀ s : State, ((s.takeNext .c).port .c).transmitting ≠ some .sendQueue → exec .sendQueueTransmit s = .next s)

/-- The four carrier rows (R4, R106, R107, R112, R113): a loss discards and counts what waits at the port, and on the
C-port brings the monitor DOWN with its timer stopped; a return only restores carrier, and on the C-port of a part
that serves sends a probe and starts the timer. On the C-port every frame of the order and every frame of the Send
Queue's envelopes is counted as dropped, but for the first segment of an envelope in transmission that has left
already, which is counted in frames out and is on the wire (logs 14 and 38), and the notice of the CHAIN-DOWN that
follows is dropped and counted too. The broadcast of the monitor's fall goes out before CHAIN-DOWN (the model's choice,
log 22), and a monitor that is UP when carrier returns stays UP (the model's choice, log 49). A loss without carrier,
a return with it: nothing (log 6). A pause request outlasts the loss (log 12). -/
def Obligations.CarrierComesAndGoes : Prop :=
  ∀ s : State,
    ((s.port .s).carrier = true → ∃ t, exec .sPortCarrierLost s = .next t ∧ t.port .s = { s.port .s with
        carrier := false, order := [], transmitting := none, counters := { (s.port .s).counters with
          noCarrier := satAdd Config.count32Max (s.port .s).counters.noCarrier (s.port .s).order.length } } ∧
      t.port .c = s.port .c ∧ tablesKept s t ∧ workKept s t ∧ chainKept s t ∧ storeKept s t ∧ historyKept s t) ∧
    ((s.port .s).carrier = false → exec .sPortCarrierLost s = .next s) ∧
    (exec .sPortCarrierReturns s = .next (s.setPort .s { s.port .s with carrier := true })) ∧
    (∀ gone out dropped last, (s.port .c).carrier = true →
      (gone = true ∧ (s.port .c).transmitting = some .sendQueue ∧
          (∃ e rest, s.sendQueue = e :: rest ∧ 1216 < e.body.length) → out = 1) →
      (¬ (gone = true ∧ (s.port .c).transmitting = some .sendQueue ∧
          ∃ e rest, s.sendQueue = e :: rest ∧ 1216 < e.body.length) → out = 0) →
      dropped = satAdd Config.count32Max (satAdd Config.count32Max (s.port .c).counters.noCarrier
        ((s.sendQueue.map (fun e => if 1216 < e.body.length then 2 else 1)).sum - out)) (s.port .c).order.length →
      (s.monitor.state ≠ .down → s.phase = .serving → s.settings.notices[0].enabled = true →
        s.settings.notices[0].destination ≠ .shop → last = satInc Config.count32Max dropped) →
      ((s.monitor.state = .down ∨ s.phase = .starting ∨ s.settings.notices[0].enabled = false ∨
        s.settings.notices[0].destination = .shop) → last = dropped) →
      ∃ t, exec (.cPortCarrierLost gone) s = .next t ∧
      t.port .c = { s.port .c with
        carrier := false
        order := []
        transmitting := none
        counters := { (s.port .c).counters with
          framesOut := satAdd Config.count32Max (s.port .c).counters.framesOut out
          noCarrier := last } } ∧ t.sendQueue = [] ∧
      (out = 0 → t.wire = s.wire) ∧
      (out = 1 → ∀ e rest, s.sendQueue = e :: rest → t.wire = s.wire ++ [(.c, ethernetBytes Config.gatewayStation
        s.settings.cStation Config.chainType (e.segment 1 2 (e.body.take 1216)))]) ∧
      t.monitor = ⟨.down, s.settings.missLimit, none, s.monitor.lastProbe, s.monitor.lastEcho⟩ ∧
      (s.monitor.state ≠ .down → t.events[0].latched = true) ∧
      (s.monitor.state = .down → t.events = s.events ∧ t.port .s = s.port .s) ∧
      (s.monitor.state = .up → (s.port .s).carrier = true → (s.port .s).order.length < 256 →
        ((s.port .s).order ++ [.till (makeTill Config.broadcast s.settings.sStation 0 0 (.chainState .down) none)])
          <+: (t.port .s).order) ∧
      t.answerQueue = s.answerQueue ∧ t.reassembly = s.reassembly ∧ tablesKept s t ∧ workKept s t ∧ storeKept s t) ∧
    (∀ gone, (s.port .c).carrier = false → exec (.cPortCarrierLost gone) s = .next s) ∧
    ((s.port .c).carrier = false → s.phase = .serving → ∃ t, exec .cPortCarrierReturns s = .next t ∧
      (t.port .c).carrier = true ∧ t.monitor.state = s.monitor.state ∧ t.monitor.missed = s.monitor.missed ∧
      t.monitor.timer = some (s.after s.settings.probeInterval) ∧
      (s.sendPlaceFree = true → t.sendQueue = s.sendQueue ++ [s.probe t.monitor.lastProbe]) ∧
      (s.sendPlaceFree = false → t.sendQueue = s.sendQueue) ∧ tablesKept s t ∧ workKept s t ∧ storeKept s t) ∧
    ((s.port .c).carrier = false → s.phase = .starting →
      exec .cPortCarrierReturns s = .next (s.setPort .c { s.port .c with carrier := true })) ∧
    ((s.port .c).carrier = true → exec .cPortCarrierReturns s = .next s)

/-! ## The Persist Queue's reports (R124 to R126, R178 to R181) -/

/-- A write ends (R178 to R181): the next one that waits is begun, a lane-state write with every other field of the lane
record as its present contents stand then; a failed write leaves every record's present contents; a completed one
makes its records' new contents present, all of a commit group's together, and leaves every other record's. A completed
lane-state write that began on a bad record, and so has no whole record to write, leaves it as it was (the model's
reading, log 26). Nothing else of the part changes. -/
def Obligations.WriteEnds : Prop :=
  ∀ (w : Write) (s : State), s.persist.current = some w → storeForm s →
    (∀ r t, t = s.endWrite w r →
      t.persist.current = s.persist.waiting.head? ∧ t.persist.waiting = s.persist.waiting.tail ∧
      (∀ l st, s.persist.waiting.head? = some (.laneState l st) →
        t.persist.image = (t.store.lanes[l].read).map (fun c => { c with state := st })) ∧
      ((∀ l st, s.persist.waiting.head? ≠ some (.laneState l st)) → t.persist.image = none) ∧
      (∀ x, x ∉ recordsOf w → sameRecord s.store t.store x) ∧
      tablesKept s t ∧ workKept s t ∧ chainKept s t ∧ historyKept s t ∧ clocksKept s t ∧ t.ports = s.ports ∧
      t.control = s.control) ∧
    presentKept s.store (s.endWrite w .failed).store ∧
    (∀ g, w = .group g → (g.slots.map Prod.fst).Nodup → (g.lanes.map Prod.fst).Nodup →
      (g.classes.map Prod.fst).Nodup →
      (∀ b, g.settings = some b → (s.endWrite w .completed).store.settings.read = some b) ∧
      (∀ n r, (n, r) ∈ g.slots → (s.endWrite w .completed).store.slots[n].read = some r) ∧
      (∀ l c, (l, c) ∈ g.lanes → (s.endWrite w .completed).store.lanes[l].read = some c) ∧
      (∀ k r, (k, r) ∈ g.classes → (s.endWrite w .completed).store.standIn[k].read = some r)) ∧
    (∀ l base gen target stale, w = .ceiling l base gen target stale →
      (s.endWrite w .completed).store.ceilings[l].read = some (some ⟨base, gen, target⟩)) ∧
    (∀ l st, w = .laneState l st →
      (∀ c, s.persist.image = some c → (s.endWrite w .completed).store.lanes[l].read = some c) ∧
      (s.persist.image = none → (s.endWrite w .completed).store.lanes[l].read = s.store.lanes[l].read)) ∧
    (∀ n r, w = .slotState n r → (s.endWrite w .completed).store.slots[n].read = some r) ∧
    (∀ e src till, w = .append e src till →
      (logGet (s.endWrite w .completed).store.log e.place).read = some (some { e with written := true })) ∧
    (∀ e, w = .update e → (logGet (s.endWrite w .completed).store.log e.place).read = some (some e)) ∧
    (∀ p serial c, w = .removal p serial c →
      (logGet (s.endWrite w .completed).store.log p).read = some none) ∧
    (∀ n, w = .epoch n → (s.endWrite w .completed).store.epoch.read = some n)

/-- COMMIT_GROUP_WRITE, LANE_STATE_WRITE, SLOT_STATE_WRITE, LOG_UPDATE_WRITE, LOG_REMOVAL_WRITE, CEILING_WRITE_DONE and
CEILING_WRITE_FAILED (R52, R53, R126, R132, R180, R181): a completed write ends; a failed one also raises PERSIST-FAIL
with its kind and subject; REVERSAL-TAKEN follows the removal of a cancelled payment either way. A completed ceiling
write makes the lane's ceiling the target, ends its advance and makes the test again; a failed one faults the lane
with cause CEILING; one that a commit has made stale does neither. Where the lane has another base slot or generation
than a completed write carries, its ceiling stands (the model's reading, log 23). The advances directly behind a failed
group that a start would find without their commit are not written (R53), and the lanes stay as they were (R147, R180);
that they leave the queue, and are then no longer pending, is the model's choice (log 20). That a lane whose last commit
the failed group was keeps its record is the model's reading (log 23), as is the subject of a failed group as its tables
(log 36); that the next write begins before the owner is told is its choice (log 21). -/
def Obligations.WritesReported : Prop :=
  (∀ s : State,
    (∀ g, s.persist.current = some (.group g) →
      exec (.commitGroupWrite .completed) s = .next (s.endWrite (.group g) .completed) ∧
      (∀ lost : List LaneId, lost = (g.lanes.map Prod.fst).filter (fun l =>
          (s.persist.waiting.takeWhile Write.isCeiling).any (fun w => w.isCeilingOf l && !s.store.founds w)) →
        ∃ t, exec (.commitGroupWrite .failed) s = .next t ∧
          t = (({ s with
              lanes := t.lanes
              persist := { s.persist with waiting := s.persist.waiting.filter (fun w =>
                lost.all (fun l => !w.isCeilingOf l)) } }.endWrite (.group g) .failed).raise
              (.persistFail .write (some .commitGroup) (some (.tables g.tables)))) ∧
          (∀ l, t.lane l = { s.lane l with
            advancePending := (t.lane l).advancePending
            lostCommit := (t.lane l).lostCommit }) ∧
          (∀ l ∈ lost, (t.lane l).advancePending = false) ∧
          (∀ l, l ∉ lost → (t.lane l).advancePending = (s.lane l).advancePending) ∧
          (∀ l c, g.laneOf l = some c → (s.lane l).lostCommit = none →
            (∀ w ∈ s.persist.waiting, w.touchesLane l = false) → (t.lane l).lostCommit = some c) ∧
          ∀ l, (g.laneOf l = none ∨ (s.lane l).lostCommit ≠ none ∨
            ∃ w ∈ s.persist.waiting, w.touchesLane l = true) → (t.lane l).lostCommit = (s.lane l).lostCommit)) ∧
    (∀ l st, s.persist.current = some (.laneState l st) →
      exec (.laneStateWrite .completed) s = .next (s.endWrite (.laneState l st) .completed) ∧
      exec (.laneStateWrite .failed) s = .next ((s.endWrite (.laneState l st) .failed).raise
        (.persistFail .write (some .laneState) (some (.lane l))))) ∧
    (∀ n x, s.persist.current = some (.slotState n x) →
      exec (.slotStateWrite .completed) s = .next (s.endWrite (.slotState n x) .completed) ∧
      exec (.slotStateWrite .failed) s = .next ((s.endWrite (.slotState n x) .failed).raise
        (.persistFail .write (some .slotState) (some (.slot n))))) ∧
    (∀ e, s.persist.current = some (.update e) →
      exec (.logUpdateWrite .completed) s = .next (s.endWrite (.update e) .completed) ∧
      exec (.logUpdateWrite .failed) s = .next ((s.endWrite (.update e) .failed).raise
        (.persistFail .write (some .update) (some (.logPlace e.place))))) ∧
    (∀ p serial c, s.persist.current = some (.removal p serial c) →
      exec (.logRemovalWrite .completed) s = .next ((s.endWrite (.removal p serial c) .completed).cancelReply c) ∧
      exec (.logRemovalWrite .failed) s = .next (((s.endWrite (.removal p serial c) .failed).raise
        (.persistFail .write (some .removal) (some (.logPlace p)))).cancelReply c))) ∧
  (∀ (t : PersistentStore) (l : LaneId) (base : Option SlotId) (gen : Option Nat) (target : Nat) (stale : Bool),
    (∀ c, t.lanes[l].read = some c → (t.founds (.ceiling l base gen target stale) = true ↔
      c.base = base ∧ c.baseGen = gen ∧ restoredCeiling c t.ceilings[l] ≤ target)) ∧
    (t.lanes[l].read = none → t.founds (.ceiling l base gen target stale) = true)) ∧
  (∀ (l : LaneId) (base : Option SlotId) (gen : Option Nat) (target : Nat) (s : State),
    (s.persist.current = some (.ceiling l base gen target false) →
      exec .ceilingWriteDone s = .next (((s.endWrite (.ceiling l base gen target false) .completed).modLane l
        (fun r => { r with
          config := if r.config.base = base ∧ r.config.baseGen = gen then { r.config with ceiling := target }
            else r.config
          advancePending := false })).advanceTest l) ∧
      exec .ceilingWriteFailed s = .next ((((s.endWrite (.ceiling l base gen target false) .failed).raise
        (.persistFail .write (some .ceiling) (some (.lane l)))).modLane l
          (fun r => { r with advancePending := false })).faultLane l .ceiling)) ∧
    (s.persist.current = some (.ceiling l base gen target true) →
      exec .ceilingWriteDone s = .next (s.endWrite (.ceiling l base gen target true) .completed) ∧
      exec .ceilingWriteFailed s = .next ((s.endWrite (.ceiling l base gen target true) .failed).raise
        (.persistFail .write (some .ceiling) (some (.lane l))))))

/-- APPEND_WRITE_DONE and APPEND_WRITE_FAILED (R124, R125): a completed append sets the entry's written mark, and for a
PAYMENT hands DEFERRED and counts it; a failed one takes the entry out of the log and its item out of the recent
list, and raises PERSIST-FAIL; the PAY is then refused CHAIN-DOWN, or REVERSAL-ABANDONED raised for a reversal. Where
the till has cancelled the payment, its removal write is dropped and REVERSAL-TAKEN follows the refusal. That the
refusal goes to the station that sent the PAY is the model's reading (log 27), and that the next write begins before
the owner is told its choice (log 21). -/
def Obligations.AppendWritesReported : Prop :=
  ∀ (e : LogEntry) (src : Option Mac) (till : Nat) (s u : State),
    s.persist.current = some (.append e src till) →
    (u = s.endWrite (.append e src till) .completed →
      (∀ x, s.logEntry e.serial = some x →
        (e.kind = .payment → exec .appendWriteDone s = .next (((u.relog { x with written := true }).sendEarlier
          e.lane e.xchg .deferred ((u.relog { x with written := true }).handKey e.lane)).countDeferred e.lane)) ∧
        (e.kind = .reversal → exec .appendWriteDone s = .next (u.relog { x with written := true }))) ∧
      (s.logEntry e.serial = none →
        (e.kind = .payment → exec .appendWriteDone s = .next ((u.sendEarlier e.lane e.xchg .deferred
          (u.handKey e.lane)).countDeferred e.lane)) ∧
        (e.kind = .reversal → exec .appendWriteDone s = .next u))) ∧
    (∀ x, s.logEntry e.serial = some x → (∀ w ∈ s.persist.waiting, w.isRemovalOf e.serial = false) →
      u = (((s.endWrite (.append e src till) .failed).unlog e.serial).dropItem e.lane (.log e.place)).raise
        (.persistFail .write (some .append) (some (.logPlace e.place))) →
      (e.kind = .payment → exec .appendWriteFailed s = .next (u.refuseAppend e src till)) ∧
      (e.kind = .reversal → exec .appendWriteFailed s = .next (u.raise (.reversalAbandoned e.lane e.orig)))) ∧
    (∀ before behind q c, s.logEntry e.serial = none → e.kind = .payment →
      s.persist.waiting = before ++ .removal q e.serial (some c) :: behind →
      (∀ w ∈ before ++ behind, w.isRemovalOf e.serial = false) →
      u = (({ s with persist := { s.persist with waiting := before ++ behind } }.endWrite (.append e src till)
        .failed).raise (.persistFail .write (some .append) (some (.logPlace e.place)))) →
      exec .appendWriteFailed s = .next ((u.refuseAppend e src till).cancelReply (some c)))
end

