-- ==== Sys2Proof/Laws/Bytes.lean ====
section
/-! SUPPORT. Bytes and numbers, and the cipher over bytes: reading undoes writing, decrypting undoes encrypting,
unwrapping undoes wrapping. -/

namespace Sys2Proof.Machine

@[simp] theorem length_beBytes (k n : Nat) : (beBytes k n).length = k := by
  induction k generalizing n with
  | zero => rfl
  | succ k ih => simp [beBytes, ih]

theorem beNat_append_byte (b : Bytes) (x : Byte) : beNat (b ++ [x]) = beNat b * 256 + x.toNat := by
  simp [beNat, List.foldl_append]

/-- The number read from `k` bytes is the number written in them, below 256^k. -/
theorem beNat_beBytes (k n : Nat) : beNat (beBytes k n) = n % 256 ^ k := by
  induction k generalizing n with
  | zero => simp [beBytes, beNat, Nat.mod_one]
  | succ k ih =>
    have h : n % 256 ^ (k + 1) = n % 256 + 256 * (n / 256 % 256 ^ k) := by
      rw [Nat.pow_succ, Nat.mul_comm (256 ^ k) 256, Nat.mod_mul]
    rw [beBytes, beNat_append_byte, ih, BitVec.toNat_ofNat, h]
    omega

theorem beNat_beBytes_of_lt {k n : Nat} (h : n < 256 ^ k) : beNat (beBytes k n) = n := by
  rw [beNat_beBytes, Nat.mod_eq_of_lt h]

/-- A 64-bit value read back from its 8 bytes. -/
theorem ofNat_beNat_beBytes8 (x : BitVec 64) : BitVec.ofNat 64 (beNat (beBytes 8 x.toNat)) = x := by
  rw [beNat_beBytes_of_lt (by simpa using x.isLt), BitVec.ofNat_toNat, BitVec.setWidth_eq]

/-- A 32-bit value read back from its 4 bytes. -/
theorem ofNat_beNat_beBytes4 (x : BitVec 32) : BitVec.ofNat 32 (beNat (beBytes 4 x.toNat)) = x := by
  rw [beNat_beBytes_of_lt (by simpa using x.isLt), BitVec.ofNat_toNat, BitVec.setWidth_eq]

/-- A field that stands between two others of known length. -/
theorem field_between (a b c : Bytes) : field (a ++ b ++ c) a.length b.length = some b := by
  simp [field]

theorem field_at {x a b c : Bytes} {o k : Nat} (hx : x = a ++ b ++ c) (ho : a.length = o) (hk : b.length = k) :
    field x o k = some b := by
  subst hx ho hk
  exact field_between a b c

theorem numField_at {x a b c : Bytes} {o k : Nat} (hx : x = a ++ b ++ c) (ho : a.length = o) (hk : b.length = k) :
    numField x o k = some (beNat b) := by
  rw [numField, field_at hx ho hk, Option.map_some]

/-- A field inside the first of two lists. -/
theorem field_append_left {a : Bytes} {o k : Nat} (b : Bytes) (h : o + k ≤ a.length) :
    field (a ++ b) o k = field a o k := by
  simp only [field, List.length_append]
  rw [if_pos (by omega), if_pos h, List.drop_append_of_le_length (by omega), List.take_append_of_le_length]
  simp only [List.length_drop]
  omega

theorem numField_append_left {a : Bytes} {o k : Nat} (b : Bytes) (h : o + k ≤ a.length) :
    numField (a ++ b) o k = numField a o k := by
  rw [numField, field_append_left b h, numField]

/-- A control frame of some fields and a tag reads as those fields and that tag. -/
theorem readControl_append {dst src : Mac} {etype : BitVec 16} {fields : Bytes} {t : Tag} {cls number request : Nat}
    {args : Option Bytes} (hl : 6 ≤ fields.length) (h0 : numField fields 0 1 = some cls)
    (h1 : numField fields 1 4 = some number) (h5 : numField fields 5 1 = some request)
    (ha : (match numField fields 6 2 with
      | some len => if fields.length = 8 + len then field fields 8 len else none
      | none => none) = args) :
    readControl ⟨dst, src, etype, fields ++ beBytes 8 t.toNat⟩ = some ⟨src, cls, BitVec.ofNat 32 number,
      BitVec.ofNat 8 request, args, controlTagInput src fields, t⟩ := by
  have hlen : (fields ++ beBytes 8 t.toNat).length - 8 = fields.length := by simp
  have h8 : numField (fields ++ beBytes 8 t.toNat) fields.length 8 = some (beNat (beBytes 8 t.toNat)) :=
    numField_at (a := fields) (b := beBytes 8 t.toNat) (c := []) (by simp) rfl (by simp)
  subst ha
  simp only [readControl, hlen, h8, numField_append_left _ (show 0 + 1 ≤ fields.length by omega),
    numField_append_left _ (show 1 + 4 ≤ fields.length by omega),
    numField_append_left _ (show 5 + 1 ≤ fields.length by omega), h0, h1, h5, ofNat_beNat_beBytes8,
    List.take_left]
  refine (if_neg ?_).trans rfl
  simp only [List.length_append, length_beBytes]
  omega

/-- An envelope of one segment reads as itself: `hd` is what stands before the body. -/
theorem readEnvelope_append {dst src : Mac} {etype : BitVec 16} {hd body : Bytes} {t : Tag} {kind : EnvelopeKind}
    {origin : Origin} {k identity seq orig counter org index count len : Nat} (hl : hd.length = 26)
    (h0 : numField hd 0 1 = some k) (h1 : numField hd 1 8 = some identity) (h9 : numField hd 9 4 = some seq)
    (h13 : numField hd 13 4 = some orig) (h17 : numField hd 17 4 = some counter) (h21 : numField hd 21 1 = some org)
    (h22 : numField hd 22 1 = some index) (h23 : numField hd 23 1 = some count) (h24 : numField hd 24 2 = some len)
    (hk : readInboundKind k = some kind) (ho : readOrigin org = some origin)
    (hs : segmentSuits kind index count len body.length = true) :
    readEnvelope ⟨dst, src, etype, hd ++ (body ++ beBytes 8 t.toNat)⟩ = some ⟨⟨kind, BitVec.ofNat 64 identity,
      BitVec.ofNat 32 seq, BitVec.ofNat 32 orig, counter, origin, body, t⟩, index, count, len⟩ := by
  have hc : (hd ++ (body ++ beBytes 8 t.toNat)).length - 34 = body.length := by
    simp only [List.length_append, length_beBytes]
    omega
  have hb : field (hd ++ (body ++ beBytes 8 t.toNat)) 26 body.length = some body :=
    field_at (a := hd) (b := body) (c := beBytes 8 t.toNat) (by simp) hl rfl
  have ht : numField (hd ++ (body ++ beBytes 8 t.toNat)) (26 + body.length) 8 = some (beNat (beBytes 8 t.toNat)) :=
    numField_at (a := hd ++ body) (b := beBytes 8 t.toNat) (c := []) (by simp) (by simp [hl]) (by simp)
  have hn : ∀ o j, o + j ≤ 26 → numField (hd ++ (body ++ beBytes 8 t.toNat)) o j = numField hd o j :=
    fun o j h => numField_append_left _ (by omega)
  simp only [readEnvelope, hc, hb, ht, hn 0 1 (by omega), hn 1 8 (by omega), hn 9 4 (by omega), hn 13 4 (by omega),
    hn 17 4 (by omega), hn 21 1 (by omega), hn 22 1 (by omega), hn 23 1 (by omega), hn 24 2 (by omega), h0, h1, h9,
    h13, h17, h21, h22, h23, h24, hk, ho, hs, ofNat_beNat_beBytes8, if_true]
  rw [if_neg (by simp only [List.length_append, length_beBytes]; omega)]

/-! ## The cipher -/

@[simp] theorem length_encrypt (k : Key) (b : Bytes) : (encrypt k b).length = b.length :=
  (Config.cipher k b.length ⟨b, rfl⟩).property

theorem decrypt_cipher (k : Key) (n : Nat) (x : { b : Bytes // b.length = n }) :
    decrypt k (Config.cipher k n x).val = x.val := by
  have hlen : ∀ (m : Nat) (b : Bytes) (h : b.length = m),
      decrypt k b = ((Config.cipher k m).symm ⟨b, h⟩).val := by
    intro m b h
    subst h
    rfl
  rw [hlen n _ (Config.cipher k n x).property]
  exact congrArg Subtype.val ((Config.cipher k n).symm_apply_apply x)

@[simp] theorem decrypt_encrypt (k : Key) (b : Bytes) : decrypt k (encrypt k b) = b :=
  decrypt_cipher k b.length ⟨b, rfl⟩

@[simp] theorem unwrapKey_wrapKey (k key : Key) : unwrapKey k (wrapKey k key) = some key := by
  have h : ∀ (x : BitVec 64) (y : BitVec 128),
      (x ++ y).extractLsb' 128 64 = x ∧ (x ++ y).extractLsb' 0 128 = y := by
    intro x y
    constructor
    · ext i hi
      rw [BitVec.getElem_extractLsb', BitVec.getLsbD_append, if_neg (by omega), Nat.add_sub_cancel_left,
        BitVec.getLsbD_eq_getElem]
    · ext i hi
      rw [BitVec.getElem_extractLsb', BitVec.getLsbD_append, if_pos (by omega), Nat.zero_add,
        BitVec.getLsbD_eq_getElem]
  simp [unwrapKey, wrapKey, (h Config.wrapCheckBlock key).1, (h Config.wrapCheckBlock key).2]

end Sys2Proof.Machine
end

