-- ==== Sys2Proof/Laws/State.lean ====
section
/-! SUPPORT. The small lemmas of State: for each primitive update, the fields it leaves as they were (true by rfl), and
what each table reads after a write of it. -/

namespace Sys2Proof.Machine

/-! ## Reading what was written -/

@[simp] theorem PerPort.at_put_same {α : Type} (x : PerPort α) (p : Port) (a : α) : (x.put p a).at p = a := by
  cases p <;> rfl

@[simp] theorem PerPort.at_put_opposite {α : Type} (x : PerPort α) (p : Port) (a : α) :
    (x.put p a).at p.opposite = x.at p.opposite := by
  cases p <;> rfl

theorem PerPort.at_put_ne {α : Type} (x : PerPort α) (a : α) {p q : Port} (h : q ≠ p) :
    (x.put p a).at q = x.at q := by
  cases p <;> cases q <;> first | rfl | exact absurd rfl h

@[simp] theorem PerPort.put_put {α : Type} (x : PerPort α) (p : Port) (a b : α) : (x.put p a).put p b = x.put p b := by
  cases p <;> rfl

@[simp] theorem PerPort.put_at {α : Type} (x : PerPort α) (p : Port) : x.put p (x.at p) = x := by
  cases p <;> rfl

@[simp] theorem State.port_setPort_same (s : State) (p : Port) (x : PortState) : (s.setPort p x).port p = x :=
  PerPort.at_put_same _ _ _

@[simp] theorem State.port_setPort_opposite (s : State) (p : Port) (x : PortState) :
    (s.setPort p x).port p.opposite = s.port p.opposite := PerPort.at_put_opposite _ _ _

theorem State.port_setPort_ne (s : State) (x : PortState) {p q : Port} (h : q ≠ p) :
    (s.setPort p x).port q = s.port q := PerPort.at_put_ne _ _ h

@[simp] theorem State.ctl_setCtl_same (s : State) (p : Port) (x : ControlState) : (s.setCtl p x).ctl p = x :=
  PerPort.at_put_same _ _ _

@[simp] theorem State.ctl_setCtl_opposite (s : State) (p : Port) (x : ControlState) :
    (s.setCtl p x).ctl p.opposite = s.ctl p.opposite := PerPort.at_put_opposite _ _ _

theorem State.ctl_setCtl_ne (s : State) (x : ControlState) {p q : Port} (h : q ≠ p) :
    (s.setCtl p x).ctl q = s.ctl q := PerPort.at_put_ne _ _ h

@[simp] theorem State.lane_setLane_same (s : State) (l : LaneId) (r : LaneRecord) : (s.setLane l r).lane l = r := by
  simp [State.lane, State.setLane]

theorem State.lane_setLane_ne (s : State) (r : LaneRecord) {k l : LaneId} (h : k ≠ l) :
    (s.setLane l r).lane k = s.lane k := by
  have hv : l.val ≠ k.val := fun e => h (Fin.ext e.symm)
  simp [State.lane, State.setLane, hv]

@[simp] theorem State.lane_modLane_same (s : State) (l : LaneId) (f : LaneRecord → LaneRecord) :
    (s.modLane l f).lane l = f (s.lane l) := State.lane_setLane_same _ _ _

theorem State.lane_modLane_ne (s : State) (f : LaneRecord → LaneRecord) {k l : LaneId} (h : k ≠ l) :
    (s.modLane l f).lane k = s.lane k := State.lane_setLane_ne _ _ h

@[simp] theorem State.slot_setSlot_same (s : State) (n : SlotId) (r : SlotRecord) : (s.setSlot n r).slot n = r := by
  simp [State.slot, State.setSlot]

theorem State.slot_setSlot_ne (s : State) (r : SlotRecord) {m n : SlotId} (h : m ≠ n) :
    (s.setSlot n r).slot m = s.slot m := by
  have hv : n.val ≠ m.val := fun e => h (Fin.ext e.symm)
  simp [State.slot, State.setSlot, hv]

@[simp] theorem State.exchange_setExchange_same (s : State) (i : EntryId) (e : Option Exchange) :
    (s.setExchange i e).exchange i = e := by
  simp [State.exchange, State.setExchange]

theorem State.exchange_setExchange_ne (s : State) (e : Option Exchange) {i j : EntryId} (h : j ≠ i) :
    (s.setExchange i e).exchange j = s.exchange j := by
  have hv : i.val ≠ j.val := fun x => h (Fin.ext x.symm)
  simp [State.exchange, State.setExchange, hv]

@[simp] theorem State.setLane_setLane (s : State) (l : LaneId) (r q : LaneRecord) :
    (s.setLane l r).setLane l q = s.setLane l q := by
  simp [State.setLane]

@[simp] theorem State.modLane_modLane (s : State) (l : LaneId) (f g : LaneRecord → LaneRecord) :
    (s.modLane l f).modLane l g = s.modLane l (fun r => g (f r)) := by
  simp [State.modLane]

@[simp] theorem State.setExchange_setExchange (s : State) (i : EntryId) (d e : Option Exchange) :
    (s.setExchange i d).setExchange i e = s.setExchange i e := by
  simp [State.setExchange]

@[simp] theorem State.setPort_setPort (s : State) (p : Port) (x y : PortState) :
    (s.setPort p x).setPort p y = s.setPort p y := by
  simp [State.setPort]

@[simp] theorem State.setCtl_setCtl (s : State) (p : Port) (x y : ControlState) :
    (s.setCtl p x).setCtl p y = s.setCtl p y := by
  simp [State.setCtl]

@[simp] theorem State.setExchange_exchange (s : State) (i : EntryId) : s.setExchange i (s.exchange i) = s := by
  simp [State.setExchange, State.exchange]

/-! ## Tables read through an accessor after an update of another field -/

@[simp] theorem State.lane_setExchange (s : State) (i : EntryId) (e : Option Exchange) (l : LaneId) :
    (s.setExchange i e).lane l = s.lane l := rfl
@[simp] theorem State.lane_setPort (s : State) (p : Port) (x : PortState) (l : LaneId) :
    (s.setPort p x).lane l = s.lane l := rfl
@[simp] theorem State.lane_setCtl (s : State) (p : Port) (x : ControlState) (l : LaneId) :
    (s.setCtl p x).lane l = s.lane l := rfl
@[simp] theorem State.lane_countPort (s : State) (p : Port) (f : PortCounters → PortCounters) (l : LaneId) :
    (s.countPort p f).lane l = s.lane l := rfl
@[simp] theorem State.lane_setSlot (s : State) (n : SlotId) (r : SlotRecord) (l : LaneId) :
    (s.setSlot n r).lane l = s.lane l := rfl
@[simp] theorem State.exchange_setLane (s : State) (l : LaneId) (r : LaneRecord) (i : EntryId) :
    (s.setLane l r).exchange i = s.exchange i := rfl
@[simp] theorem State.exchange_modLane (s : State) (l : LaneId) (f : LaneRecord → LaneRecord) (i : EntryId) :
    (s.modLane l f).exchange i = s.exchange i := rfl
@[simp] theorem State.port_modLane (s : State) (l : LaneId) (f : LaneRecord → LaneRecord) (p : Port) :
    (s.modLane l f).port p = s.port p := rfl
@[simp] theorem State.port_setLane (s : State) (l : LaneId) (r : LaneRecord) (p : Port) :
    (s.setLane l r).port p = s.port p := rfl
@[simp] theorem State.port_setExchange (s : State) (i : EntryId) (e : Option Exchange) (p : Port) :
    (s.setExchange i e).port p = s.port p := rfl
@[simp] theorem State.port_setCtl (s : State) (p q : Port) (x : ControlState) :
    (s.setCtl p x).port q = s.port q := rfl
@[simp] theorem State.ctl_setPort (s : State) (p q : Port) (x : PortState) : (s.setPort p x).ctl q = s.ctl q := rfl
@[simp] theorem State.ctl_countPort (s : State) (p q : Port) (f : PortCounters → PortCounters) :
    (s.countPort p f).ctl q = s.ctl q := rfl
@[simp] theorem State.ctl_modLane (s : State) (l : LaneId) (f : LaneRecord → LaneRecord) (p : Port) :
    (s.modLane l f).ctl p = s.ctl p := rfl
@[simp] theorem State.slot_modLane (s : State) (l : LaneId) (f : LaneRecord → LaneRecord) (n : SlotId) :
    (s.modLane l f).slot n = s.slot n := rfl
@[simp] theorem State.slot_setPort (s : State) (p : Port) (x : PortState) (n : SlotId) :
    (s.setPort p x).slot n = s.slot n := rfl
@[simp] theorem State.slot_setCtl (s : State) (p : Port) (x : ControlState) (n : SlotId) :
    (s.setCtl p x).slot n = s.slot n := rfl

/-! ## What each primitive update leaves as it was -/

/-! ### setLane -/

@[simp] theorem State.setLane_phase (s : State) (l : LaneId) (r : LaneRecord) : (s.setLane l r).phase = s.phase := rfl
@[simp] theorem State.setLane_startKind (s : State) (l : LaneId) (r : LaneRecord) : (s.setLane l r).startKind = s.startKind := rfl
@[simp] theorem State.setLane_startCount (s : State) (l : LaneId) (r : LaneRecord) : (s.setLane l r).startCount = s.startCount := rfl
@[simp] theorem State.setLane_clock (s : State) (l : LaneId) (r : LaneRecord) : (s.setLane l r).clock = s.clock := rfl
@[simp] theorem State.setLane_servingSince (s : State) (l : LaneId) (r : LaneRecord) : (s.setLane l r).servingSince = s.servingSince := rfl
@[simp] theorem State.setLane_epoch (s : State) (l : LaneId) (r : LaneRecord) : (s.setLane l r).epoch = s.epoch := rfl
@[simp] theorem State.setLane_settings (s : State) (l : LaneId) (r : LaneRecord) : (s.setLane l r).settings = s.settings := rfl
@[simp] theorem State.setLane_standIn (s : State) (l : LaneId) (r : LaneRecord) : (s.setLane l r).standIn = s.standIn := rfl
@[simp] theorem State.setLane_slots (s : State) (l : LaneId) (r : LaneRecord) : (s.setLane l r).slots = s.slots := rfl
@[simp] theorem State.setLane_exchanges (s : State) (l : LaneId) (r : LaneRecord) : (s.setLane l r).exchanges = s.exchanges := rfl
@[simp] theorem State.setLane_engine (s : State) (l : LaneId) (r : LaneRecord) : (s.setLane l r).engine = s.engine := rfl
@[simp] theorem State.setLane_sendQueue (s : State) (l : LaneId) (r : LaneRecord) : (s.setLane l r).sendQueue = s.sendQueue := rfl
@[simp] theorem State.setLane_reassembly (s : State) (l : LaneId) (r : LaneRecord) : (s.setLane l r).reassembly = s.reassembly := rfl
@[simp] theorem State.setLane_answerQueue (s : State) (l : LaneId) (r : LaneRecord) : (s.setLane l r).answerQueue = s.answerQueue := rfl
@[simp] theorem State.setLane_monitor (s : State) (l : LaneId) (r : LaneRecord) : (s.setLane l r).monitor = s.monitor := rfl
@[simp] theorem State.setLane_log (s : State) (l : LaneId) (r : LaneRecord) : (s.setLane l r).log = s.log := rfl
@[simp] theorem State.setLane_scrub (s : State) (l : LaneId) (r : LaneRecord) : (s.setLane l r).scrub = s.scrub := rfl
@[simp] theorem State.setLane_upsets (s : State) (l : LaneId) (r : LaneRecord) : (s.setLane l r).upsets = s.upsets := rfl
@[simp] theorem State.setLane_events (s : State) (l : LaneId) (r : LaneRecord) : (s.setLane l r).events = s.events := rfl
@[simp] theorem State.setLane_device (s : State) (l : LaneId) (r : LaneRecord) : (s.setLane l r).device = s.device := rfl
@[simp] theorem State.setLane_ports (s : State) (l : LaneId) (r : LaneRecord) : (s.setLane l r).ports = s.ports := rfl
@[simp] theorem State.setLane_control (s : State) (l : LaneId) (r : LaneRecord) : (s.setLane l r).control = s.control := rfl
@[simp] theorem State.setLane_store (s : State) (l : LaneId) (r : LaneRecord) : (s.setLane l r).store = s.store := rfl
@[simp] theorem State.setLane_persist (s : State) (l : LaneId) (r : LaneRecord) : (s.setLane l r).persist = s.persist := rfl
@[simp] theorem State.setLane_nextStamp (s : State) (l : LaneId) (r : LaneRecord) : (s.setLane l r).nextStamp = s.nextStamp := rfl
@[simp] theorem State.setLane_nextSerial (s : State) (l : LaneId) (r : LaneRecord) : (s.setLane l r).nextSerial = s.nextSerial := rfl
@[simp] theorem State.setLane_freeCount (s : State) (l : LaneId) (r : LaneRecord) : (s.setLane l r).freeCount = s.freeCount := rfl
@[simp] theorem State.setLane_wire (s : State) (l : LaneId) (r : LaneRecord) : (s.setLane l r).wire = s.wire := rfl
@[simp] theorem State.setLane_pending (s : State) (l : LaneId) (r : LaneRecord) : (s.setLane l r).pending = s.pending := rfl

/-! ### modLane -/

@[simp] theorem State.modLane_phase (s : State) (l : LaneId) (f : LaneRecord → LaneRecord) : (s.modLane l f).phase = s.phase := rfl
@[simp] theorem State.modLane_startKind (s : State) (l : LaneId) (f : LaneRecord → LaneRecord) : (s.modLane l f).startKind = s.startKind := rfl
@[simp] theorem State.modLane_startCount (s : State) (l : LaneId) (f : LaneRecord → LaneRecord) : (s.modLane l f).startCount = s.startCount := rfl
@[simp] theorem State.modLane_clock (s : State) (l : LaneId) (f : LaneRecord → LaneRecord) : (s.modLane l f).clock = s.clock := rfl
@[simp] theorem State.modLane_servingSince (s : State) (l : LaneId) (f : LaneRecord → LaneRecord) : (s.modLane l f).servingSince = s.servingSince := rfl
@[simp] theorem State.modLane_epoch (s : State) (l : LaneId) (f : LaneRecord → LaneRecord) : (s.modLane l f).epoch = s.epoch := rfl
@[simp] theorem State.modLane_settings (s : State) (l : LaneId) (f : LaneRecord → LaneRecord) : (s.modLane l f).settings = s.settings := rfl
@[simp] theorem State.modLane_standIn (s : State) (l : LaneId) (f : LaneRecord → LaneRecord) : (s.modLane l f).standIn = s.standIn := rfl
@[simp] theorem State.modLane_slots (s : State) (l : LaneId) (f : LaneRecord → LaneRecord) : (s.modLane l f).slots = s.slots := rfl
@[simp] theorem State.modLane_exchanges (s : State) (l : LaneId) (f : LaneRecord → LaneRecord) : (s.modLane l f).exchanges = s.exchanges := rfl
@[simp] theorem State.modLane_engine (s : State) (l : LaneId) (f : LaneRecord → LaneRecord) : (s.modLane l f).engine = s.engine := rfl
@[simp] theorem State.modLane_sendQueue (s : State) (l : LaneId) (f : LaneRecord → LaneRecord) : (s.modLane l f).sendQueue = s.sendQueue := rfl
@[simp] theorem State.modLane_reassembly (s : State) (l : LaneId) (f : LaneRecord → LaneRecord) : (s.modLane l f).reassembly = s.reassembly := rfl
@[simp] theorem State.modLane_answerQueue (s : State) (l : LaneId) (f : LaneRecord → LaneRecord) : (s.modLane l f).answerQueue = s.answerQueue := rfl
@[simp] theorem State.modLane_monitor (s : State) (l : LaneId) (f : LaneRecord → LaneRecord) : (s.modLane l f).monitor = s.monitor := rfl
@[simp] theorem State.modLane_log (s : State) (l : LaneId) (f : LaneRecord → LaneRecord) : (s.modLane l f).log = s.log := rfl
@[simp] theorem State.modLane_scrub (s : State) (l : LaneId) (f : LaneRecord → LaneRecord) : (s.modLane l f).scrub = s.scrub := rfl
@[simp] theorem State.modLane_upsets (s : State) (l : LaneId) (f : LaneRecord → LaneRecord) : (s.modLane l f).upsets = s.upsets := rfl
@[simp] theorem State.modLane_events (s : State) (l : LaneId) (f : LaneRecord → LaneRecord) : (s.modLane l f).events = s.events := rfl
@[simp] theorem State.modLane_device (s : State) (l : LaneId) (f : LaneRecord → LaneRecord) : (s.modLane l f).device = s.device := rfl
@[simp] theorem State.modLane_ports (s : State) (l : LaneId) (f : LaneRecord → LaneRecord) : (s.modLane l f).ports = s.ports := rfl
@[simp] theorem State.modLane_control (s : State) (l : LaneId) (f : LaneRecord → LaneRecord) : (s.modLane l f).control = s.control := rfl
@[simp] theorem State.modLane_store (s : State) (l : LaneId) (f : LaneRecord → LaneRecord) : (s.modLane l f).store = s.store := rfl
@[simp] theorem State.modLane_persist (s : State) (l : LaneId) (f : LaneRecord → LaneRecord) : (s.modLane l f).persist = s.persist := rfl
@[simp] theorem State.modLane_nextStamp (s : State) (l : LaneId) (f : LaneRecord → LaneRecord) : (s.modLane l f).nextStamp = s.nextStamp := rfl
@[simp] theorem State.modLane_nextSerial (s : State) (l : LaneId) (f : LaneRecord → LaneRecord) : (s.modLane l f).nextSerial = s.nextSerial := rfl
@[simp] theorem State.modLane_freeCount (s : State) (l : LaneId) (f : LaneRecord → LaneRecord) : (s.modLane l f).freeCount = s.freeCount := rfl
@[simp] theorem State.modLane_wire (s : State) (l : LaneId) (f : LaneRecord → LaneRecord) : (s.modLane l f).wire = s.wire := rfl
@[simp] theorem State.modLane_pending (s : State) (l : LaneId) (f : LaneRecord → LaneRecord) : (s.modLane l f).pending = s.pending := rfl

/-! ### setSlot -/

@[simp] theorem State.setSlot_phase (s : State) (n : SlotId) (r : SlotRecord) : (s.setSlot n r).phase = s.phase := rfl
@[simp] theorem State.setSlot_startKind (s : State) (n : SlotId) (r : SlotRecord) : (s.setSlot n r).startKind = s.startKind := rfl
@[simp] theorem State.setSlot_startCount (s : State) (n : SlotId) (r : SlotRecord) : (s.setSlot n r).startCount = s.startCount := rfl
@[simp] theorem State.setSlot_clock (s : State) (n : SlotId) (r : SlotRecord) : (s.setSlot n r).clock = s.clock := rfl
@[simp] theorem State.setSlot_servingSince (s : State) (n : SlotId) (r : SlotRecord) : (s.setSlot n r).servingSince = s.servingSince := rfl
@[simp] theorem State.setSlot_epoch (s : State) (n : SlotId) (r : SlotRecord) : (s.setSlot n r).epoch = s.epoch := rfl
@[simp] theorem State.setSlot_settings (s : State) (n : SlotId) (r : SlotRecord) : (s.setSlot n r).settings = s.settings := rfl
@[simp] theorem State.setSlot_standIn (s : State) (n : SlotId) (r : SlotRecord) : (s.setSlot n r).standIn = s.standIn := rfl
@[simp] theorem State.setSlot_lanes (s : State) (n : SlotId) (r : SlotRecord) : (s.setSlot n r).lanes = s.lanes := rfl
@[simp] theorem State.setSlot_exchanges (s : State) (n : SlotId) (r : SlotRecord) : (s.setSlot n r).exchanges = s.exchanges := rfl
@[simp] theorem State.setSlot_engine (s : State) (n : SlotId) (r : SlotRecord) : (s.setSlot n r).engine = s.engine := rfl
@[simp] theorem State.setSlot_sendQueue (s : State) (n : SlotId) (r : SlotRecord) : (s.setSlot n r).sendQueue = s.sendQueue := rfl
@[simp] theorem State.setSlot_reassembly (s : State) (n : SlotId) (r : SlotRecord) : (s.setSlot n r).reassembly = s.reassembly := rfl
@[simp] theorem State.setSlot_answerQueue (s : State) (n : SlotId) (r : SlotRecord) : (s.setSlot n r).answerQueue = s.answerQueue := rfl
@[simp] theorem State.setSlot_monitor (s : State) (n : SlotId) (r : SlotRecord) : (s.setSlot n r).monitor = s.monitor := rfl
@[simp] theorem State.setSlot_log (s : State) (n : SlotId) (r : SlotRecord) : (s.setSlot n r).log = s.log := rfl
@[simp] theorem State.setSlot_scrub (s : State) (n : SlotId) (r : SlotRecord) : (s.setSlot n r).scrub = s.scrub := rfl
@[simp] theorem State.setSlot_upsets (s : State) (n : SlotId) (r : SlotRecord) : (s.setSlot n r).upsets = s.upsets := rfl
@[simp] theorem State.setSlot_events (s : State) (n : SlotId) (r : SlotRecord) : (s.setSlot n r).events = s.events := rfl
@[simp] theorem State.setSlot_device (s : State) (n : SlotId) (r : SlotRecord) : (s.setSlot n r).device = s.device := rfl
@[simp] theorem State.setSlot_ports (s : State) (n : SlotId) (r : SlotRecord) : (s.setSlot n r).ports = s.ports := rfl
@[simp] theorem State.setSlot_control (s : State) (n : SlotId) (r : SlotRecord) : (s.setSlot n r).control = s.control := rfl
@[simp] theorem State.setSlot_store (s : State) (n : SlotId) (r : SlotRecord) : (s.setSlot n r).store = s.store := rfl
@[simp] theorem State.setSlot_persist (s : State) (n : SlotId) (r : SlotRecord) : (s.setSlot n r).persist = s.persist := rfl
@[simp] theorem State.setSlot_nextStamp (s : State) (n : SlotId) (r : SlotRecord) : (s.setSlot n r).nextStamp = s.nextStamp := rfl
@[simp] theorem State.setSlot_nextSerial (s : State) (n : SlotId) (r : SlotRecord) : (s.setSlot n r).nextSerial = s.nextSerial := rfl
@[simp] theorem State.setSlot_freeCount (s : State) (n : SlotId) (r : SlotRecord) : (s.setSlot n r).freeCount = s.freeCount := rfl
@[simp] theorem State.setSlot_wire (s : State) (n : SlotId) (r : SlotRecord) : (s.setSlot n r).wire = s.wire := rfl
@[simp] theorem State.setSlot_pending (s : State) (n : SlotId) (r : SlotRecord) : (s.setSlot n r).pending = s.pending := rfl

/-! ### setExchange -/

@[simp] theorem State.setExchange_phase (s : State) (i : EntryId) (e : Option Exchange) : (s.setExchange i e).phase = s.phase := rfl
@[simp] theorem State.setExchange_startKind (s : State) (i : EntryId) (e : Option Exchange) : (s.setExchange i e).startKind = s.startKind := rfl
@[simp] theorem State.setExchange_startCount (s : State) (i : EntryId) (e : Option Exchange) : (s.setExchange i e).startCount = s.startCount := rfl
@[simp] theorem State.setExchange_clock (s : State) (i : EntryId) (e : Option Exchange) : (s.setExchange i e).clock = s.clock := rfl
@[simp] theorem State.setExchange_servingSince (s : State) (i : EntryId) (e : Option Exchange) : (s.setExchange i e).servingSince = s.servingSince := rfl
@[simp] theorem State.setExchange_epoch (s : State) (i : EntryId) (e : Option Exchange) : (s.setExchange i e).epoch = s.epoch := rfl
@[simp] theorem State.setExchange_settings (s : State) (i : EntryId) (e : Option Exchange) : (s.setExchange i e).settings = s.settings := rfl
@[simp] theorem State.setExchange_standIn (s : State) (i : EntryId) (e : Option Exchange) : (s.setExchange i e).standIn = s.standIn := rfl
@[simp] theorem State.setExchange_slots (s : State) (i : EntryId) (e : Option Exchange) : (s.setExchange i e).slots = s.slots := rfl
@[simp] theorem State.setExchange_lanes (s : State) (i : EntryId) (e : Option Exchange) : (s.setExchange i e).lanes = s.lanes := rfl
@[simp] theorem State.setExchange_engine (s : State) (i : EntryId) (e : Option Exchange) : (s.setExchange i e).engine = s.engine := rfl
@[simp] theorem State.setExchange_sendQueue (s : State) (i : EntryId) (e : Option Exchange) : (s.setExchange i e).sendQueue = s.sendQueue := rfl
@[simp] theorem State.setExchange_reassembly (s : State) (i : EntryId) (e : Option Exchange) : (s.setExchange i e).reassembly = s.reassembly := rfl
@[simp] theorem State.setExchange_answerQueue (s : State) (i : EntryId) (e : Option Exchange) : (s.setExchange i e).answerQueue = s.answerQueue := rfl
@[simp] theorem State.setExchange_monitor (s : State) (i : EntryId) (e : Option Exchange) : (s.setExchange i e).monitor = s.monitor := rfl
@[simp] theorem State.setExchange_log (s : State) (i : EntryId) (e : Option Exchange) : (s.setExchange i e).log = s.log := rfl
@[simp] theorem State.setExchange_scrub (s : State) (i : EntryId) (e : Option Exchange) : (s.setExchange i e).scrub = s.scrub := rfl
@[simp] theorem State.setExchange_upsets (s : State) (i : EntryId) (e : Option Exchange) : (s.setExchange i e).upsets = s.upsets := rfl
@[simp] theorem State.setExchange_events (s : State) (i : EntryId) (e : Option Exchange) : (s.setExchange i e).events = s.events := rfl
@[simp] theorem State.setExchange_device (s : State) (i : EntryId) (e : Option Exchange) : (s.setExchange i e).device = s.device := rfl
@[simp] theorem State.setExchange_ports (s : State) (i : EntryId) (e : Option Exchange) : (s.setExchange i e).ports = s.ports := rfl
@[simp] theorem State.setExchange_control (s : State) (i : EntryId) (e : Option Exchange) : (s.setExchange i e).control = s.control := rfl
@[simp] theorem State.setExchange_store (s : State) (i : EntryId) (e : Option Exchange) : (s.setExchange i e).store = s.store := rfl
@[simp] theorem State.setExchange_persist (s : State) (i : EntryId) (e : Option Exchange) : (s.setExchange i e).persist = s.persist := rfl
@[simp] theorem State.setExchange_nextStamp (s : State) (i : EntryId) (e : Option Exchange) : (s.setExchange i e).nextStamp = s.nextStamp := rfl
@[simp] theorem State.setExchange_nextSerial (s : State) (i : EntryId) (e : Option Exchange) : (s.setExchange i e).nextSerial = s.nextSerial := rfl
@[simp] theorem State.setExchange_freeCount (s : State) (i : EntryId) (e : Option Exchange) : (s.setExchange i e).freeCount = s.freeCount := rfl
@[simp] theorem State.setExchange_wire (s : State) (i : EntryId) (e : Option Exchange) : (s.setExchange i e).wire = s.wire := rfl
@[simp] theorem State.setExchange_pending (s : State) (i : EntryId) (e : Option Exchange) : (s.setExchange i e).pending = s.pending := rfl

/-! ### setPort -/

@[simp] theorem State.setPort_phase (s : State) (p : Port) (x : PortState) : (s.setPort p x).phase = s.phase := rfl
@[simp] theorem State.setPort_startKind (s : State) (p : Port) (x : PortState) : (s.setPort p x).startKind = s.startKind := rfl
@[simp] theorem State.setPort_startCount (s : State) (p : Port) (x : PortState) : (s.setPort p x).startCount = s.startCount := rfl
@[simp] theorem State.setPort_clock (s : State) (p : Port) (x : PortState) : (s.setPort p x).clock = s.clock := rfl
@[simp] theorem State.setPort_servingSince (s : State) (p : Port) (x : PortState) : (s.setPort p x).servingSince = s.servingSince := rfl
@[simp] theorem State.setPort_epoch (s : State) (p : Port) (x : PortState) : (s.setPort p x).epoch = s.epoch := rfl
@[simp] theorem State.setPort_settings (s : State) (p : Port) (x : PortState) : (s.setPort p x).settings = s.settings := rfl
@[simp] theorem State.setPort_standIn (s : State) (p : Port) (x : PortState) : (s.setPort p x).standIn = s.standIn := rfl
@[simp] theorem State.setPort_slots (s : State) (p : Port) (x : PortState) : (s.setPort p x).slots = s.slots := rfl
@[simp] theorem State.setPort_lanes (s : State) (p : Port) (x : PortState) : (s.setPort p x).lanes = s.lanes := rfl
@[simp] theorem State.setPort_exchanges (s : State) (p : Port) (x : PortState) : (s.setPort p x).exchanges = s.exchanges := rfl
@[simp] theorem State.setPort_engine (s : State) (p : Port) (x : PortState) : (s.setPort p x).engine = s.engine := rfl
@[simp] theorem State.setPort_sendQueue (s : State) (p : Port) (x : PortState) : (s.setPort p x).sendQueue = s.sendQueue := rfl
@[simp] theorem State.setPort_reassembly (s : State) (p : Port) (x : PortState) : (s.setPort p x).reassembly = s.reassembly := rfl
@[simp] theorem State.setPort_answerQueue (s : State) (p : Port) (x : PortState) : (s.setPort p x).answerQueue = s.answerQueue := rfl
@[simp] theorem State.setPort_monitor (s : State) (p : Port) (x : PortState) : (s.setPort p x).monitor = s.monitor := rfl
@[simp] theorem State.setPort_log (s : State) (p : Port) (x : PortState) : (s.setPort p x).log = s.log := rfl
@[simp] theorem State.setPort_scrub (s : State) (p : Port) (x : PortState) : (s.setPort p x).scrub = s.scrub := rfl
@[simp] theorem State.setPort_upsets (s : State) (p : Port) (x : PortState) : (s.setPort p x).upsets = s.upsets := rfl
@[simp] theorem State.setPort_events (s : State) (p : Port) (x : PortState) : (s.setPort p x).events = s.events := rfl
@[simp] theorem State.setPort_device (s : State) (p : Port) (x : PortState) : (s.setPort p x).device = s.device := rfl
@[simp] theorem State.setPort_control (s : State) (p : Port) (x : PortState) : (s.setPort p x).control = s.control := rfl
@[simp] theorem State.setPort_store (s : State) (p : Port) (x : PortState) : (s.setPort p x).store = s.store := rfl
@[simp] theorem State.setPort_persist (s : State) (p : Port) (x : PortState) : (s.setPort p x).persist = s.persist := rfl
@[simp] theorem State.setPort_nextStamp (s : State) (p : Port) (x : PortState) : (s.setPort p x).nextStamp = s.nextStamp := rfl
@[simp] theorem State.setPort_nextSerial (s : State) (p : Port) (x : PortState) : (s.setPort p x).nextSerial = s.nextSerial := rfl
@[simp] theorem State.setPort_freeCount (s : State) (p : Port) (x : PortState) : (s.setPort p x).freeCount = s.freeCount := rfl
@[simp] theorem State.setPort_wire (s : State) (p : Port) (x : PortState) : (s.setPort p x).wire = s.wire := rfl
@[simp] theorem State.setPort_pending (s : State) (p : Port) (x : PortState) : (s.setPort p x).pending = s.pending := rfl

/-! ### countPort -/

@[simp] theorem State.countPort_phase (s : State) (p : Port) (f : PortCounters → PortCounters) : (s.countPort p f).phase = s.phase := rfl
@[simp] theorem State.countPort_startKind (s : State) (p : Port) (f : PortCounters → PortCounters) : (s.countPort p f).startKind = s.startKind := rfl
@[simp] theorem State.countPort_startCount (s : State) (p : Port) (f : PortCounters → PortCounters) : (s.countPort p f).startCount = s.startCount := rfl
@[simp] theorem State.countPort_clock (s : State) (p : Port) (f : PortCounters → PortCounters) : (s.countPort p f).clock = s.clock := rfl
@[simp] theorem State.countPort_servingSince (s : State) (p : Port) (f : PortCounters → PortCounters) : (s.countPort p f).servingSince = s.servingSince := rfl
@[simp] theorem State.countPort_epoch (s : State) (p : Port) (f : PortCounters → PortCounters) : (s.countPort p f).epoch = s.epoch := rfl
@[simp] theorem State.countPort_settings (s : State) (p : Port) (f : PortCounters → PortCounters) : (s.countPort p f).settings = s.settings := rfl
@[simp] theorem State.countPort_standIn (s : State) (p : Port) (f : PortCounters → PortCounters) : (s.countPort p f).standIn = s.standIn := rfl
@[simp] theorem State.countPort_slots (s : State) (p : Port) (f : PortCounters → PortCounters) : (s.countPort p f).slots = s.slots := rfl
@[simp] theorem State.countPort_lanes (s : State) (p : Port) (f : PortCounters → PortCounters) : (s.countPort p f).lanes = s.lanes := rfl
@[simp] theorem State.countPort_exchanges (s : State) (p : Port) (f : PortCounters → PortCounters) : (s.countPort p f).exchanges = s.exchanges := rfl
@[simp] theorem State.countPort_engine (s : State) (p : Port) (f : PortCounters → PortCounters) : (s.countPort p f).engine = s.engine := rfl
@[simp] theorem State.countPort_sendQueue (s : State) (p : Port) (f : PortCounters → PortCounters) : (s.countPort p f).sendQueue = s.sendQueue := rfl
@[simp] theorem State.countPort_reassembly (s : State) (p : Port) (f : PortCounters → PortCounters) : (s.countPort p f).reassembly = s.reassembly := rfl
@[simp] theorem State.countPort_answerQueue (s : State) (p : Port) (f : PortCounters → PortCounters) : (s.countPort p f).answerQueue = s.answerQueue := rfl
@[simp] theorem State.countPort_monitor (s : State) (p : Port) (f : PortCounters → PortCounters) : (s.countPort p f).monitor = s.monitor := rfl
@[simp] theorem State.countPort_log (s : State) (p : Port) (f : PortCounters → PortCounters) : (s.countPort p f).log = s.log := rfl
@[simp] theorem State.countPort_scrub (s : State) (p : Port) (f : PortCounters → PortCounters) : (s.countPort p f).scrub = s.scrub := rfl
@[simp] theorem State.countPort_upsets (s : State) (p : Port) (f : PortCounters → PortCounters) : (s.countPort p f).upsets = s.upsets := rfl
@[simp] theorem State.countPort_events (s : State) (p : Port) (f : PortCounters → PortCounters) : (s.countPort p f).events = s.events := rfl
@[simp] theorem State.countPort_device (s : State) (p : Port) (f : PortCounters → PortCounters) : (s.countPort p f).device = s.device := rfl
@[simp] theorem State.countPort_control (s : State) (p : Port) (f : PortCounters → PortCounters) : (s.countPort p f).control = s.control := rfl
@[simp] theorem State.countPort_store (s : State) (p : Port) (f : PortCounters → PortCounters) : (s.countPort p f).store = s.store := rfl
@[simp] theorem State.countPort_persist (s : State) (p : Port) (f : PortCounters → PortCounters) : (s.countPort p f).persist = s.persist := rfl
@[simp] theorem State.countPort_nextStamp (s : State) (p : Port) (f : PortCounters → PortCounters) : (s.countPort p f).nextStamp = s.nextStamp := rfl
@[simp] theorem State.countPort_nextSerial (s : State) (p : Port) (f : PortCounters → PortCounters) : (s.countPort p f).nextSerial = s.nextSerial := rfl
@[simp] theorem State.countPort_freeCount (s : State) (p : Port) (f : PortCounters → PortCounters) : (s.countPort p f).freeCount = s.freeCount := rfl
@[simp] theorem State.countPort_wire (s : State) (p : Port) (f : PortCounters → PortCounters) : (s.countPort p f).wire = s.wire := rfl
@[simp] theorem State.countPort_pending (s : State) (p : Port) (f : PortCounters → PortCounters) : (s.countPort p f).pending = s.pending := rfl

/-! ### setCtl -/

@[simp] theorem State.setCtl_phase (s : State) (p : Port) (x : ControlState) : (s.setCtl p x).phase = s.phase := rfl
@[simp] theorem State.setCtl_startKind (s : State) (p : Port) (x : ControlState) : (s.setCtl p x).startKind = s.startKind := rfl
@[simp] theorem State.setCtl_startCount (s : State) (p : Port) (x : ControlState) : (s.setCtl p x).startCount = s.startCount := rfl
@[simp] theorem State.setCtl_clock (s : State) (p : Port) (x : ControlState) : (s.setCtl p x).clock = s.clock := rfl
@[simp] theorem State.setCtl_servingSince (s : State) (p : Port) (x : ControlState) : (s.setCtl p x).servingSince = s.servingSince := rfl
@[simp] theorem State.setCtl_epoch (s : State) (p : Port) (x : ControlState) : (s.setCtl p x).epoch = s.epoch := rfl
@[simp] theorem State.setCtl_settings (s : State) (p : Port) (x : ControlState) : (s.setCtl p x).settings = s.settings := rfl
@[simp] theorem State.setCtl_standIn (s : State) (p : Port) (x : ControlState) : (s.setCtl p x).standIn = s.standIn := rfl
@[simp] theorem State.setCtl_slots (s : State) (p : Port) (x : ControlState) : (s.setCtl p x).slots = s.slots := rfl
@[simp] theorem State.setCtl_lanes (s : State) (p : Port) (x : ControlState) : (s.setCtl p x).lanes = s.lanes := rfl
@[simp] theorem State.setCtl_exchanges (s : State) (p : Port) (x : ControlState) : (s.setCtl p x).exchanges = s.exchanges := rfl
@[simp] theorem State.setCtl_engine (s : State) (p : Port) (x : ControlState) : (s.setCtl p x).engine = s.engine := rfl
@[simp] theorem State.setCtl_sendQueue (s : State) (p : Port) (x : ControlState) : (s.setCtl p x).sendQueue = s.sendQueue := rfl
@[simp] theorem State.setCtl_reassembly (s : State) (p : Port) (x : ControlState) : (s.setCtl p x).reassembly = s.reassembly := rfl
@[simp] theorem State.setCtl_answerQueue (s : State) (p : Port) (x : ControlState) : (s.setCtl p x).answerQueue = s.answerQueue := rfl
@[simp] theorem State.setCtl_monitor (s : State) (p : Port) (x : ControlState) : (s.setCtl p x).monitor = s.monitor := rfl
@[simp] theorem State.setCtl_log (s : State) (p : Port) (x : ControlState) : (s.setCtl p x).log = s.log := rfl
@[simp] theorem State.setCtl_scrub (s : State) (p : Port) (x : ControlState) : (s.setCtl p x).scrub = s.scrub := rfl
@[simp] theorem State.setCtl_upsets (s : State) (p : Port) (x : ControlState) : (s.setCtl p x).upsets = s.upsets := rfl
@[simp] theorem State.setCtl_events (s : State) (p : Port) (x : ControlState) : (s.setCtl p x).events = s.events := rfl
@[simp] theorem State.setCtl_device (s : State) (p : Port) (x : ControlState) : (s.setCtl p x).device = s.device := rfl
@[simp] theorem State.setCtl_ports (s : State) (p : Port) (x : ControlState) : (s.setCtl p x).ports = s.ports := rfl
@[simp] theorem State.setCtl_store (s : State) (p : Port) (x : ControlState) : (s.setCtl p x).store = s.store := rfl
@[simp] theorem State.setCtl_persist (s : State) (p : Port) (x : ControlState) : (s.setCtl p x).persist = s.persist := rfl
@[simp] theorem State.setCtl_nextStamp (s : State) (p : Port) (x : ControlState) : (s.setCtl p x).nextStamp = s.nextStamp := rfl
@[simp] theorem State.setCtl_nextSerial (s : State) (p : Port) (x : ControlState) : (s.setCtl p x).nextSerial = s.nextSerial := rfl
@[simp] theorem State.setCtl_freeCount (s : State) (p : Port) (x : ControlState) : (s.setCtl p x).freeCount = s.freeCount := rfl
@[simp] theorem State.setCtl_wire (s : State) (p : Port) (x : ControlState) : (s.setCtl p x).wire = s.wire := rfl
@[simp] theorem State.setCtl_pending (s : State) (p : Port) (x : ControlState) : (s.setCtl p x).pending = s.pending := rfl

/-! ### emptySet -/

@[simp] theorem State.emptySet_phase (s : State) (p : Port) : (s.emptySet p).phase = s.phase := rfl
@[simp] theorem State.emptySet_startKind (s : State) (p : Port) : (s.emptySet p).startKind = s.startKind := rfl
@[simp] theorem State.emptySet_startCount (s : State) (p : Port) : (s.emptySet p).startCount = s.startCount := rfl
@[simp] theorem State.emptySet_clock (s : State) (p : Port) : (s.emptySet p).clock = s.clock := rfl
@[simp] theorem State.emptySet_servingSince (s : State) (p : Port) : (s.emptySet p).servingSince = s.servingSince := rfl
@[simp] theorem State.emptySet_epoch (s : State) (p : Port) : (s.emptySet p).epoch = s.epoch := rfl
@[simp] theorem State.emptySet_settings (s : State) (p : Port) : (s.emptySet p).settings = s.settings := rfl
@[simp] theorem State.emptySet_standIn (s : State) (p : Port) : (s.emptySet p).standIn = s.standIn := rfl
@[simp] theorem State.emptySet_slots (s : State) (p : Port) : (s.emptySet p).slots = s.slots := rfl
@[simp] theorem State.emptySet_lanes (s : State) (p : Port) : (s.emptySet p).lanes = s.lanes := rfl
@[simp] theorem State.emptySet_exchanges (s : State) (p : Port) : (s.emptySet p).exchanges = s.exchanges := rfl
@[simp] theorem State.emptySet_engine (s : State) (p : Port) : (s.emptySet p).engine = s.engine := rfl
@[simp] theorem State.emptySet_sendQueue (s : State) (p : Port) : (s.emptySet p).sendQueue = s.sendQueue := rfl
@[simp] theorem State.emptySet_reassembly (s : State) (p : Port) : (s.emptySet p).reassembly = s.reassembly := rfl
@[simp] theorem State.emptySet_answerQueue (s : State) (p : Port) : (s.emptySet p).answerQueue = s.answerQueue := rfl
@[simp] theorem State.emptySet_monitor (s : State) (p : Port) : (s.emptySet p).monitor = s.monitor := rfl
@[simp] theorem State.emptySet_log (s : State) (p : Port) : (s.emptySet p).log = s.log := rfl
@[simp] theorem State.emptySet_scrub (s : State) (p : Port) : (s.emptySet p).scrub = s.scrub := rfl
@[simp] theorem State.emptySet_upsets (s : State) (p : Port) : (s.emptySet p).upsets = s.upsets := rfl
@[simp] theorem State.emptySet_events (s : State) (p : Port) : (s.emptySet p).events = s.events := rfl
@[simp] theorem State.emptySet_device (s : State) (p : Port) : (s.emptySet p).device = s.device := rfl
@[simp] theorem State.emptySet_ports (s : State) (p : Port) : (s.emptySet p).ports = s.ports := rfl
@[simp] theorem State.emptySet_store (s : State) (p : Port) : (s.emptySet p).store = s.store := rfl
@[simp] theorem State.emptySet_persist (s : State) (p : Port) : (s.emptySet p).persist = s.persist := rfl
@[simp] theorem State.emptySet_nextStamp (s : State) (p : Port) : (s.emptySet p).nextStamp = s.nextStamp := rfl
@[simp] theorem State.emptySet_nextSerial (s : State) (p : Port) : (s.emptySet p).nextSerial = s.nextSerial := rfl
@[simp] theorem State.emptySet_freeCount (s : State) (p : Port) : (s.emptySet p).freeCount = s.freeCount := rfl
@[simp] theorem State.emptySet_wire (s : State) (p : Port) : (s.emptySet p).wire = s.wire := rfl
@[simp] theorem State.emptySet_pending (s : State) (p : Port) : (s.emptySet p).pending = s.pending := rfl

/-! ### setMonitor -/

@[simp] theorem State.setMonitor_phase (s : State) (m : Monitor) : (s.setMonitor m).phase = s.phase := rfl
@[simp] theorem State.setMonitor_startKind (s : State) (m : Monitor) : (s.setMonitor m).startKind = s.startKind := rfl
@[simp] theorem State.setMonitor_startCount (s : State) (m : Monitor) : (s.setMonitor m).startCount = s.startCount := rfl
@[simp] theorem State.setMonitor_clock (s : State) (m : Monitor) : (s.setMonitor m).clock = s.clock := rfl
@[simp] theorem State.setMonitor_servingSince (s : State) (m : Monitor) : (s.setMonitor m).servingSince = s.servingSince := rfl
@[simp] theorem State.setMonitor_epoch (s : State) (m : Monitor) : (s.setMonitor m).epoch = s.epoch := rfl
@[simp] theorem State.setMonitor_settings (s : State) (m : Monitor) : (s.setMonitor m).settings = s.settings := rfl
@[simp] theorem State.setMonitor_standIn (s : State) (m : Monitor) : (s.setMonitor m).standIn = s.standIn := rfl
@[simp] theorem State.setMonitor_slots (s : State) (m : Monitor) : (s.setMonitor m).slots = s.slots := rfl
@[simp] theorem State.setMonitor_lanes (s : State) (m : Monitor) : (s.setMonitor m).lanes = s.lanes := rfl
@[simp] theorem State.setMonitor_exchanges (s : State) (m : Monitor) : (s.setMonitor m).exchanges = s.exchanges := rfl
@[simp] theorem State.setMonitor_engine (s : State) (m : Monitor) : (s.setMonitor m).engine = s.engine := rfl
@[simp] theorem State.setMonitor_sendQueue (s : State) (m : Monitor) : (s.setMonitor m).sendQueue = s.sendQueue := rfl
@[simp] theorem State.setMonitor_reassembly (s : State) (m : Monitor) : (s.setMonitor m).reassembly = s.reassembly := rfl
@[simp] theorem State.setMonitor_answerQueue (s : State) (m : Monitor) : (s.setMonitor m).answerQueue = s.answerQueue := rfl
@[simp] theorem State.setMonitor_log (s : State) (m : Monitor) : (s.setMonitor m).log = s.log := rfl
@[simp] theorem State.setMonitor_scrub (s : State) (m : Monitor) : (s.setMonitor m).scrub = s.scrub := rfl
@[simp] theorem State.setMonitor_upsets (s : State) (m : Monitor) : (s.setMonitor m).upsets = s.upsets := rfl
@[simp] theorem State.setMonitor_events (s : State) (m : Monitor) : (s.setMonitor m).events = s.events := rfl
@[simp] theorem State.setMonitor_device (s : State) (m : Monitor) : (s.setMonitor m).device = s.device := rfl
@[simp] theorem State.setMonitor_ports (s : State) (m : Monitor) : (s.setMonitor m).ports = s.ports := rfl
@[simp] theorem State.setMonitor_control (s : State) (m : Monitor) : (s.setMonitor m).control = s.control := rfl
@[simp] theorem State.setMonitor_store (s : State) (m : Monitor) : (s.setMonitor m).store = s.store := rfl
@[simp] theorem State.setMonitor_persist (s : State) (m : Monitor) : (s.setMonitor m).persist = s.persist := rfl
@[simp] theorem State.setMonitor_nextStamp (s : State) (m : Monitor) : (s.setMonitor m).nextStamp = s.nextStamp := rfl
@[simp] theorem State.setMonitor_nextSerial (s : State) (m : Monitor) : (s.setMonitor m).nextSerial = s.nextSerial := rfl
@[simp] theorem State.setMonitor_freeCount (s : State) (m : Monitor) : (s.setMonitor m).freeCount = s.freeCount := rfl
@[simp] theorem State.setMonitor_wire (s : State) (m : Monitor) : (s.setMonitor m).wire = s.wire := rfl
@[simp] theorem State.setMonitor_pending (s : State) (m : Monitor) : (s.setMonitor m).pending = s.pending := rfl

/-! ### setBuffer -/

@[simp] theorem State.setBuffer_phase (s : State) (b : BufferId) (h : Option HeldSegment) : (s.setBuffer b h).phase = s.phase := rfl
@[simp] theorem State.setBuffer_startKind (s : State) (b : BufferId) (h : Option HeldSegment) : (s.setBuffer b h).startKind = s.startKind := rfl
@[simp] theorem State.setBuffer_startCount (s : State) (b : BufferId) (h : Option HeldSegment) : (s.setBuffer b h).startCount = s.startCount := rfl
@[simp] theorem State.setBuffer_clock (s : State) (b : BufferId) (h : Option HeldSegment) : (s.setBuffer b h).clock = s.clock := rfl
@[simp] theorem State.setBuffer_servingSince (s : State) (b : BufferId) (h : Option HeldSegment) : (s.setBuffer b h).servingSince = s.servingSince := rfl
@[simp] theorem State.setBuffer_epoch (s : State) (b : BufferId) (h : Option HeldSegment) : (s.setBuffer b h).epoch = s.epoch := rfl
@[simp] theorem State.setBuffer_settings (s : State) (b : BufferId) (h : Option HeldSegment) : (s.setBuffer b h).settings = s.settings := rfl
@[simp] theorem State.setBuffer_standIn (s : State) (b : BufferId) (h : Option HeldSegment) : (s.setBuffer b h).standIn = s.standIn := rfl
@[simp] theorem State.setBuffer_slots (s : State) (b : BufferId) (h : Option HeldSegment) : (s.setBuffer b h).slots = s.slots := rfl
@[simp] theorem State.setBuffer_lanes (s : State) (b : BufferId) (h : Option HeldSegment) : (s.setBuffer b h).lanes = s.lanes := rfl
@[simp] theorem State.setBuffer_exchanges (s : State) (b : BufferId) (h : Option HeldSegment) : (s.setBuffer b h).exchanges = s.exchanges := rfl
@[simp] theorem State.setBuffer_engine (s : State) (b : BufferId) (h : Option HeldSegment) : (s.setBuffer b h).engine = s.engine := rfl
@[simp] theorem State.setBuffer_sendQueue (s : State) (b : BufferId) (h : Option HeldSegment) : (s.setBuffer b h).sendQueue = s.sendQueue := rfl
@[simp] theorem State.setBuffer_answerQueue (s : State) (b : BufferId) (h : Option HeldSegment) : (s.setBuffer b h).answerQueue = s.answerQueue := rfl
@[simp] theorem State.setBuffer_monitor (s : State) (b : BufferId) (h : Option HeldSegment) : (s.setBuffer b h).monitor = s.monitor := rfl
@[simp] theorem State.setBuffer_log (s : State) (b : BufferId) (h : Option HeldSegment) : (s.setBuffer b h).log = s.log := rfl
@[simp] theorem State.setBuffer_scrub (s : State) (b : BufferId) (h : Option HeldSegment) : (s.setBuffer b h).scrub = s.scrub := rfl
@[simp] theorem State.setBuffer_upsets (s : State) (b : BufferId) (h : Option HeldSegment) : (s.setBuffer b h).upsets = s.upsets := rfl
@[simp] theorem State.setBuffer_events (s : State) (b : BufferId) (h : Option HeldSegment) : (s.setBuffer b h).events = s.events := rfl
@[simp] theorem State.setBuffer_device (s : State) (b : BufferId) (h : Option HeldSegment) : (s.setBuffer b h).device = s.device := rfl
@[simp] theorem State.setBuffer_ports (s : State) (b : BufferId) (h : Option HeldSegment) : (s.setBuffer b h).ports = s.ports := rfl
@[simp] theorem State.setBuffer_control (s : State) (b : BufferId) (h : Option HeldSegment) : (s.setBuffer b h).control = s.control := rfl
@[simp] theorem State.setBuffer_store (s : State) (b : BufferId) (h : Option HeldSegment) : (s.setBuffer b h).store = s.store := rfl
@[simp] theorem State.setBuffer_persist (s : State) (b : BufferId) (h : Option HeldSegment) : (s.setBuffer b h).persist = s.persist := rfl
@[simp] theorem State.setBuffer_nextStamp (s : State) (b : BufferId) (h : Option HeldSegment) : (s.setBuffer b h).nextStamp = s.nextStamp := rfl
@[simp] theorem State.setBuffer_nextSerial (s : State) (b : BufferId) (h : Option HeldSegment) : (s.setBuffer b h).nextSerial = s.nextSerial := rfl
@[simp] theorem State.setBuffer_freeCount (s : State) (b : BufferId) (h : Option HeldSegment) : (s.setBuffer b h).freeCount = s.freeCount := rfl
@[simp] theorem State.setBuffer_wire (s : State) (b : BufferId) (h : Option HeldSegment) : (s.setBuffer b h).wire = s.wire := rfl
@[simp] theorem State.setBuffer_pending (s : State) (b : BufferId) (h : Option HeldSegment) : (s.setBuffer b h).pending = s.pending := rfl

/-! ### startJob -/

@[simp] theorem State.startJob_phase (s : State) (j : Job) : (s.startJob j).phase = s.phase := rfl
@[simp] theorem State.startJob_startKind (s : State) (j : Job) : (s.startJob j).startKind = s.startKind := rfl
@[simp] theorem State.startJob_startCount (s : State) (j : Job) : (s.startJob j).startCount = s.startCount := rfl
@[simp] theorem State.startJob_clock (s : State) (j : Job) : (s.startJob j).clock = s.clock := rfl
@[simp] theorem State.startJob_servingSince (s : State) (j : Job) : (s.startJob j).servingSince = s.servingSince := rfl
@[simp] theorem State.startJob_epoch (s : State) (j : Job) : (s.startJob j).epoch = s.epoch := rfl
@[simp] theorem State.startJob_settings (s : State) (j : Job) : (s.startJob j).settings = s.settings := rfl
@[simp] theorem State.startJob_standIn (s : State) (j : Job) : (s.startJob j).standIn = s.standIn := rfl
@[simp] theorem State.startJob_slots (s : State) (j : Job) : (s.startJob j).slots = s.slots := rfl
@[simp] theorem State.startJob_lanes (s : State) (j : Job) : (s.startJob j).lanes = s.lanes := rfl
@[simp] theorem State.startJob_exchanges (s : State) (j : Job) : (s.startJob j).exchanges = s.exchanges := rfl
@[simp] theorem State.startJob_sendQueue (s : State) (j : Job) : (s.startJob j).sendQueue = s.sendQueue := rfl
@[simp] theorem State.startJob_reassembly (s : State) (j : Job) : (s.startJob j).reassembly = s.reassembly := rfl
@[simp] theorem State.startJob_answerQueue (s : State) (j : Job) : (s.startJob j).answerQueue = s.answerQueue := rfl
@[simp] theorem State.startJob_monitor (s : State) (j : Job) : (s.startJob j).monitor = s.monitor := rfl
@[simp] theorem State.startJob_log (s : State) (j : Job) : (s.startJob j).log = s.log := rfl
@[simp] theorem State.startJob_scrub (s : State) (j : Job) : (s.startJob j).scrub = s.scrub := rfl
@[simp] theorem State.startJob_upsets (s : State) (j : Job) : (s.startJob j).upsets = s.upsets := rfl
@[simp] theorem State.startJob_events (s : State) (j : Job) : (s.startJob j).events = s.events := rfl
@[simp] theorem State.startJob_device (s : State) (j : Job) : (s.startJob j).device = s.device := rfl
@[simp] theorem State.startJob_ports (s : State) (j : Job) : (s.startJob j).ports = s.ports := rfl
@[simp] theorem State.startJob_control (s : State) (j : Job) : (s.startJob j).control = s.control := rfl
@[simp] theorem State.startJob_store (s : State) (j : Job) : (s.startJob j).store = s.store := rfl
@[simp] theorem State.startJob_persist (s : State) (j : Job) : (s.startJob j).persist = s.persist := rfl
@[simp] theorem State.startJob_nextStamp (s : State) (j : Job) : (s.startJob j).nextStamp = s.nextStamp := rfl
@[simp] theorem State.startJob_nextSerial (s : State) (j : Job) : (s.startJob j).nextSerial = s.nextSerial := rfl
@[simp] theorem State.startJob_freeCount (s : State) (j : Job) : (s.startJob j).freeCount = s.freeCount := rfl
@[simp] theorem State.startJob_wire (s : State) (j : Job) : (s.startJob j).wire = s.wire := rfl
@[simp] theorem State.startJob_pending (s : State) (j : Job) : (s.startJob j).pending = s.pending := rfl

/-! ### latchEvent -/

@[simp] theorem State.latchEvent_phase (s : State) (k : EventNumber) : (s.latchEvent k).phase = s.phase := rfl
@[simp] theorem State.latchEvent_startKind (s : State) (k : EventNumber) : (s.latchEvent k).startKind = s.startKind := rfl
@[simp] theorem State.latchEvent_startCount (s : State) (k : EventNumber) : (s.latchEvent k).startCount = s.startCount := rfl
@[simp] theorem State.latchEvent_clock (s : State) (k : EventNumber) : (s.latchEvent k).clock = s.clock := rfl
@[simp] theorem State.latchEvent_servingSince (s : State) (k : EventNumber) : (s.latchEvent k).servingSince = s.servingSince := rfl
@[simp] theorem State.latchEvent_epoch (s : State) (k : EventNumber) : (s.latchEvent k).epoch = s.epoch := rfl
@[simp] theorem State.latchEvent_settings (s : State) (k : EventNumber) : (s.latchEvent k).settings = s.settings := rfl
@[simp] theorem State.latchEvent_standIn (s : State) (k : EventNumber) : (s.latchEvent k).standIn = s.standIn := rfl
@[simp] theorem State.latchEvent_slots (s : State) (k : EventNumber) : (s.latchEvent k).slots = s.slots := rfl
@[simp] theorem State.latchEvent_lanes (s : State) (k : EventNumber) : (s.latchEvent k).lanes = s.lanes := rfl
@[simp] theorem State.latchEvent_exchanges (s : State) (k : EventNumber) : (s.latchEvent k).exchanges = s.exchanges := rfl
@[simp] theorem State.latchEvent_engine (s : State) (k : EventNumber) : (s.latchEvent k).engine = s.engine := rfl
@[simp] theorem State.latchEvent_sendQueue (s : State) (k : EventNumber) : (s.latchEvent k).sendQueue = s.sendQueue := rfl
@[simp] theorem State.latchEvent_reassembly (s : State) (k : EventNumber) : (s.latchEvent k).reassembly = s.reassembly := rfl
@[simp] theorem State.latchEvent_answerQueue (s : State) (k : EventNumber) : (s.latchEvent k).answerQueue = s.answerQueue := rfl
@[simp] theorem State.latchEvent_monitor (s : State) (k : EventNumber) : (s.latchEvent k).monitor = s.monitor := rfl
@[simp] theorem State.latchEvent_log (s : State) (k : EventNumber) : (s.latchEvent k).log = s.log := rfl
@[simp] theorem State.latchEvent_scrub (s : State) (k : EventNumber) : (s.latchEvent k).scrub = s.scrub := rfl
@[simp] theorem State.latchEvent_upsets (s : State) (k : EventNumber) : (s.latchEvent k).upsets = s.upsets := rfl
@[simp] theorem State.latchEvent_device (s : State) (k : EventNumber) : (s.latchEvent k).device = s.device := rfl
@[simp] theorem State.latchEvent_ports (s : State) (k : EventNumber) : (s.latchEvent k).ports = s.ports := rfl
@[simp] theorem State.latchEvent_control (s : State) (k : EventNumber) : (s.latchEvent k).control = s.control := rfl
@[simp] theorem State.latchEvent_store (s : State) (k : EventNumber) : (s.latchEvent k).store = s.store := rfl
@[simp] theorem State.latchEvent_persist (s : State) (k : EventNumber) : (s.latchEvent k).persist = s.persist := rfl
@[simp] theorem State.latchEvent_nextStamp (s : State) (k : EventNumber) : (s.latchEvent k).nextStamp = s.nextStamp := rfl
@[simp] theorem State.latchEvent_nextSerial (s : State) (k : EventNumber) : (s.latchEvent k).nextSerial = s.nextSerial := rfl
@[simp] theorem State.latchEvent_freeCount (s : State) (k : EventNumber) : (s.latchEvent k).freeCount = s.freeCount := rfl
@[simp] theorem State.latchEvent_wire (s : State) (k : EventNumber) : (s.latchEvent k).wire = s.wire := rfl
@[simp] theorem State.latchEvent_pending (s : State) (k : EventNumber) : (s.latchEvent k).pending = s.pending := rfl

/-! ### modFault -/

@[simp] theorem State.modFault_phase (s : State) (q : Position) (f : FaultEntry → FaultEntry) : (s.modFault q f).phase = s.phase := rfl
@[simp] theorem State.modFault_startKind (s : State) (q : Position) (f : FaultEntry → FaultEntry) : (s.modFault q f).startKind = s.startKind := rfl
@[simp] theorem State.modFault_startCount (s : State) (q : Position) (f : FaultEntry → FaultEntry) : (s.modFault q f).startCount = s.startCount := rfl
@[simp] theorem State.modFault_clock (s : State) (q : Position) (f : FaultEntry → FaultEntry) : (s.modFault q f).clock = s.clock := rfl
@[simp] theorem State.modFault_servingSince (s : State) (q : Position) (f : FaultEntry → FaultEntry) : (s.modFault q f).servingSince = s.servingSince := rfl
@[simp] theorem State.modFault_epoch (s : State) (q : Position) (f : FaultEntry → FaultEntry) : (s.modFault q f).epoch = s.epoch := rfl
@[simp] theorem State.modFault_settings (s : State) (q : Position) (f : FaultEntry → FaultEntry) : (s.modFault q f).settings = s.settings := rfl
@[simp] theorem State.modFault_standIn (s : State) (q : Position) (f : FaultEntry → FaultEntry) : (s.modFault q f).standIn = s.standIn := rfl
@[simp] theorem State.modFault_slots (s : State) (q : Position) (f : FaultEntry → FaultEntry) : (s.modFault q f).slots = s.slots := rfl
@[simp] theorem State.modFault_lanes (s : State) (q : Position) (f : FaultEntry → FaultEntry) : (s.modFault q f).lanes = s.lanes := rfl
@[simp] theorem State.modFault_exchanges (s : State) (q : Position) (f : FaultEntry → FaultEntry) : (s.modFault q f).exchanges = s.exchanges := rfl
@[simp] theorem State.modFault_engine (s : State) (q : Position) (f : FaultEntry → FaultEntry) : (s.modFault q f).engine = s.engine := rfl
@[simp] theorem State.modFault_sendQueue (s : State) (q : Position) (f : FaultEntry → FaultEntry) : (s.modFault q f).sendQueue = s.sendQueue := rfl
@[simp] theorem State.modFault_reassembly (s : State) (q : Position) (f : FaultEntry → FaultEntry) : (s.modFault q f).reassembly = s.reassembly := rfl
@[simp] theorem State.modFault_answerQueue (s : State) (q : Position) (f : FaultEntry → FaultEntry) : (s.modFault q f).answerQueue = s.answerQueue := rfl
@[simp] theorem State.modFault_monitor (s : State) (q : Position) (f : FaultEntry → FaultEntry) : (s.modFault q f).monitor = s.monitor := rfl
@[simp] theorem State.modFault_log (s : State) (q : Position) (f : FaultEntry → FaultEntry) : (s.modFault q f).log = s.log := rfl
@[simp] theorem State.modFault_upsets (s : State) (q : Position) (f : FaultEntry → FaultEntry) : (s.modFault q f).upsets = s.upsets := rfl
@[simp] theorem State.modFault_events (s : State) (q : Position) (f : FaultEntry → FaultEntry) : (s.modFault q f).events = s.events := rfl
@[simp] theorem State.modFault_device (s : State) (q : Position) (f : FaultEntry → FaultEntry) : (s.modFault q f).device = s.device := rfl
@[simp] theorem State.modFault_ports (s : State) (q : Position) (f : FaultEntry → FaultEntry) : (s.modFault q f).ports = s.ports := rfl
@[simp] theorem State.modFault_control (s : State) (q : Position) (f : FaultEntry → FaultEntry) : (s.modFault q f).control = s.control := rfl
@[simp] theorem State.modFault_store (s : State) (q : Position) (f : FaultEntry → FaultEntry) : (s.modFault q f).store = s.store := rfl
@[simp] theorem State.modFault_persist (s : State) (q : Position) (f : FaultEntry → FaultEntry) : (s.modFault q f).persist = s.persist := rfl
@[simp] theorem State.modFault_nextStamp (s : State) (q : Position) (f : FaultEntry → FaultEntry) : (s.modFault q f).nextStamp = s.nextStamp := rfl
@[simp] theorem State.modFault_nextSerial (s : State) (q : Position) (f : FaultEntry → FaultEntry) : (s.modFault q f).nextSerial = s.nextSerial := rfl
@[simp] theorem State.modFault_freeCount (s : State) (q : Position) (f : FaultEntry → FaultEntry) : (s.modFault q f).freeCount = s.freeCount := rfl
@[simp] theorem State.modFault_wire (s : State) (q : Position) (f : FaultEntry → FaultEntry) : (s.modFault q f).wire = s.wire := rfl
@[simp] theorem State.modFault_pending (s : State) (q : Position) (f : FaultEntry → FaultEntry) : (s.modFault q f).pending = s.pending := rfl

/-! ### rewritten -/

@[simp] theorem State.rewritten_phase (s : State) (q : Position) : (s.rewritten q).phase = s.phase := rfl
@[simp] theorem State.rewritten_startKind (s : State) (q : Position) : (s.rewritten q).startKind = s.startKind := rfl
@[simp] theorem State.rewritten_startCount (s : State) (q : Position) : (s.rewritten q).startCount = s.startCount := rfl
@[simp] theorem State.rewritten_clock (s : State) (q : Position) : (s.rewritten q).clock = s.clock := rfl
@[simp] theorem State.rewritten_servingSince (s : State) (q : Position) : (s.rewritten q).servingSince = s.servingSince := rfl
@[simp] theorem State.rewritten_epoch (s : State) (q : Position) : (s.rewritten q).epoch = s.epoch := rfl
@[simp] theorem State.rewritten_settings (s : State) (q : Position) : (s.rewritten q).settings = s.settings := rfl
@[simp] theorem State.rewritten_standIn (s : State) (q : Position) : (s.rewritten q).standIn = s.standIn := rfl
@[simp] theorem State.rewritten_slots (s : State) (q : Position) : (s.rewritten q).slots = s.slots := rfl
@[simp] theorem State.rewritten_lanes (s : State) (q : Position) : (s.rewritten q).lanes = s.lanes := rfl
@[simp] theorem State.rewritten_exchanges (s : State) (q : Position) : (s.rewritten q).exchanges = s.exchanges := rfl
@[simp] theorem State.rewritten_engine (s : State) (q : Position) : (s.rewritten q).engine = s.engine := rfl
@[simp] theorem State.rewritten_sendQueue (s : State) (q : Position) : (s.rewritten q).sendQueue = s.sendQueue := rfl
@[simp] theorem State.rewritten_reassembly (s : State) (q : Position) : (s.rewritten q).reassembly = s.reassembly := rfl
@[simp] theorem State.rewritten_answerQueue (s : State) (q : Position) : (s.rewritten q).answerQueue = s.answerQueue := rfl
@[simp] theorem State.rewritten_monitor (s : State) (q : Position) : (s.rewritten q).monitor = s.monitor := rfl
@[simp] theorem State.rewritten_log (s : State) (q : Position) : (s.rewritten q).log = s.log := rfl
@[simp] theorem State.rewritten_scrub (s : State) (q : Position) : (s.rewritten q).scrub = s.scrub := rfl
@[simp] theorem State.rewritten_events (s : State) (q : Position) : (s.rewritten q).events = s.events := rfl
@[simp] theorem State.rewritten_device (s : State) (q : Position) : (s.rewritten q).device = s.device := rfl
@[simp] theorem State.rewritten_ports (s : State) (q : Position) : (s.rewritten q).ports = s.ports := rfl
@[simp] theorem State.rewritten_control (s : State) (q : Position) : (s.rewritten q).control = s.control := rfl
@[simp] theorem State.rewritten_store (s : State) (q : Position) : (s.rewritten q).store = s.store := rfl
@[simp] theorem State.rewritten_persist (s : State) (q : Position) : (s.rewritten q).persist = s.persist := rfl
@[simp] theorem State.rewritten_nextStamp (s : State) (q : Position) : (s.rewritten q).nextStamp = s.nextStamp := rfl
@[simp] theorem State.rewritten_nextSerial (s : State) (q : Position) : (s.rewritten q).nextSerial = s.nextSerial := rfl
@[simp] theorem State.rewritten_freeCount (s : State) (q : Position) : (s.rewritten q).freeCount = s.freeCount := rfl
@[simp] theorem State.rewritten_wire (s : State) (q : Position) : (s.rewritten q).wire = s.wire := rfl
@[simp] theorem State.rewritten_pending (s : State) (q : Position) : (s.rewritten q).pending = s.pending := rfl

/-! ### unlog -/

@[simp] theorem State.unlog_phase (s : State) (n : Nat) : (s.unlog n).phase = s.phase := rfl
@[simp] theorem State.unlog_startKind (s : State) (n : Nat) : (s.unlog n).startKind = s.startKind := rfl
@[simp] theorem State.unlog_startCount (s : State) (n : Nat) : (s.unlog n).startCount = s.startCount := rfl
@[simp] theorem State.unlog_clock (s : State) (n : Nat) : (s.unlog n).clock = s.clock := rfl
@[simp] theorem State.unlog_servingSince (s : State) (n : Nat) : (s.unlog n).servingSince = s.servingSince := rfl
@[simp] theorem State.unlog_epoch (s : State) (n : Nat) : (s.unlog n).epoch = s.epoch := rfl
@[simp] theorem State.unlog_settings (s : State) (n : Nat) : (s.unlog n).settings = s.settings := rfl
@[simp] theorem State.unlog_standIn (s : State) (n : Nat) : (s.unlog n).standIn = s.standIn := rfl
@[simp] theorem State.unlog_slots (s : State) (n : Nat) : (s.unlog n).slots = s.slots := rfl
@[simp] theorem State.unlog_lanes (s : State) (n : Nat) : (s.unlog n).lanes = s.lanes := rfl
@[simp] theorem State.unlog_exchanges (s : State) (n : Nat) : (s.unlog n).exchanges = s.exchanges := rfl
@[simp] theorem State.unlog_engine (s : State) (n : Nat) : (s.unlog n).engine = s.engine := rfl
@[simp] theorem State.unlog_sendQueue (s : State) (n : Nat) : (s.unlog n).sendQueue = s.sendQueue := rfl
@[simp] theorem State.unlog_reassembly (s : State) (n : Nat) : (s.unlog n).reassembly = s.reassembly := rfl
@[simp] theorem State.unlog_answerQueue (s : State) (n : Nat) : (s.unlog n).answerQueue = s.answerQueue := rfl
@[simp] theorem State.unlog_monitor (s : State) (n : Nat) : (s.unlog n).monitor = s.monitor := rfl
@[simp] theorem State.unlog_scrub (s : State) (n : Nat) : (s.unlog n).scrub = s.scrub := rfl
@[simp] theorem State.unlog_upsets (s : State) (n : Nat) : (s.unlog n).upsets = s.upsets := rfl
@[simp] theorem State.unlog_events (s : State) (n : Nat) : (s.unlog n).events = s.events := rfl
@[simp] theorem State.unlog_device (s : State) (n : Nat) : (s.unlog n).device = s.device := rfl
@[simp] theorem State.unlog_ports (s : State) (n : Nat) : (s.unlog n).ports = s.ports := rfl
@[simp] theorem State.unlog_control (s : State) (n : Nat) : (s.unlog n).control = s.control := rfl
@[simp] theorem State.unlog_store (s : State) (n : Nat) : (s.unlog n).store = s.store := rfl
@[simp] theorem State.unlog_persist (s : State) (n : Nat) : (s.unlog n).persist = s.persist := rfl
@[simp] theorem State.unlog_nextStamp (s : State) (n : Nat) : (s.unlog n).nextStamp = s.nextStamp := rfl
@[simp] theorem State.unlog_nextSerial (s : State) (n : Nat) : (s.unlog n).nextSerial = s.nextSerial := rfl
@[simp] theorem State.unlog_freeCount (s : State) (n : Nat) : (s.unlog n).freeCount = s.freeCount := rfl
@[simp] theorem State.unlog_wire (s : State) (n : Nat) : (s.unlog n).wire = s.wire := rfl
@[simp] theorem State.unlog_pending (s : State) (n : Nat) : (s.unlog n).pending = s.pending := rfl

/-! ### relog -/

@[simp] theorem State.relog_phase (s : State) (e : LogEntry) : (s.relog e).phase = s.phase := rfl
@[simp] theorem State.relog_startKind (s : State) (e : LogEntry) : (s.relog e).startKind = s.startKind := rfl
@[simp] theorem State.relog_startCount (s : State) (e : LogEntry) : (s.relog e).startCount = s.startCount := rfl
@[simp] theorem State.relog_clock (s : State) (e : LogEntry) : (s.relog e).clock = s.clock := rfl
@[simp] theorem State.relog_servingSince (s : State) (e : LogEntry) : (s.relog e).servingSince = s.servingSince := rfl
@[simp] theorem State.relog_epoch (s : State) (e : LogEntry) : (s.relog e).epoch = s.epoch := rfl
@[simp] theorem State.relog_settings (s : State) (e : LogEntry) : (s.relog e).settings = s.settings := rfl
@[simp] theorem State.relog_standIn (s : State) (e : LogEntry) : (s.relog e).standIn = s.standIn := rfl
@[simp] theorem State.relog_slots (s : State) (e : LogEntry) : (s.relog e).slots = s.slots := rfl
@[simp] theorem State.relog_lanes (s : State) (e : LogEntry) : (s.relog e).lanes = s.lanes := rfl
@[simp] theorem State.relog_exchanges (s : State) (e : LogEntry) : (s.relog e).exchanges = s.exchanges := rfl
@[simp] theorem State.relog_engine (s : State) (e : LogEntry) : (s.relog e).engine = s.engine := rfl
@[simp] theorem State.relog_sendQueue (s : State) (e : LogEntry) : (s.relog e).sendQueue = s.sendQueue := rfl
@[simp] theorem State.relog_reassembly (s : State) (e : LogEntry) : (s.relog e).reassembly = s.reassembly := rfl
@[simp] theorem State.relog_answerQueue (s : State) (e : LogEntry) : (s.relog e).answerQueue = s.answerQueue := rfl
@[simp] theorem State.relog_monitor (s : State) (e : LogEntry) : (s.relog e).monitor = s.monitor := rfl
@[simp] theorem State.relog_scrub (s : State) (e : LogEntry) : (s.relog e).scrub = s.scrub := rfl
@[simp] theorem State.relog_upsets (s : State) (e : LogEntry) : (s.relog e).upsets = s.upsets := rfl
@[simp] theorem State.relog_events (s : State) (e : LogEntry) : (s.relog e).events = s.events := rfl
@[simp] theorem State.relog_device (s : State) (e : LogEntry) : (s.relog e).device = s.device := rfl
@[simp] theorem State.relog_ports (s : State) (e : LogEntry) : (s.relog e).ports = s.ports := rfl
@[simp] theorem State.relog_control (s : State) (e : LogEntry) : (s.relog e).control = s.control := rfl
@[simp] theorem State.relog_store (s : State) (e : LogEntry) : (s.relog e).store = s.store := rfl
@[simp] theorem State.relog_persist (s : State) (e : LogEntry) : (s.relog e).persist = s.persist := rfl
@[simp] theorem State.relog_nextStamp (s : State) (e : LogEntry) : (s.relog e).nextStamp = s.nextStamp := rfl
@[simp] theorem State.relog_nextSerial (s : State) (e : LogEntry) : (s.relog e).nextSerial = s.nextSerial := rfl
@[simp] theorem State.relog_freeCount (s : State) (e : LogEntry) : (s.relog e).freeCount = s.freeCount := rfl
@[simp] theorem State.relog_wire (s : State) (e : LogEntry) : (s.relog e).wire = s.wire := rfl
@[simp] theorem State.relog_pending (s : State) (e : LogEntry) : (s.relog e).pending = s.pending := rfl

end Sys2Proof.Machine
end

