-- ==== Sys2Proof/Laws/Footprint.lean ====
section
/-! SUPPORT. What each shared operation can change, said once. A state is read through an eraser that blanks the
fields an operation may write; the operation's footprint lemma says that the erased state is as it was, and any
field that the eraser keeps follows by congrArg. -/

namespace Sys2Proof.Machine

/-! ## The erasers, each over the one before -/

/-- Without what handing a frame may write: the ports, and how far a RESTART's reply has come. -/
def State.sansTx (s : State) : State :=
  { s with
    ports := ⟨resetPort, resetPort⟩
    control := ⟨{ s.control.s with restart := .none }, { s.control.c with restart := .none }⟩ }

/-- Without what raising an event may write. -/
def eraseEvents (u : State) : State := { u with events := Vector.replicate 18 clearLatch, startCount := 0 }

def State.sansEvents (s : State) : State := eraseEvents s.sansTx

/-- Without the Persistent Store and its queue. -/
def eraseStore (u : State) : State := { u with store := factoryStore, persist := ⟨none, [], none⟩ }

def State.sansStore (s : State) : State := eraseStore s.sansEvents

/-- Without the lanes. -/
def eraseLanes (u : State) : State :=
  { u with lanes := Vector.replicate 48 (factoryLaneConfig.started zeroLaneCounters) }

def State.sansLanes (s : State) : State := eraseLanes s.sansStore

/-- Without what a finding of the scrubber may write: slots, settings, wrong bits, the scrubber and the device
counters. -/
def eraseTables (u : State) : State :=
  { u with
    slots := factorySlots
    settings := factorySettings
    upsets := []
    scrub := ⟨0, 0, Vector.replicate 145 clearFaultEntry, [], none, 0⟩
    device := zeroDeviceCounters }

def State.sansTables (s : State) : State := eraseTables s.sansLanes

/-- Without what the monitor may write: its state and the Send Queue. -/
def State.sansMonitor (s : State) : State := { s.sansEvents with monitor := ⟨.down, 0, none, 0, 0⟩, sendQueue := [] }

/-- Without the control state of the ports. -/
def State.sansControl (s : State) : State := { s.sansTx with control := ⟨resetControl, resetControl⟩ }

/-! ## Handing frames -/

theorem State.takeNext_form (s : State) (p : Port) :
    s.takeNext p = s ∨ ∃ h, s.takeNext p = s.setPort p { s.port p with transmitting := some h, lastTaken := h } := by
  unfold State.takeNext
  dsimp only
  split
  · split
    · exact .inr ⟨_, rfl⟩
    · exact .inl rfl
  · exact .inl rfl

@[simp] theorem State.sansTx_setPort (s : State) (p : Port) (x : PortState) : (s.setPort p x).sansTx = s.sansTx := rfl

@[simp] theorem State.sansTx_countPort (s : State) (p : Port) (f : PortCounters → PortCounters) :
    (s.countPort p f).sansTx = s.sansTx := rfl

theorem State.sansTx_takeNext (s : State) (p : Port) : (s.takeNext p).sansTx = s.sansTx := by
  rcases s.takeNext_form p with h | ⟨h, e⟩
  · rw [h]
  · rw [e]; rfl

theorem State.sansTx_restartLeft (s : State) (p : Port) (gone : Bool) : (s.restartLeft p gone).sansTx = s.sansTx := by
  cases gone <;> cases p <;> rfl

theorem State.sansTx_handFrame (s : State) (p : Port) (f : OutFrame) : (s.handFrame p f).sansTx = s.sansTx := by
  unfold State.handFrame
  split
  · rw [State.sansTx_restartLeft, State.sansTx_countPort]
  · split
    · rw [State.sansTx_restartLeft, State.sansTx_countPort]
    · rw [State.sansTx_takeNext, State.sansTx_setPort]

theorem State.sansTx_handBridged (s : State) (p : Port) (f : EthFrame) : (s.handBridged p f).sansTx = s.sansTx := by
  unfold State.handBridged
  split
  · exact s.sansTx_handFrame _ _
  · rfl

theorem State.sansTx_pause (s : State) (p : Port) (q : BitVec 16) : (s.pause p q).sansTx = s.sansTx := by
  unfold State.pause
  split
  · rw [State.sansTx_takeNext, State.sansTx_setPort]
  · rfl

theorem State.sansTx_takeMacControl (s : State) (p : Port) (f : EthFrame) :
    (s.takeMacControl p f).sansTx = s.sansTx := by
  unfold State.takeMacControl
  split
  · exact s.sansTx_pause _ _
  · rfl

theorem State.sansTx_handTill (s : State) (dst : Mac) (till xchg : Nat) (c : TillContent) (key : Option Key) :
    (s.handTill dst till xchg c key).sansTx = s.sansTx := s.sansTx_handFrame _ _

theorem State.sansTx_replyInHand (s : State) (l : LaneId) (f : LaneFrame) (c : TillContent) (key : Option Key) :
    (s.replyInHand l f c key).sansTx = s.sansTx := s.sansTx_handTill _ _ _ _ _

theorem State.sansTx_sendEarlier (s : State) (l : LaneId) (xchg : Nat) (c : TillContent) (key : Option Key) :
    (s.sendEarlier l xchg c key).sansTx = s.sansTx := by
  unfold State.sendEarlier
  split
  · exact s.sansTx_handTill _ _ _ _ _
  · rfl

theorem State.sansTx_broadcastTills (s : State) (c : TillContent) : (s.broadcastTills c).sansTx = s.sansTx :=
  s.sansTx_handTill _ _ _ _ _

theorem State.sansTx_reply (s : State) (p : Port) (dst : Mac) (number : ControlNumber) (request : Byte)
    (status : ReplyStatus) (data : ReplyData) (key : Key) (restart : Bool) :
    (s.reply p dst number request status data key restart).sansTx = s.sansTx := s.sansTx_handFrame _ _

theorem State.sansTx_answer (s : State) (p : Port) (f : ControlFrame) (key : Key) (a : Answer) (restart : Bool) :
    (s.answer p f key a restart).sansTx = s.sansTx := s.sansTx_reply _ _ _ _ _ _ _ _

theorem State.sansTx_cancelReply (s : State) (c : Option CancelReply) : (s.cancelReply c).sansTx = s.sansTx := by
  cases c
  · rfl
  · exact s.sansTx_sendEarlier _ _ _ _

/-! ## Events -/

theorem State.sansEvents_of_tx {s t : State} (h : t.sansTx = s.sansTx) : t.sansEvents = s.sansEvents :=
  congrArg eraseEvents h

theorem State.sansEvents_notices (d : EventDetails) (k : Nat) (ps : List Port) (s : State) :
    (ps.foldl (fun u p => u.handFrame p (u.notice p d k)) s).sansTx = s.sansTx := by
  induction ps generalizing s with
  | nil => rfl
  | cons p ps ih => rw [List.foldl_cons, ih, State.sansTx_handFrame]

theorem State.sansEvents_raise (s : State) (d : EventDetails) : (s.raise d).sansEvents = s.sansEvents := by
  unfold State.raise
  dsimp only
  split
  · rfl
  · split
    · exact (State.sansEvents_of_tx (State.sansEvents_notices _ _ _ _)).trans rfl
    · rfl

theorem State.sansEvents_reserveTest (s : State) (k : LogKind) : (s.reserveTest k).sansEvents = s.sansEvents := by
  unfold State.reserveTest
  split
  · exact s.sansEvents_raise _
  · rfl

theorem State.reserveTest_log (s : State) (k : LogKind) : (s.reserveTest k).log = s.log := by
  have h := congrArg State.log (s.sansEvents_reserveTest k)
  exact h

theorem State.reserveTest_nextSerial (s : State) (k : LogKind) : (s.reserveTest k).nextSerial = s.nextSerial := by
  have h := congrArg State.nextSerial (s.sansEvents_reserveTest k)
  exact h

theorem State.reserve_log (s : State) (p : PlaceId) (e : LogEntry) :
    (s.reserve p e).log = s.log ++ [{ e with place := p, serial := s.nextSerial }] := by
  simp only [State.reserve, State.joinLog, State.reserveTest_log, State.reserveTest_nextSerial]

theorem State.sansEvents_writeFailed (s : State) (k : WriteKind) (x : FailSubject) :
    (s.writeFailed k x).sansEvents = s.sansEvents := s.sansEvents_raise _

theorem State.sansEvents_removalFailed (s : State) (p : PlaceId) (c : Option CancelReply) :
    (s.removalFailed p c).sansEvents = s.sansEvents :=
  (State.sansEvents_of_tx (State.sansTx_cancelReply _ _)).trans (s.sansEvents_writeFailed _ _)

/-! ## The Persist Queue -/

theorem State.sansStore_of_events {s t : State} (h : t.sansEvents = s.sansEvents) : t.sansStore = s.sansStore :=
  congrArg eraseStore h

theorem State.sansStore_of_tx {s t : State} (h : t.sansTx = s.sansTx) : t.sansStore = s.sansStore :=
  State.sansStore_of_events (State.sansEvents_of_tx h)

/-- The queue's pump writes nothing but the queue and the store. -/
theorem State.pump_form (s : State) : ∃ q t, s.pump = { s with persist := q, store := t } := by
  unfold State.pump
  split
  · exact ⟨_, _, rfl⟩
  · exact ⟨s.persist, s.store, rfl⟩

theorem State.setWaiting_form (s : State) (ws : List Write) :
    ∃ q t, s.setWaiting ws = { s with persist := q, store := t } :=
  State.pump_form _

theorem State.endWrite_form (s : State) (w : Write) (r : WriteResult) :
    ∃ q t, s.endWrite w r = { s with persist := q, store := t } := by
  obtain ⟨q, t, h⟩ := State.pump_form { s with
    persist := { s.persist with current := none, image := none }
    store := match r with
      | .completed => w.completeOn s.persist.image s.store
      | .failed => s.store }
  exact ⟨q, t, h⟩

theorem State.sansStore_setWaiting (s : State) (ws : List Write) : (s.setWaiting ws).sansStore = s.sansStore := by
  obtain ⟨q, t, h⟩ := s.setWaiting_form ws
  rw [h]; rfl

theorem State.sansStore_endWrite (s : State) (w : Write) (r : WriteResult) :
    (s.endWrite w r).sansStore = s.sansStore := by
  obtain ⟨q, t, h⟩ := s.endWrite_form w r
  rw [h]; rfl

theorem State.sansStore_enqueue (s : State) (join : List Write → List Write) (failed : State → State)
    (hf : (failed s).sansStore = s.sansStore) : (s.enqueue join failed).sansStore = s.sansStore := by
  unfold State.enqueue
  split
  · exact hf
  · exact s.sansStore_setWaiting _

theorem State.sansStore_replaceOrAppend (s : State) (stop hit : Write → Bool) (new : Write) (failed : State → State)
    (hf : (failed s).sansStore = s.sansStore) : (s.replaceOrAppend stop hit new failed).sansStore = s.sansStore := by
  unfold State.replaceOrAppend
  split
  · exact s.sansStore_setWaiting _
  · exact s.sansStore_enqueue _ _ hf

theorem State.sansStore_queueLaneState (s : State) (l : LaneId) : (s.queueLaneState l).sansStore = s.sansStore :=
  s.sansStore_replaceOrAppend _ _ _ _ (State.sansStore_of_events (s.sansEvents_writeFailed _ _))

theorem State.sansStore_queueSlotState (s : State) (n : SlotId) (r : SlotRecord) :
    (s.queueSlotState n r).sansStore = s.sansStore :=
  s.sansStore_enqueue _ _ (State.sansStore_of_events (s.sansEvents_writeFailed _ _))

theorem State.sansStore_queueUpdate (s : State) (e : LogEntry) : (s.queueUpdate e).sansStore = s.sansStore :=
  s.sansStore_replaceOrAppend _ _ _ _ (State.sansStore_of_events (s.sansEvents_writeFailed _ _))

theorem State.sansStore_queueRemoval (s : State) (e : LogEntry) (c : Option CancelReply) :
    (s.queueRemoval e c).sansStore = s.sansStore :=
  s.sansStore_replaceOrAppend _ _ _ _ (State.sansStore_of_events (s.sansEvents_removalFailed _ _))

/-! ## Lanes -/

theorem State.sansLanes_of_store {s t : State} (h : t.sansStore = s.sansStore) : t.sansLanes = s.sansLanes :=
  congrArg eraseLanes h

theorem State.sansLanes_of_events {s t : State} (h : t.sansEvents = s.sansEvents) : t.sansLanes = s.sansLanes :=
  State.sansLanes_of_store (State.sansStore_of_events h)

theorem State.sansLanes_of_tx {s t : State} (h : t.sansTx = s.sansTx) : t.sansLanes = s.sansLanes :=
  State.sansLanes_of_events (State.sansEvents_of_tx h)

@[simp] theorem State.sansLanes_setLane (s : State) (l : LaneId) (r : LaneRecord) :
    (s.setLane l r).sansLanes = s.sansLanes := rfl

@[simp] theorem State.sansLanes_modLane (s : State) (l : LaneId) (f : LaneRecord → LaneRecord) :
    (s.modLane l f).sansLanes = s.sansLanes := rfl

theorem State.sansLanes_refuseAtHand (s : State) (l : LaneId) (f : LaneFrame) (r : TillReason) :
    (s.refuseAtHand l f r).sansLanes = s.sansLanes :=
  (State.sansLanes_modLane _ _ _).trans (State.sansLanes_of_tx (s.sansTx_replyInHand _ _ _ _))

theorem State.sansLanes_refuseInJob (s : State) (l : LaneId) (f : LaneFrame) (k : LoadedKey) (r : TillReason) :
    (s.refuseInJob l f k r).sansLanes = s.sansLanes :=
  (State.sansLanes_modLane _ _ _).trans (State.sansLanes_of_tx (s.sansTx_replyInHand _ _ _ _))

theorem State.sansLanes_clearMailbox (s : State) (l : LaneId) : (s.clearMailbox l).sansLanes = s.sansLanes := by
  unfold State.clearMailbox
  split
  · rfl
  · split
    · exact (State.sansLanes_refuseAtHand _ _ _ _).trans rfl
    · rfl

theorem State.sansLanes_changeState (s : State) (l : LaneId) (st : LaneState) (event : Option EventDetails) :
    (s.changeState l st event).sansLanes = s.sansLanes := by
  unfold State.changeState
  refine (State.sansLanes_of_store (State.sansStore_queueLaneState _ _)).trans
    ((State.sansLanes_clearMailbox _ _).trans ?_)
  cases event with
  | none => rfl
  | some d => exact (State.sansLanes_of_events (State.sansEvents_raise _ _)).trans rfl

theorem State.sansLanes_faultLane (s : State) (l : LaneId) (c : FaultCause) :
    (s.faultLane l c).sansLanes = s.sansLanes := by
  unfold State.faultLane
  split
  · rfl
  · rfl
  · exact s.sansLanes_changeState _ _ _

/-- A counter that did not exceed the ceiling does not exceed the one that comes back (R52). -/
theorem counter_le_copiedCeiling (wraps : Bool) (r : LaneRecord) (copy : Nat) (h : r.counter ≤ r.config.ceiling) :
    r.counter ≤ copiedCeiling wraps r copy := by
  unfold copiedCeiling
  cases wraps <;> (simp only [Bool.false_eq_true, if_true, if_false]; split <;> omega)

/-- With a job in flight that may wrap, a counter below the ceiling stays below the one that comes back (R51). -/
theorem counter_lt_copiedCeiling (r : LaneRecord) (copy : Nat) (h : r.counter < r.config.ceiling) :
    r.counter < copiedCeiling true r copy := by
  simp only [copiedCeiling, if_true]
  split <;> omega

theorem State.sansLanes_faultRecord (s : State) (l : LaneId) : (s.faultRecord l).sansLanes = s.sansLanes :=
  (State.sansLanes_faultLane _ _ _).trans rfl

theorem State.sansLanes_lanes (s : State) (ls : Vector LaneRecord 48) : { s with lanes := ls }.sansLanes = s.sansLanes :=
  rfl

/-- A lost group changes the lanes alone, but for the PERSIST-FAIL (R180). -/
theorem State.sansLanes_loseGroup (s : State) (g : CommitGroup) (last : LaneId → Bool) :
    (s.loseGroup g last).sansLanes = s.sansLanes :=
  (State.sansLanes_of_events (State.sansEvents_writeFailed _ _ _)).trans (s.sansLanes_lanes _)

theorem State.sansLanes_ceilingFailed (s : State) (l : LaneId) : (s.ceilingFailed l).sansLanes = s.sansLanes :=
  (State.sansLanes_faultLane _ _ _).trans
    ((State.sansLanes_modLane _ _ _).trans (State.sansLanes_of_events (s.sansEvents_writeFailed _ _)))

/-- An advance requested at a full queue fails at once (R179, R181). -/
theorem State.requestAdvance_of_full (s : State) (l : LaneId) (join : Write → List Write → List Write)
    (h : s.persist.full = true) :
    s.requestAdvance l join = (s.modLane l (fun r => { r with advancePending := true })).ceilingFailed l := by
  unfold State.requestAdvance State.enqueue
  exact if_pos h

/-- At a full queue the test is R52's own, wherever the advance would have stood. -/
theorem State.foundedAdvanceTest_of_full (s : State) (l : LaneId) (h : s.persist.full = true) :
    s.foundedAdvanceTest l = s.advanceTest l := by
  unfold State.foundedAdvanceTest State.advanceTest
  simp only [h, Bool.true_or, if_true, State.requestAdvance_of_full s l _ h, ite_self]

theorem State.sansLanes_requestAdvance (s : State) (l : LaneId) (join : Write → List Write → List Write) :
    (s.requestAdvance l join).sansLanes = s.sansLanes := by
  unfold State.requestAdvance State.enqueue
  split
  · exact (State.sansLanes_ceilingFailed _ _).trans rfl
  · exact (State.sansLanes_of_store (State.sansStore_setWaiting _ _)).trans rfl

theorem State.sansLanes_advanceTest (s : State) (l : LaneId) : (s.advanceTest l).sansLanes = s.sansLanes := by
  unfold State.advanceTest
  split
  · exact s.sansLanes_requestAdvance _ _
  · rfl

/-- Whichever way the guarded test answers, it writes what a request does, or nothing. -/
theorem State.sansLanes_foundedAdvanceTest (s : State) (l : LaneId) :
    (s.foundedAdvanceTest l).sansLanes = s.sansLanes := by
  unfold State.foundedAdvanceTest
  split
  · split
    · exact s.sansLanes_requestAdvance _ _
    · split
      · exact s.sansLanes_requestAdvance _ _
      · rfl
  · rfl

/-- Where the store founds the write, the guarded test is R52's. -/
theorem State.foundedAdvanceTest_of_founds (s : State) (l : LaneId) (h : s.store.founds (s.advanceWrite l) = true) :
    s.foundedAdvanceTest l = s.advanceTest l := by
  simp [State.foundedAdvanceTest, State.advanceTest, h]

theorem State.sansLanes_ceilingDone (s : State) (l : LaneId) (b : Option SlotId) (g : Option Nat) (n : Nat) :
    (s.ceilingDone l b g n).sansLanes = s.sansLanes :=
  (State.sansLanes_advanceTest _ _).trans rfl

theorem State.sansLanes_warnTake (s : State) (l : LaneId) (c : Nat) : (s.warnTake l c).sansLanes = s.sansLanes := by
  unfold State.warnTake
  split
  · exact State.sansLanes_of_events (s.sansEvents_raise _)
  · rfl

theorem State.sansLanes_limitTake (s : State) (l : LaneId) (c : Nat) : (s.limitTake l c).sansLanes = s.sansLanes := by
  unfold State.limitTake
  split
  · exact s.sansLanes_changeState _ _ _
  · rfl

/-- A take writes lanes, the Persist Queue, the store, events and ports, and nothing else. -/
theorem State.sansLanes_takeCounter (s : State) (l : LaneId) : (s.takeCounter l).2.sansLanes = s.sansLanes :=
  (State.sansLanes_advanceTest _ _).trans
    ((State.sansLanes_limitTake _ _ _).trans ((State.sansLanes_warnTake _ _ _).trans rfl))

theorem State.takeCounter_value (s : State) (l : LaneId) : (s.takeCounter l).1 = (s.lane l).counter := rfl

theorem State.sansLanes_bringReady (s : State) (l : LaneId) : (s.bringReady l).sansLanes = s.sansLanes := by
  unfold State.bringReady
  dsimp only
  split
  · exact (State.sansLanes_changeState _ _ _ _).trans rfl
  · exact (State.sansLanes_changeState _ _ _ _).trans rfl

/-- A fold of an operation that keeps an erased state keeps it. -/
theorem foldl_keeps {α β : Type} (erase : State → β) (op : State → α → State)
    (h : ∀ s a, erase (op s a) = erase s) (xs : List α) (s : State) : erase (xs.foldl op s) = erase s := by
  induction xs generalizing s with
  | nil => rfl
  | cons a xs ih => rw [List.foldl_cons, ih, h]

/-! ## Findings of the scrubber and of the engine-side check -/

theorem State.sansTables_of_lanes {s t : State} (h : t.sansLanes = s.sansLanes) : t.sansTables = s.sansTables :=
  congrArg eraseTables h

theorem State.sansTables_of_events {s t : State} (h : t.sansEvents = s.sansEvents) : t.sansTables = s.sansTables :=
  State.sansTables_of_lanes (State.sansLanes_of_events h)

theorem State.sansTables_applyWear (s : State) (w : Wear) : (s.applyWear w).sansTables = s.sansTables := rfl

theorem State.sansTables_offerCapture (s : State) (p : Position) (k : FindingKind) (y : Option Syndrome) (a : Agent) :
    (s.offerCapture p k y a).sansTables = s.sansTables := by
  unfold State.offerCapture
  split <;> rfl

theorem State.sansTables_softFinding (s : State) (p : Position) (y : Syndrome) (a : Agent) :
    (s.softFinding p y a).sansTables = s.sansTables :=
  (State.sansTables_offerCapture _ _ _ _ _).trans ((State.sansTables_of_events (State.sansEvents_raise _ _)).trans rfl)

theorem State.sansTables_suppress (s : State) (x : List (Position × Syndrome)) :
    ({ s with scrub := { s.scrub with suppress := x } } : State).sansTables = s.sansTables := rfl

theorem State.sansTables_reportHard (s : State) (p : Position) (y : Syndrome) (a : Agent) :
    (s.reportHard p y a).sansTables = s.sansTables := by
  unfold State.reportHard
  split
  · rfl
  · exact State.sansTables_suppress _ _ |>.trans (State.sansTables_of_events (s.sansEvents_raise _))

theorem State.sansTables_hardFinding (s : State) (p : Position) (y : Syndrome) (a : Agent) :
    (s.hardFinding p y a).sansTables = s.sansTables :=
  (State.sansTables_offerCapture _ _ _ _ _).trans ((State.sansTables_reportHard _ _ _ _).trans rfl)

theorem State.sansLanes_faultNaming (s : State) (n : SlotId) (l : LaneId) :
    (s.faultNaming n l).sansLanes = s.sansLanes := by
  unfold State.faultNaming
  dsimp only
  split
  · exact s.sansLanes_faultLane _ _
  · split
    · exact s.sansLanes_faultLane _ _
    · rfl

theorem State.sansLanes_faultLanesOf (s : State) (n : SlotId) : (s.faultLanesOf n).sansLanes = s.sansLanes :=
  foldl_keeps State.sansLanes _ (fun t l => t.sansLanes_faultNaming n l) _ _

theorem State.sansTables_faultSlot (s : State) (n : SlotId) : (s.faultSlot n).sansTables = s.sansTables := by
  unfold State.faultSlot
  dsimp only
  split
  · rfl
  · exact (State.sansTables_of_lanes (State.sansLanes_faultLanesOf _ _)).trans
      ((State.sansTables_of_lanes (State.sansLanes_of_store (State.sansStore_queueSlotState _ _ _))).trans
        ((State.sansTables_of_events (State.sansEvents_raise _ _)).trans rfl))

theorem State.sansTables_faultSettings (s : State) : s.faultSettings.sansTables = s.sansTables :=
  (State.sansTables_of_events (State.sansEvents_raise _ _)).trans rfl

theorem State.sansTables_ownerActs (s : State) (p : Position) : (s.ownerActs p).sansTables = s.sansTables := by
  unfold State.ownerActs
  split
  · exact s.sansTables_faultSlot _
  · split
    · exact (State.sansTables_of_lanes (State.sansLanes_faultRecord _ _)).trans rfl
    · exact s.sansTables_faultSettings

theorem State.sansTables_uncorrectableFinding (s : State) (p : Position) (a : Agent) :
    (s.uncorrectableFinding p a).sansTables = s.sansTables :=
  (State.sansTables_ownerActs _ _).trans ((State.sansTables_offerCapture _ _ _ _ _).trans rfl)

/-- A check writes the tables, the scrubber and what follows from them, and nothing else: no exchange, no log entry, no
queue of the chain side, no hold and no job. -/
theorem State.sansTables_checkRecord (s : State) (p : Position) (a : Agent) :
    (s.checkRecord p a).1.sansTables = s.sansTables := by
  unfold State.checkRecord
  split
  · rfl
  · split
    · exact s.sansTables_hardFinding _ _ _
    · exact (State.sansTables_softFinding _ _ _ _).trans rfl
  · exact s.sansTables_uncorrectableFinding _ _
  · exact s.sansTables_uncorrectableFinding _ _

theorem State.sansTables_loadKey (s : State) (k : LoadedKey) : (s.loadKey k).1.sansTables = s.sansTables := by
  have h := s.sansTables_checkRecord (slotPosition k.slot) .engine
  unfold State.loadKey
  split <;> simp_all

theorem State.sansTables_loadIfUsable (s : State) (k : Option LoadedKey) :
    (s.loadIfUsable k).1.sansTables = s.sansTables := by
  cases k
  · rfl
  · exact s.sansTables_loadKey _

/-! ## The monitor -/

theorem State.sansMonitor_of_events {s t : State} (h : t.sansEvents = s.sansEvents) : t.sansMonitor = s.sansMonitor :=
  congrArg (fun u : State => { u with monitor := ⟨.down, 0, none, 0, 0⟩, sendQueue := [] }) h

theorem State.sansMonitor_restartProbeTimer (s : State) : s.restartProbeTimer.sansMonitor = s.sansMonitor := by
  unfold State.restartProbeTimer
  split <;> rfl

theorem State.sansMonitor_placeEnvelope (s : State) (e : Envelope) : (s.placeEnvelope e).sansMonitor = s.sansMonitor := by
  unfold State.placeEnvelope
  split
  · exact State.sansMonitor_of_events (State.sansEvents_of_tx (State.sansTx_countPort _ _ _))
  · exact (State.sansMonitor_of_events (State.sansEvents_of_tx (State.sansTx_takeNext _ _))).trans rfl

theorem State.sansMonitor_setMonitor (s : State) (m : Monitor) : (s.setMonitor m).sansMonitor = s.sansMonitor := rfl

theorem State.sansMonitor_sendProbe (s : State) : s.sendProbe.sansMonitor = s.sansMonitor := by
  unfold State.sendProbe
  split
  · dsimp only
    rw [State.sansMonitor_placeEnvelope, State.sansMonitor_setMonitor]
  · rfl

theorem State.sansMonitor_passDown (s : State) (n : Nat) (c : DownCause) : (s.passDown n c).sansMonitor = s.sansMonitor := by
  unfold State.passDown
  dsimp only
  split
  · exact (State.sansMonitor_of_events ((State.sansEvents_raise _ _).trans
      (State.sansEvents_of_tx (State.sansTx_broadcastTills _ _)))).trans rfl
  · exact (State.sansMonitor_of_events (State.sansEvents_raise _ _)).trans rfl
  · rfl

theorem State.sansMonitor_validEnvelope (s : State) (k : EnvelopeKind) :
    (s.validEnvelope k).sansMonitor = s.sansMonitor := by
  unfold State.validEnvelope
  refine (State.sansMonitor_restartProbeTimer _).trans ?_
  dsimp only
  split
  · exact (State.sansMonitor_of_events ((State.sansEvents_raise _ _).trans
      (State.sansEvents_of_tx (State.sansTx_broadcastTills _ _)))).trans rfl
  · rfl
  · rfl

theorem State.sansMonitor_firstProbe (s : State) : s.firstProbe.sansMonitor = s.sansMonitor := by
  unfold State.firstProbe
  split
  · exact (State.sansMonitor_restartProbeTimer _).trans (s.sansMonitor_sendProbe)
  · rfl

/-! ## Holds and the end of a job -/

theorem State.sansControl_of_tx {s t : State} (h : t.sansTx = s.sansTx) : t.sansControl = s.sansControl :=
  congrArg (fun u : State => { u with control := ⟨resetControl, resetControl⟩ }) h

theorem State.sansControl_grantHold (s : State) (p : Port) : (s.grantHold p).sansControl = s.sansControl := by
  unfold State.grantHold
  split
  · split
    · exact (State.sansControl_of_tx (State.sansTx_reply _ _ _ _ _ _ _ _ _)).trans rfl
    · rfl
  · rfl
  · rfl

/-- The grant test writes the ports and the control state, and nothing else. -/
theorem State.sansControl_grantHolds (s : State) : s.grantHolds.sansControl = s.sansControl :=
  (State.sansControl_grantHold _ _).trans (s.sansControl_grantHold _)

theorem State.sansControl_engine (s : State) : s.sansControl.engine = s.engine := rfl

theorem State.engine_of_control {s t : State} (h : t.sansControl = s.sansControl) : t.engine = s.engine := by
  rw [← t.sansControl_engine, h, s.sansControl_engine]

theorem State.finishJob_form (s : State) :
    s.finishJob = State.grantHolds { s with engine := { s.engine with job := none } } := rfl

theorem State.finishJob_engine (s : State) : s.finishJob.engine = { s.engine with job := none } := by
  rw [s.finishJob_form, State.engine_of_control (State.sansControl_grantHolds _)]

end Sys2Proof.Machine
end

