-- ==== Sys2Proof/Laws/Kept.lean ====
section
/-! SUPPORT. Each field that a footprint keeps, read off the footprint lemma: F_of_e says that two states alike under
the eraser e agree in the field F. Then the two operations met everywhere, handing a frame and raising an event, field
by field. -/

namespace Sys2Proof.Machine

/-! ### sansTx -/

theorem State.phase_of_tx {s t : State} (h : t.sansTx = s.sansTx) : t.phase = s.phase := by
  have k := congrArg State.phase h
  exact k
theorem State.startKind_of_tx {s t : State} (h : t.sansTx = s.sansTx) : t.startKind = s.startKind := by
  have k := congrArg State.startKind h
  exact k
theorem State.startCount_of_tx {s t : State} (h : t.sansTx = s.sansTx) : t.startCount = s.startCount := by
  have k := congrArg State.startCount h
  exact k
theorem State.clock_of_tx {s t : State} (h : t.sansTx = s.sansTx) : t.clock = s.clock := by
  have k := congrArg State.clock h
  exact k
theorem State.servingSince_of_tx {s t : State} (h : t.sansTx = s.sansTx) : t.servingSince = s.servingSince := by
  have k := congrArg State.servingSince h
  exact k
theorem State.epoch_of_tx {s t : State} (h : t.sansTx = s.sansTx) : t.epoch = s.epoch := by
  have k := congrArg State.epoch h
  exact k
theorem State.settings_of_tx {s t : State} (h : t.sansTx = s.sansTx) : t.settings = s.settings := by
  have k := congrArg State.settings h
  exact k
theorem State.standIn_of_tx {s t : State} (h : t.sansTx = s.sansTx) : t.standIn = s.standIn := by
  have k := congrArg State.standIn h
  exact k
theorem State.slots_of_tx {s t : State} (h : t.sansTx = s.sansTx) : t.slots = s.slots := by
  have k := congrArg State.slots h
  exact k
theorem State.lanes_of_tx {s t : State} (h : t.sansTx = s.sansTx) : t.lanes = s.lanes := by
  have k := congrArg State.lanes h
  exact k
theorem State.exchanges_of_tx {s t : State} (h : t.sansTx = s.sansTx) : t.exchanges = s.exchanges := by
  have k := congrArg State.exchanges h
  exact k
theorem State.engine_of_tx {s t : State} (h : t.sansTx = s.sansTx) : t.engine = s.engine := by
  have k := congrArg State.engine h
  exact k
theorem State.sendQueue_of_tx {s t : State} (h : t.sansTx = s.sansTx) : t.sendQueue = s.sendQueue := by
  have k := congrArg State.sendQueue h
  exact k
theorem State.reassembly_of_tx {s t : State} (h : t.sansTx = s.sansTx) : t.reassembly = s.reassembly := by
  have k := congrArg State.reassembly h
  exact k
theorem State.answerQueue_of_tx {s t : State} (h : t.sansTx = s.sansTx) : t.answerQueue = s.answerQueue := by
  have k := congrArg State.answerQueue h
  exact k
theorem State.monitor_of_tx {s t : State} (h : t.sansTx = s.sansTx) : t.monitor = s.monitor := by
  have k := congrArg State.monitor h
  exact k
theorem State.log_of_tx {s t : State} (h : t.sansTx = s.sansTx) : t.log = s.log := by
  have k := congrArg State.log h
  exact k
theorem State.scrub_of_tx {s t : State} (h : t.sansTx = s.sansTx) : t.scrub = s.scrub := by
  have k := congrArg State.scrub h
  exact k
theorem State.upsets_of_tx {s t : State} (h : t.sansTx = s.sansTx) : t.upsets = s.upsets := by
  have k := congrArg State.upsets h
  exact k
theorem State.events_of_tx {s t : State} (h : t.sansTx = s.sansTx) : t.events = s.events := by
  have k := congrArg State.events h
  exact k
theorem State.device_of_tx {s t : State} (h : t.sansTx = s.sansTx) : t.device = s.device := by
  have k := congrArg State.device h
  exact k
theorem State.store_of_tx {s t : State} (h : t.sansTx = s.sansTx) : t.store = s.store := by
  have k := congrArg State.store h
  exact k
theorem State.persist_of_tx {s t : State} (h : t.sansTx = s.sansTx) : t.persist = s.persist := by
  have k := congrArg State.persist h
  exact k
theorem State.nextStamp_of_tx {s t : State} (h : t.sansTx = s.sansTx) : t.nextStamp = s.nextStamp := by
  have k := congrArg State.nextStamp h
  exact k
theorem State.nextSerial_of_tx {s t : State} (h : t.sansTx = s.sansTx) : t.nextSerial = s.nextSerial := by
  have k := congrArg State.nextSerial h
  exact k
theorem State.freeCount_of_tx {s t : State} (h : t.sansTx = s.sansTx) : t.freeCount = s.freeCount := by
  have k := congrArg State.freeCount h
  exact k
theorem State.wire_of_tx {s t : State} (h : t.sansTx = s.sansTx) : t.wire = s.wire := by
  have k := congrArg State.wire h
  exact k
theorem State.pending_of_tx {s t : State} (h : t.sansTx = s.sansTx) : t.pending = s.pending := by
  have k := congrArg State.pending h
  exact k

/-! ### sansEvents -/

theorem State.phase_of_events {s t : State} (h : t.sansEvents = s.sansEvents) : t.phase = s.phase := by
  have k := congrArg State.phase h
  exact k
theorem State.startKind_of_events {s t : State} (h : t.sansEvents = s.sansEvents) : t.startKind = s.startKind := by
  have k := congrArg State.startKind h
  exact k
theorem State.clock_of_events {s t : State} (h : t.sansEvents = s.sansEvents) : t.clock = s.clock := by
  have k := congrArg State.clock h
  exact k
theorem State.servingSince_of_events {s t : State} (h : t.sansEvents = s.sansEvents) : t.servingSince = s.servingSince := by
  have k := congrArg State.servingSince h
  exact k
theorem State.epoch_of_events {s t : State} (h : t.sansEvents = s.sansEvents) : t.epoch = s.epoch := by
  have k := congrArg State.epoch h
  exact k
theorem State.settings_of_events {s t : State} (h : t.sansEvents = s.sansEvents) : t.settings = s.settings := by
  have k := congrArg State.settings h
  exact k
theorem State.standIn_of_events {s t : State} (h : t.sansEvents = s.sansEvents) : t.standIn = s.standIn := by
  have k := congrArg State.standIn h
  exact k
theorem State.slots_of_events {s t : State} (h : t.sansEvents = s.sansEvents) : t.slots = s.slots := by
  have k := congrArg State.slots h
  exact k
theorem State.lanes_of_events {s t : State} (h : t.sansEvents = s.sansEvents) : t.lanes = s.lanes := by
  have k := congrArg State.lanes h
  exact k
theorem State.exchanges_of_events {s t : State} (h : t.sansEvents = s.sansEvents) : t.exchanges = s.exchanges := by
  have k := congrArg State.exchanges h
  exact k
theorem State.engine_of_events {s t : State} (h : t.sansEvents = s.sansEvents) : t.engine = s.engine := by
  have k := congrArg State.engine h
  exact k
theorem State.sendQueue_of_events {s t : State} (h : t.sansEvents = s.sansEvents) : t.sendQueue = s.sendQueue := by
  have k := congrArg State.sendQueue h
  exact k
theorem State.reassembly_of_events {s t : State} (h : t.sansEvents = s.sansEvents) : t.reassembly = s.reassembly := by
  have k := congrArg State.reassembly h
  exact k
theorem State.answerQueue_of_events {s t : State} (h : t.sansEvents = s.sansEvents) : t.answerQueue = s.answerQueue := by
  have k := congrArg State.answerQueue h
  exact k
theorem State.monitor_of_events {s t : State} (h : t.sansEvents = s.sansEvents) : t.monitor = s.monitor := by
  have k := congrArg State.monitor h
  exact k
theorem State.log_of_events {s t : State} (h : t.sansEvents = s.sansEvents) : t.log = s.log := by
  have k := congrArg State.log h
  exact k
theorem State.scrub_of_events {s t : State} (h : t.sansEvents = s.sansEvents) : t.scrub = s.scrub := by
  have k := congrArg State.scrub h
  exact k
theorem State.upsets_of_events {s t : State} (h : t.sansEvents = s.sansEvents) : t.upsets = s.upsets := by
  have k := congrArg State.upsets h
  exact k
theorem State.device_of_events {s t : State} (h : t.sansEvents = s.sansEvents) : t.device = s.device := by
  have k := congrArg State.device h
  exact k
theorem State.store_of_events {s t : State} (h : t.sansEvents = s.sansEvents) : t.store = s.store := by
  have k := congrArg State.store h
  exact k
theorem State.persist_of_events {s t : State} (h : t.sansEvents = s.sansEvents) : t.persist = s.persist := by
  have k := congrArg State.persist h
  exact k
theorem State.nextStamp_of_events {s t : State} (h : t.sansEvents = s.sansEvents) : t.nextStamp = s.nextStamp := by
  have k := congrArg State.nextStamp h
  exact k
theorem State.nextSerial_of_events {s t : State} (h : t.sansEvents = s.sansEvents) : t.nextSerial = s.nextSerial := by
  have k := congrArg State.nextSerial h
  exact k
theorem State.freeCount_of_events {s t : State} (h : t.sansEvents = s.sansEvents) : t.freeCount = s.freeCount := by
  have k := congrArg State.freeCount h
  exact k
theorem State.wire_of_events {s t : State} (h : t.sansEvents = s.sansEvents) : t.wire = s.wire := by
  have k := congrArg State.wire h
  exact k
theorem State.pending_of_events {s t : State} (h : t.sansEvents = s.sansEvents) : t.pending = s.pending := by
  have k := congrArg State.pending h
  exact k

/-! ### sansStore -/

theorem State.phase_of_store {s t : State} (h : t.sansStore = s.sansStore) : t.phase = s.phase := by
  have k := congrArg State.phase h
  exact k
theorem State.startKind_of_store {s t : State} (h : t.sansStore = s.sansStore) : t.startKind = s.startKind := by
  have k := congrArg State.startKind h
  exact k
theorem State.clock_of_store {s t : State} (h : t.sansStore = s.sansStore) : t.clock = s.clock := by
  have k := congrArg State.clock h
  exact k
theorem State.servingSince_of_store {s t : State} (h : t.sansStore = s.sansStore) : t.servingSince = s.servingSince := by
  have k := congrArg State.servingSince h
  exact k
theorem State.epoch_of_store {s t : State} (h : t.sansStore = s.sansStore) : t.epoch = s.epoch := by
  have k := congrArg State.epoch h
  exact k
theorem State.settings_of_store {s t : State} (h : t.sansStore = s.sansStore) : t.settings = s.settings := by
  have k := congrArg State.settings h
  exact k
theorem State.standIn_of_store {s t : State} (h : t.sansStore = s.sansStore) : t.standIn = s.standIn := by
  have k := congrArg State.standIn h
  exact k
theorem State.slots_of_store {s t : State} (h : t.sansStore = s.sansStore) : t.slots = s.slots := by
  have k := congrArg State.slots h
  exact k
theorem State.lanes_of_store {s t : State} (h : t.sansStore = s.sansStore) : t.lanes = s.lanes := by
  have k := congrArg State.lanes h
  exact k
theorem State.exchanges_of_store {s t : State} (h : t.sansStore = s.sansStore) : t.exchanges = s.exchanges := by
  have k := congrArg State.exchanges h
  exact k
theorem State.engine_of_store {s t : State} (h : t.sansStore = s.sansStore) : t.engine = s.engine := by
  have k := congrArg State.engine h
  exact k
theorem State.sendQueue_of_store {s t : State} (h : t.sansStore = s.sansStore) : t.sendQueue = s.sendQueue := by
  have k := congrArg State.sendQueue h
  exact k
theorem State.reassembly_of_store {s t : State} (h : t.sansStore = s.sansStore) : t.reassembly = s.reassembly := by
  have k := congrArg State.reassembly h
  exact k
theorem State.answerQueue_of_store {s t : State} (h : t.sansStore = s.sansStore) : t.answerQueue = s.answerQueue := by
  have k := congrArg State.answerQueue h
  exact k
theorem State.monitor_of_store {s t : State} (h : t.sansStore = s.sansStore) : t.monitor = s.monitor := by
  have k := congrArg State.monitor h
  exact k
theorem State.log_of_store {s t : State} (h : t.sansStore = s.sansStore) : t.log = s.log := by
  have k := congrArg State.log h
  exact k
theorem State.scrub_of_store {s t : State} (h : t.sansStore = s.sansStore) : t.scrub = s.scrub := by
  have k := congrArg State.scrub h
  exact k
theorem State.upsets_of_store {s t : State} (h : t.sansStore = s.sansStore) : t.upsets = s.upsets := by
  have k := congrArg State.upsets h
  exact k
theorem State.device_of_store {s t : State} (h : t.sansStore = s.sansStore) : t.device = s.device := by
  have k := congrArg State.device h
  exact k
theorem State.nextStamp_of_store {s t : State} (h : t.sansStore = s.sansStore) : t.nextStamp = s.nextStamp := by
  have k := congrArg State.nextStamp h
  exact k
theorem State.nextSerial_of_store {s t : State} (h : t.sansStore = s.sansStore) : t.nextSerial = s.nextSerial := by
  have k := congrArg State.nextSerial h
  exact k
theorem State.freeCount_of_store {s t : State} (h : t.sansStore = s.sansStore) : t.freeCount = s.freeCount := by
  have k := congrArg State.freeCount h
  exact k
theorem State.wire_of_store {s t : State} (h : t.sansStore = s.sansStore) : t.wire = s.wire := by
  have k := congrArg State.wire h
  exact k
theorem State.pending_of_store {s t : State} (h : t.sansStore = s.sansStore) : t.pending = s.pending := by
  have k := congrArg State.pending h
  exact k

/-! ### sansLanes -/

theorem State.phase_of_lanes {s t : State} (h : t.sansLanes = s.sansLanes) : t.phase = s.phase := by
  have k := congrArg State.phase h
  exact k
theorem State.startKind_of_lanes {s t : State} (h : t.sansLanes = s.sansLanes) : t.startKind = s.startKind := by
  have k := congrArg State.startKind h
  exact k
theorem State.clock_of_lanes {s t : State} (h : t.sansLanes = s.sansLanes) : t.clock = s.clock := by
  have k := congrArg State.clock h
  exact k
theorem State.servingSince_of_lanes {s t : State} (h : t.sansLanes = s.sansLanes) : t.servingSince = s.servingSince := by
  have k := congrArg State.servingSince h
  exact k
theorem State.epoch_of_lanes {s t : State} (h : t.sansLanes = s.sansLanes) : t.epoch = s.epoch := by
  have k := congrArg State.epoch h
  exact k
theorem State.settings_of_lanes {s t : State} (h : t.sansLanes = s.sansLanes) : t.settings = s.settings := by
  have k := congrArg State.settings h
  exact k
theorem State.standIn_of_lanes {s t : State} (h : t.sansLanes = s.sansLanes) : t.standIn = s.standIn := by
  have k := congrArg State.standIn h
  exact k
theorem State.slots_of_lanes {s t : State} (h : t.sansLanes = s.sansLanes) : t.slots = s.slots := by
  have k := congrArg State.slots h
  exact k
theorem State.exchanges_of_lanes {s t : State} (h : t.sansLanes = s.sansLanes) : t.exchanges = s.exchanges := by
  have k := congrArg State.exchanges h
  exact k
theorem State.engine_of_lanes {s t : State} (h : t.sansLanes = s.sansLanes) : t.engine = s.engine := by
  have k := congrArg State.engine h
  exact k
theorem State.sendQueue_of_lanes {s t : State} (h : t.sansLanes = s.sansLanes) : t.sendQueue = s.sendQueue := by
  have k := congrArg State.sendQueue h
  exact k
theorem State.reassembly_of_lanes {s t : State} (h : t.sansLanes = s.sansLanes) : t.reassembly = s.reassembly := by
  have k := congrArg State.reassembly h
  exact k
theorem State.answerQueue_of_lanes {s t : State} (h : t.sansLanes = s.sansLanes) : t.answerQueue = s.answerQueue := by
  have k := congrArg State.answerQueue h
  exact k
theorem State.monitor_of_lanes {s t : State} (h : t.sansLanes = s.sansLanes) : t.monitor = s.monitor := by
  have k := congrArg State.monitor h
  exact k
theorem State.log_of_lanes {s t : State} (h : t.sansLanes = s.sansLanes) : t.log = s.log := by
  have k := congrArg State.log h
  exact k
theorem State.scrub_of_lanes {s t : State} (h : t.sansLanes = s.sansLanes) : t.scrub = s.scrub := by
  have k := congrArg State.scrub h
  exact k
theorem State.upsets_of_lanes {s t : State} (h : t.sansLanes = s.sansLanes) : t.upsets = s.upsets := by
  have k := congrArg State.upsets h
  exact k
theorem State.device_of_lanes {s t : State} (h : t.sansLanes = s.sansLanes) : t.device = s.device := by
  have k := congrArg State.device h
  exact k
theorem State.nextStamp_of_lanes {s t : State} (h : t.sansLanes = s.sansLanes) : t.nextStamp = s.nextStamp := by
  have k := congrArg State.nextStamp h
  exact k
theorem State.nextSerial_of_lanes {s t : State} (h : t.sansLanes = s.sansLanes) : t.nextSerial = s.nextSerial := by
  have k := congrArg State.nextSerial h
  exact k
theorem State.freeCount_of_lanes {s t : State} (h : t.sansLanes = s.sansLanes) : t.freeCount = s.freeCount := by
  have k := congrArg State.freeCount h
  exact k
theorem State.wire_of_lanes {s t : State} (h : t.sansLanes = s.sansLanes) : t.wire = s.wire := by
  have k := congrArg State.wire h
  exact k
theorem State.pending_of_lanes {s t : State} (h : t.sansLanes = s.sansLanes) : t.pending = s.pending := by
  have k := congrArg State.pending h
  exact k

/-! ### sansTables -/

theorem State.phase_of_tables {s t : State} (h : t.sansTables = s.sansTables) : t.phase = s.phase := by
  have k := congrArg State.phase h
  exact k
theorem State.startKind_of_tables {s t : State} (h : t.sansTables = s.sansTables) : t.startKind = s.startKind := by
  have k := congrArg State.startKind h
  exact k
theorem State.clock_of_tables {s t : State} (h : t.sansTables = s.sansTables) : t.clock = s.clock := by
  have k := congrArg State.clock h
  exact k
theorem State.servingSince_of_tables {s t : State} (h : t.sansTables = s.sansTables) : t.servingSince = s.servingSince := by
  have k := congrArg State.servingSince h
  exact k
theorem State.epoch_of_tables {s t : State} (h : t.sansTables = s.sansTables) : t.epoch = s.epoch := by
  have k := congrArg State.epoch h
  exact k
theorem State.standIn_of_tables {s t : State} (h : t.sansTables = s.sansTables) : t.standIn = s.standIn := by
  have k := congrArg State.standIn h
  exact k
theorem State.exchanges_of_tables {s t : State} (h : t.sansTables = s.sansTables) : t.exchanges = s.exchanges := by
  have k := congrArg State.exchanges h
  exact k
theorem State.engine_of_tables {s t : State} (h : t.sansTables = s.sansTables) : t.engine = s.engine := by
  have k := congrArg State.engine h
  exact k
theorem State.sendQueue_of_tables {s t : State} (h : t.sansTables = s.sansTables) : t.sendQueue = s.sendQueue := by
  have k := congrArg State.sendQueue h
  exact k
theorem State.reassembly_of_tables {s t : State} (h : t.sansTables = s.sansTables) : t.reassembly = s.reassembly := by
  have k := congrArg State.reassembly h
  exact k
theorem State.answerQueue_of_tables {s t : State} (h : t.sansTables = s.sansTables) : t.answerQueue = s.answerQueue := by
  have k := congrArg State.answerQueue h
  exact k
theorem State.monitor_of_tables {s t : State} (h : t.sansTables = s.sansTables) : t.monitor = s.monitor := by
  have k := congrArg State.monitor h
  exact k
theorem State.log_of_tables {s t : State} (h : t.sansTables = s.sansTables) : t.log = s.log := by
  have k := congrArg State.log h
  exact k
theorem State.nextStamp_of_tables {s t : State} (h : t.sansTables = s.sansTables) : t.nextStamp = s.nextStamp := by
  have k := congrArg State.nextStamp h
  exact k
theorem State.nextSerial_of_tables {s t : State} (h : t.sansTables = s.sansTables) : t.nextSerial = s.nextSerial := by
  have k := congrArg State.nextSerial h
  exact k
theorem State.freeCount_of_tables {s t : State} (h : t.sansTables = s.sansTables) : t.freeCount = s.freeCount := by
  have k := congrArg State.freeCount h
  exact k
theorem State.wire_of_tables {s t : State} (h : t.sansTables = s.sansTables) : t.wire = s.wire := by
  have k := congrArg State.wire h
  exact k
theorem State.pending_of_tables {s t : State} (h : t.sansTables = s.sansTables) : t.pending = s.pending := by
  have k := congrArg State.pending h
  exact k

/-! ### sansMonitor -/

theorem State.phase_of_monitor {s t : State} (h : t.sansMonitor = s.sansMonitor) : t.phase = s.phase := by
  have k := congrArg State.phase h
  exact k
theorem State.startKind_of_monitor {s t : State} (h : t.sansMonitor = s.sansMonitor) : t.startKind = s.startKind := by
  have k := congrArg State.startKind h
  exact k
theorem State.clock_of_monitor {s t : State} (h : t.sansMonitor = s.sansMonitor) : t.clock = s.clock := by
  have k := congrArg State.clock h
  exact k
theorem State.servingSince_of_monitor {s t : State} (h : t.sansMonitor = s.sansMonitor) : t.servingSince = s.servingSince := by
  have k := congrArg State.servingSince h
  exact k
theorem State.epoch_of_monitor {s t : State} (h : t.sansMonitor = s.sansMonitor) : t.epoch = s.epoch := by
  have k := congrArg State.epoch h
  exact k
theorem State.settings_of_monitor {s t : State} (h : t.sansMonitor = s.sansMonitor) : t.settings = s.settings := by
  have k := congrArg State.settings h
  exact k
theorem State.standIn_of_monitor {s t : State} (h : t.sansMonitor = s.sansMonitor) : t.standIn = s.standIn := by
  have k := congrArg State.standIn h
  exact k
theorem State.slots_of_monitor {s t : State} (h : t.sansMonitor = s.sansMonitor) : t.slots = s.slots := by
  have k := congrArg State.slots h
  exact k
theorem State.lanes_of_monitor {s t : State} (h : t.sansMonitor = s.sansMonitor) : t.lanes = s.lanes := by
  have k := congrArg State.lanes h
  exact k
theorem State.exchanges_of_monitor {s t : State} (h : t.sansMonitor = s.sansMonitor) : t.exchanges = s.exchanges := by
  have k := congrArg State.exchanges h
  exact k
theorem State.engine_of_monitor {s t : State} (h : t.sansMonitor = s.sansMonitor) : t.engine = s.engine := by
  have k := congrArg State.engine h
  exact k
theorem State.reassembly_of_monitor {s t : State} (h : t.sansMonitor = s.sansMonitor) : t.reassembly = s.reassembly := by
  have k := congrArg State.reassembly h
  exact k
theorem State.answerQueue_of_monitor {s t : State} (h : t.sansMonitor = s.sansMonitor) : t.answerQueue = s.answerQueue := by
  have k := congrArg State.answerQueue h
  exact k
theorem State.log_of_monitor {s t : State} (h : t.sansMonitor = s.sansMonitor) : t.log = s.log := by
  have k := congrArg State.log h
  exact k
theorem State.scrub_of_monitor {s t : State} (h : t.sansMonitor = s.sansMonitor) : t.scrub = s.scrub := by
  have k := congrArg State.scrub h
  exact k
theorem State.upsets_of_monitor {s t : State} (h : t.sansMonitor = s.sansMonitor) : t.upsets = s.upsets := by
  have k := congrArg State.upsets h
  exact k
theorem State.device_of_monitor {s t : State} (h : t.sansMonitor = s.sansMonitor) : t.device = s.device := by
  have k := congrArg State.device h
  exact k
theorem State.store_of_monitor {s t : State} (h : t.sansMonitor = s.sansMonitor) : t.store = s.store := by
  have k := congrArg State.store h
  exact k
theorem State.persist_of_monitor {s t : State} (h : t.sansMonitor = s.sansMonitor) : t.persist = s.persist := by
  have k := congrArg State.persist h
  exact k
theorem State.nextStamp_of_monitor {s t : State} (h : t.sansMonitor = s.sansMonitor) : t.nextStamp = s.nextStamp := by
  have k := congrArg State.nextStamp h
  exact k
theorem State.nextSerial_of_monitor {s t : State} (h : t.sansMonitor = s.sansMonitor) : t.nextSerial = s.nextSerial := by
  have k := congrArg State.nextSerial h
  exact k
theorem State.freeCount_of_monitor {s t : State} (h : t.sansMonitor = s.sansMonitor) : t.freeCount = s.freeCount := by
  have k := congrArg State.freeCount h
  exact k
theorem State.wire_of_monitor {s t : State} (h : t.sansMonitor = s.sansMonitor) : t.wire = s.wire := by
  have k := congrArg State.wire h
  exact k
theorem State.pending_of_monitor {s t : State} (h : t.sansMonitor = s.sansMonitor) : t.pending = s.pending := by
  have k := congrArg State.pending h
  exact k

/-! ### sansControl -/

theorem State.phase_of_control {s t : State} (h : t.sansControl = s.sansControl) : t.phase = s.phase := by
  have k := congrArg State.phase h
  exact k
theorem State.startKind_of_control {s t : State} (h : t.sansControl = s.sansControl) : t.startKind = s.startKind := by
  have k := congrArg State.startKind h
  exact k
theorem State.startCount_of_control {s t : State} (h : t.sansControl = s.sansControl) : t.startCount = s.startCount := by
  have k := congrArg State.startCount h
  exact k
theorem State.clock_of_control {s t : State} (h : t.sansControl = s.sansControl) : t.clock = s.clock := by
  have k := congrArg State.clock h
  exact k
theorem State.servingSince_of_control {s t : State} (h : t.sansControl = s.sansControl) : t.servingSince = s.servingSince := by
  have k := congrArg State.servingSince h
  exact k
theorem State.epoch_of_control {s t : State} (h : t.sansControl = s.sansControl) : t.epoch = s.epoch := by
  have k := congrArg State.epoch h
  exact k
theorem State.settings_of_control {s t : State} (h : t.sansControl = s.sansControl) : t.settings = s.settings := by
  have k := congrArg State.settings h
  exact k
theorem State.standIn_of_control {s t : State} (h : t.sansControl = s.sansControl) : t.standIn = s.standIn := by
  have k := congrArg State.standIn h
  exact k
theorem State.slots_of_control {s t : State} (h : t.sansControl = s.sansControl) : t.slots = s.slots := by
  have k := congrArg State.slots h
  exact k
theorem State.lanes_of_control {s t : State} (h : t.sansControl = s.sansControl) : t.lanes = s.lanes := by
  have k := congrArg State.lanes h
  exact k
theorem State.exchanges_of_control {s t : State} (h : t.sansControl = s.sansControl) : t.exchanges = s.exchanges := by
  have k := congrArg State.exchanges h
  exact k
theorem State.sendQueue_of_control {s t : State} (h : t.sansControl = s.sansControl) : t.sendQueue = s.sendQueue := by
  have k := congrArg State.sendQueue h
  exact k
theorem State.reassembly_of_control {s t : State} (h : t.sansControl = s.sansControl) : t.reassembly = s.reassembly := by
  have k := congrArg State.reassembly h
  exact k
theorem State.answerQueue_of_control {s t : State} (h : t.sansControl = s.sansControl) : t.answerQueue = s.answerQueue := by
  have k := congrArg State.answerQueue h
  exact k
theorem State.monitor_of_control {s t : State} (h : t.sansControl = s.sansControl) : t.monitor = s.monitor := by
  have k := congrArg State.monitor h
  exact k
theorem State.log_of_control {s t : State} (h : t.sansControl = s.sansControl) : t.log = s.log := by
  have k := congrArg State.log h
  exact k
theorem State.scrub_of_control {s t : State} (h : t.sansControl = s.sansControl) : t.scrub = s.scrub := by
  have k := congrArg State.scrub h
  exact k
theorem State.upsets_of_control {s t : State} (h : t.sansControl = s.sansControl) : t.upsets = s.upsets := by
  have k := congrArg State.upsets h
  exact k
theorem State.events_of_control {s t : State} (h : t.sansControl = s.sansControl) : t.events = s.events := by
  have k := congrArg State.events h
  exact k
theorem State.device_of_control {s t : State} (h : t.sansControl = s.sansControl) : t.device = s.device := by
  have k := congrArg State.device h
  exact k
theorem State.store_of_control {s t : State} (h : t.sansControl = s.sansControl) : t.store = s.store := by
  have k := congrArg State.store h
  exact k
theorem State.persist_of_control {s t : State} (h : t.sansControl = s.sansControl) : t.persist = s.persist := by
  have k := congrArg State.persist h
  exact k
theorem State.nextStamp_of_control {s t : State} (h : t.sansControl = s.sansControl) : t.nextStamp = s.nextStamp := by
  have k := congrArg State.nextStamp h
  exact k
theorem State.nextSerial_of_control {s t : State} (h : t.sansControl = s.sansControl) : t.nextSerial = s.nextSerial := by
  have k := congrArg State.nextSerial h
  exact k
theorem State.freeCount_of_control {s t : State} (h : t.sansControl = s.sansControl) : t.freeCount = s.freeCount := by
  have k := congrArg State.freeCount h
  exact k
theorem State.wire_of_control {s t : State} (h : t.sansControl = s.sansControl) : t.wire = s.wire := by
  have k := congrArg State.wire h
  exact k
theorem State.pending_of_control {s t : State} (h : t.sansControl = s.sansControl) : t.pending = s.pending := by
  have k := congrArg State.pending h
  exact k

/-! ### takeNext -/

@[simp] theorem State.takeNext_phase (s : State) (p : Port) : (s.takeNext p).phase = s.phase :=
  State.phase_of_tx (s.sansTx_takeNext p)
@[simp] theorem State.takeNext_startKind (s : State) (p : Port) : (s.takeNext p).startKind = s.startKind :=
  State.startKind_of_tx (s.sansTx_takeNext p)
@[simp] theorem State.takeNext_startCount (s : State) (p : Port) : (s.takeNext p).startCount = s.startCount :=
  State.startCount_of_tx (s.sansTx_takeNext p)
@[simp] theorem State.takeNext_clock (s : State) (p : Port) : (s.takeNext p).clock = s.clock :=
  State.clock_of_tx (s.sansTx_takeNext p)
@[simp] theorem State.takeNext_servingSince (s : State) (p : Port) : (s.takeNext p).servingSince = s.servingSince :=
  State.servingSince_of_tx (s.sansTx_takeNext p)
@[simp] theorem State.takeNext_epoch (s : State) (p : Port) : (s.takeNext p).epoch = s.epoch :=
  State.epoch_of_tx (s.sansTx_takeNext p)
@[simp] theorem State.takeNext_settings (s : State) (p : Port) : (s.takeNext p).settings = s.settings :=
  State.settings_of_tx (s.sansTx_takeNext p)
@[simp] theorem State.takeNext_standIn (s : State) (p : Port) : (s.takeNext p).standIn = s.standIn :=
  State.standIn_of_tx (s.sansTx_takeNext p)
@[simp] theorem State.takeNext_slots (s : State) (p : Port) : (s.takeNext p).slots = s.slots :=
  State.slots_of_tx (s.sansTx_takeNext p)
@[simp] theorem State.takeNext_lanes (s : State) (p : Port) : (s.takeNext p).lanes = s.lanes :=
  State.lanes_of_tx (s.sansTx_takeNext p)
@[simp] theorem State.takeNext_exchanges (s : State) (p : Port) : (s.takeNext p).exchanges = s.exchanges :=
  State.exchanges_of_tx (s.sansTx_takeNext p)
@[simp] theorem State.takeNext_engine (s : State) (p : Port) : (s.takeNext p).engine = s.engine :=
  State.engine_of_tx (s.sansTx_takeNext p)
@[simp] theorem State.takeNext_sendQueue (s : State) (p : Port) : (s.takeNext p).sendQueue = s.sendQueue :=
  State.sendQueue_of_tx (s.sansTx_takeNext p)
@[simp] theorem State.takeNext_reassembly (s : State) (p : Port) : (s.takeNext p).reassembly = s.reassembly :=
  State.reassembly_of_tx (s.sansTx_takeNext p)
@[simp] theorem State.takeNext_answerQueue (s : State) (p : Port) : (s.takeNext p).answerQueue = s.answerQueue :=
  State.answerQueue_of_tx (s.sansTx_takeNext p)
@[simp] theorem State.takeNext_monitor (s : State) (p : Port) : (s.takeNext p).monitor = s.monitor :=
  State.monitor_of_tx (s.sansTx_takeNext p)
@[simp] theorem State.takeNext_log (s : State) (p : Port) : (s.takeNext p).log = s.log :=
  State.log_of_tx (s.sansTx_takeNext p)
@[simp] theorem State.takeNext_scrub (s : State) (p : Port) : (s.takeNext p).scrub = s.scrub :=
  State.scrub_of_tx (s.sansTx_takeNext p)
@[simp] theorem State.takeNext_upsets (s : State) (p : Port) : (s.takeNext p).upsets = s.upsets :=
  State.upsets_of_tx (s.sansTx_takeNext p)
@[simp] theorem State.takeNext_events (s : State) (p : Port) : (s.takeNext p).events = s.events :=
  State.events_of_tx (s.sansTx_takeNext p)
@[simp] theorem State.takeNext_device (s : State) (p : Port) : (s.takeNext p).device = s.device :=
  State.device_of_tx (s.sansTx_takeNext p)
@[simp] theorem State.takeNext_store (s : State) (p : Port) : (s.takeNext p).store = s.store :=
  State.store_of_tx (s.sansTx_takeNext p)
@[simp] theorem State.takeNext_persist (s : State) (p : Port) : (s.takeNext p).persist = s.persist :=
  State.persist_of_tx (s.sansTx_takeNext p)
@[simp] theorem State.takeNext_nextStamp (s : State) (p : Port) : (s.takeNext p).nextStamp = s.nextStamp :=
  State.nextStamp_of_tx (s.sansTx_takeNext p)
@[simp] theorem State.takeNext_nextSerial (s : State) (p : Port) : (s.takeNext p).nextSerial = s.nextSerial :=
  State.nextSerial_of_tx (s.sansTx_takeNext p)
@[simp] theorem State.takeNext_freeCount (s : State) (p : Port) : (s.takeNext p).freeCount = s.freeCount :=
  State.freeCount_of_tx (s.sansTx_takeNext p)
@[simp] theorem State.takeNext_wire (s : State) (p : Port) : (s.takeNext p).wire = s.wire :=
  State.wire_of_tx (s.sansTx_takeNext p)
@[simp] theorem State.takeNext_pending (s : State) (p : Port) : (s.takeNext p).pending = s.pending :=
  State.pending_of_tx (s.sansTx_takeNext p)

/-! ### handFrame -/

@[simp] theorem State.handFrame_phase (s : State) (p : Port) (f : OutFrame) : (s.handFrame p f).phase = s.phase :=
  State.phase_of_tx (s.sansTx_handFrame p f)
@[simp] theorem State.handFrame_startKind (s : State) (p : Port) (f : OutFrame) : (s.handFrame p f).startKind = s.startKind :=
  State.startKind_of_tx (s.sansTx_handFrame p f)
@[simp] theorem State.handFrame_startCount (s : State) (p : Port) (f : OutFrame) : (s.handFrame p f).startCount = s.startCount :=
  State.startCount_of_tx (s.sansTx_handFrame p f)
@[simp] theorem State.handFrame_clock (s : State) (p : Port) (f : OutFrame) : (s.handFrame p f).clock = s.clock :=
  State.clock_of_tx (s.sansTx_handFrame p f)
@[simp] theorem State.handFrame_servingSince (s : State) (p : Port) (f : OutFrame) : (s.handFrame p f).servingSince = s.servingSince :=
  State.servingSince_of_tx (s.sansTx_handFrame p f)
@[simp] theorem State.handFrame_epoch (s : State) (p : Port) (f : OutFrame) : (s.handFrame p f).epoch = s.epoch :=
  State.epoch_of_tx (s.sansTx_handFrame p f)
@[simp] theorem State.handFrame_settings (s : State) (p : Port) (f : OutFrame) : (s.handFrame p f).settings = s.settings :=
  State.settings_of_tx (s.sansTx_handFrame p f)
@[simp] theorem State.handFrame_standIn (s : State) (p : Port) (f : OutFrame) : (s.handFrame p f).standIn = s.standIn :=
  State.standIn_of_tx (s.sansTx_handFrame p f)
@[simp] theorem State.handFrame_slots (s : State) (p : Port) (f : OutFrame) : (s.handFrame p f).slots = s.slots :=
  State.slots_of_tx (s.sansTx_handFrame p f)
@[simp] theorem State.handFrame_lanes (s : State) (p : Port) (f : OutFrame) : (s.handFrame p f).lanes = s.lanes :=
  State.lanes_of_tx (s.sansTx_handFrame p f)
@[simp] theorem State.handFrame_exchanges (s : State) (p : Port) (f : OutFrame) : (s.handFrame p f).exchanges = s.exchanges :=
  State.exchanges_of_tx (s.sansTx_handFrame p f)
@[simp] theorem State.handFrame_engine (s : State) (p : Port) (f : OutFrame) : (s.handFrame p f).engine = s.engine :=
  State.engine_of_tx (s.sansTx_handFrame p f)
@[simp] theorem State.handFrame_sendQueue (s : State) (p : Port) (f : OutFrame) : (s.handFrame p f).sendQueue = s.sendQueue :=
  State.sendQueue_of_tx (s.sansTx_handFrame p f)
@[simp] theorem State.handFrame_reassembly (s : State) (p : Port) (f : OutFrame) : (s.handFrame p f).reassembly = s.reassembly :=
  State.reassembly_of_tx (s.sansTx_handFrame p f)
@[simp] theorem State.handFrame_answerQueue (s : State) (p : Port) (f : OutFrame) : (s.handFrame p f).answerQueue = s.answerQueue :=
  State.answerQueue_of_tx (s.sansTx_handFrame p f)
@[simp] theorem State.handFrame_monitor (s : State) (p : Port) (f : OutFrame) : (s.handFrame p f).monitor = s.monitor :=
  State.monitor_of_tx (s.sansTx_handFrame p f)
@[simp] theorem State.handFrame_log (s : State) (p : Port) (f : OutFrame) : (s.handFrame p f).log = s.log :=
  State.log_of_tx (s.sansTx_handFrame p f)
@[simp] theorem State.handFrame_scrub (s : State) (p : Port) (f : OutFrame) : (s.handFrame p f).scrub = s.scrub :=
  State.scrub_of_tx (s.sansTx_handFrame p f)
@[simp] theorem State.handFrame_upsets (s : State) (p : Port) (f : OutFrame) : (s.handFrame p f).upsets = s.upsets :=
  State.upsets_of_tx (s.sansTx_handFrame p f)
@[simp] theorem State.handFrame_events (s : State) (p : Port) (f : OutFrame) : (s.handFrame p f).events = s.events :=
  State.events_of_tx (s.sansTx_handFrame p f)
@[simp] theorem State.handFrame_device (s : State) (p : Port) (f : OutFrame) : (s.handFrame p f).device = s.device :=
  State.device_of_tx (s.sansTx_handFrame p f)
@[simp] theorem State.handFrame_store (s : State) (p : Port) (f : OutFrame) : (s.handFrame p f).store = s.store :=
  State.store_of_tx (s.sansTx_handFrame p f)
@[simp] theorem State.handFrame_persist (s : State) (p : Port) (f : OutFrame) : (s.handFrame p f).persist = s.persist :=
  State.persist_of_tx (s.sansTx_handFrame p f)
@[simp] theorem State.handFrame_nextStamp (s : State) (p : Port) (f : OutFrame) : (s.handFrame p f).nextStamp = s.nextStamp :=
  State.nextStamp_of_tx (s.sansTx_handFrame p f)
@[simp] theorem State.handFrame_nextSerial (s : State) (p : Port) (f : OutFrame) : (s.handFrame p f).nextSerial = s.nextSerial :=
  State.nextSerial_of_tx (s.sansTx_handFrame p f)
@[simp] theorem State.handFrame_freeCount (s : State) (p : Port) (f : OutFrame) : (s.handFrame p f).freeCount = s.freeCount :=
  State.freeCount_of_tx (s.sansTx_handFrame p f)
@[simp] theorem State.handFrame_wire (s : State) (p : Port) (f : OutFrame) : (s.handFrame p f).wire = s.wire :=
  State.wire_of_tx (s.sansTx_handFrame p f)
@[simp] theorem State.handFrame_pending (s : State) (p : Port) (f : OutFrame) : (s.handFrame p f).pending = s.pending :=
  State.pending_of_tx (s.sansTx_handFrame p f)

/-! ### broadcastTills -/

@[simp] theorem State.broadcastTills_phase (s : State) (c : TillContent) : (s.broadcastTills c).phase = s.phase :=
  State.phase_of_tx (s.sansTx_broadcastTills c)
@[simp] theorem State.broadcastTills_startKind (s : State) (c : TillContent) : (s.broadcastTills c).startKind = s.startKind :=
  State.startKind_of_tx (s.sansTx_broadcastTills c)
@[simp] theorem State.broadcastTills_startCount (s : State) (c : TillContent) : (s.broadcastTills c).startCount = s.startCount :=
  State.startCount_of_tx (s.sansTx_broadcastTills c)
@[simp] theorem State.broadcastTills_clock (s : State) (c : TillContent) : (s.broadcastTills c).clock = s.clock :=
  State.clock_of_tx (s.sansTx_broadcastTills c)
@[simp] theorem State.broadcastTills_servingSince (s : State) (c : TillContent) : (s.broadcastTills c).servingSince = s.servingSince :=
  State.servingSince_of_tx (s.sansTx_broadcastTills c)
@[simp] theorem State.broadcastTills_epoch (s : State) (c : TillContent) : (s.broadcastTills c).epoch = s.epoch :=
  State.epoch_of_tx (s.sansTx_broadcastTills c)
@[simp] theorem State.broadcastTills_settings (s : State) (c : TillContent) : (s.broadcastTills c).settings = s.settings :=
  State.settings_of_tx (s.sansTx_broadcastTills c)
@[simp] theorem State.broadcastTills_standIn (s : State) (c : TillContent) : (s.broadcastTills c).standIn = s.standIn :=
  State.standIn_of_tx (s.sansTx_broadcastTills c)
@[simp] theorem State.broadcastTills_slots (s : State) (c : TillContent) : (s.broadcastTills c).slots = s.slots :=
  State.slots_of_tx (s.sansTx_broadcastTills c)
@[simp] theorem State.broadcastTills_lanes (s : State) (c : TillContent) : (s.broadcastTills c).lanes = s.lanes :=
  State.lanes_of_tx (s.sansTx_broadcastTills c)
@[simp] theorem State.broadcastTills_exchanges (s : State) (c : TillContent) : (s.broadcastTills c).exchanges = s.exchanges :=
  State.exchanges_of_tx (s.sansTx_broadcastTills c)
@[simp] theorem State.broadcastTills_engine (s : State) (c : TillContent) : (s.broadcastTills c).engine = s.engine :=
  State.engine_of_tx (s.sansTx_broadcastTills c)
@[simp] theorem State.broadcastTills_sendQueue (s : State) (c : TillContent) : (s.broadcastTills c).sendQueue = s.sendQueue :=
  State.sendQueue_of_tx (s.sansTx_broadcastTills c)
@[simp] theorem State.broadcastTills_reassembly (s : State) (c : TillContent) : (s.broadcastTills c).reassembly = s.reassembly :=
  State.reassembly_of_tx (s.sansTx_broadcastTills c)
@[simp] theorem State.broadcastTills_answerQueue (s : State) (c : TillContent) : (s.broadcastTills c).answerQueue = s.answerQueue :=
  State.answerQueue_of_tx (s.sansTx_broadcastTills c)
@[simp] theorem State.broadcastTills_monitor (s : State) (c : TillContent) : (s.broadcastTills c).monitor = s.monitor :=
  State.monitor_of_tx (s.sansTx_broadcastTills c)
@[simp] theorem State.broadcastTills_log (s : State) (c : TillContent) : (s.broadcastTills c).log = s.log :=
  State.log_of_tx (s.sansTx_broadcastTills c)
@[simp] theorem State.broadcastTills_scrub (s : State) (c : TillContent) : (s.broadcastTills c).scrub = s.scrub :=
  State.scrub_of_tx (s.sansTx_broadcastTills c)
@[simp] theorem State.broadcastTills_upsets (s : State) (c : TillContent) : (s.broadcastTills c).upsets = s.upsets :=
  State.upsets_of_tx (s.sansTx_broadcastTills c)
@[simp] theorem State.broadcastTills_events (s : State) (c : TillContent) : (s.broadcastTills c).events = s.events :=
  State.events_of_tx (s.sansTx_broadcastTills c)
@[simp] theorem State.broadcastTills_device (s : State) (c : TillContent) : (s.broadcastTills c).device = s.device :=
  State.device_of_tx (s.sansTx_broadcastTills c)
@[simp] theorem State.broadcastTills_store (s : State) (c : TillContent) : (s.broadcastTills c).store = s.store :=
  State.store_of_tx (s.sansTx_broadcastTills c)
@[simp] theorem State.broadcastTills_persist (s : State) (c : TillContent) : (s.broadcastTills c).persist = s.persist :=
  State.persist_of_tx (s.sansTx_broadcastTills c)
@[simp] theorem State.broadcastTills_nextStamp (s : State) (c : TillContent) : (s.broadcastTills c).nextStamp = s.nextStamp :=
  State.nextStamp_of_tx (s.sansTx_broadcastTills c)
@[simp] theorem State.broadcastTills_nextSerial (s : State) (c : TillContent) : (s.broadcastTills c).nextSerial = s.nextSerial :=
  State.nextSerial_of_tx (s.sansTx_broadcastTills c)
@[simp] theorem State.broadcastTills_freeCount (s : State) (c : TillContent) : (s.broadcastTills c).freeCount = s.freeCount :=
  State.freeCount_of_tx (s.sansTx_broadcastTills c)
@[simp] theorem State.broadcastTills_wire (s : State) (c : TillContent) : (s.broadcastTills c).wire = s.wire :=
  State.wire_of_tx (s.sansTx_broadcastTills c)
@[simp] theorem State.broadcastTills_pending (s : State) (c : TillContent) : (s.broadcastTills c).pending = s.pending :=
  State.pending_of_tx (s.sansTx_broadcastTills c)

/-! ### raise -/

@[simp] theorem State.raise_phase (s : State) (d : EventDetails) : (s.raise d).phase = s.phase :=
  State.phase_of_events (s.sansEvents_raise d)
@[simp] theorem State.raise_startKind (s : State) (d : EventDetails) : (s.raise d).startKind = s.startKind :=
  State.startKind_of_events (s.sansEvents_raise d)
@[simp] theorem State.raise_clock (s : State) (d : EventDetails) : (s.raise d).clock = s.clock :=
  State.clock_of_events (s.sansEvents_raise d)
@[simp] theorem State.raise_servingSince (s : State) (d : EventDetails) : (s.raise d).servingSince = s.servingSince :=
  State.servingSince_of_events (s.sansEvents_raise d)
@[simp] theorem State.raise_epoch (s : State) (d : EventDetails) : (s.raise d).epoch = s.epoch :=
  State.epoch_of_events (s.sansEvents_raise d)
@[simp] theorem State.raise_settings (s : State) (d : EventDetails) : (s.raise d).settings = s.settings :=
  State.settings_of_events (s.sansEvents_raise d)
@[simp] theorem State.raise_standIn (s : State) (d : EventDetails) : (s.raise d).standIn = s.standIn :=
  State.standIn_of_events (s.sansEvents_raise d)
@[simp] theorem State.raise_slots (s : State) (d : EventDetails) : (s.raise d).slots = s.slots :=
  State.slots_of_events (s.sansEvents_raise d)
@[simp] theorem State.raise_lanes (s : State) (d : EventDetails) : (s.raise d).lanes = s.lanes :=
  State.lanes_of_events (s.sansEvents_raise d)
@[simp] theorem State.raise_exchanges (s : State) (d : EventDetails) : (s.raise d).exchanges = s.exchanges :=
  State.exchanges_of_events (s.sansEvents_raise d)
@[simp] theorem State.raise_engine (s : State) (d : EventDetails) : (s.raise d).engine = s.engine :=
  State.engine_of_events (s.sansEvents_raise d)
@[simp] theorem State.raise_sendQueue (s : State) (d : EventDetails) : (s.raise d).sendQueue = s.sendQueue :=
  State.sendQueue_of_events (s.sansEvents_raise d)
@[simp] theorem State.raise_reassembly (s : State) (d : EventDetails) : (s.raise d).reassembly = s.reassembly :=
  State.reassembly_of_events (s.sansEvents_raise d)
@[simp] theorem State.raise_answerQueue (s : State) (d : EventDetails) : (s.raise d).answerQueue = s.answerQueue :=
  State.answerQueue_of_events (s.sansEvents_raise d)
@[simp] theorem State.raise_monitor (s : State) (d : EventDetails) : (s.raise d).monitor = s.monitor :=
  State.monitor_of_events (s.sansEvents_raise d)
@[simp] theorem State.raise_log (s : State) (d : EventDetails) : (s.raise d).log = s.log :=
  State.log_of_events (s.sansEvents_raise d)
@[simp] theorem State.raise_scrub (s : State) (d : EventDetails) : (s.raise d).scrub = s.scrub :=
  State.scrub_of_events (s.sansEvents_raise d)
@[simp] theorem State.raise_upsets (s : State) (d : EventDetails) : (s.raise d).upsets = s.upsets :=
  State.upsets_of_events (s.sansEvents_raise d)
@[simp] theorem State.raise_device (s : State) (d : EventDetails) : (s.raise d).device = s.device :=
  State.device_of_events (s.sansEvents_raise d)
@[simp] theorem State.raise_store (s : State) (d : EventDetails) : (s.raise d).store = s.store :=
  State.store_of_events (s.sansEvents_raise d)
@[simp] theorem State.raise_persist (s : State) (d : EventDetails) : (s.raise d).persist = s.persist :=
  State.persist_of_events (s.sansEvents_raise d)
@[simp] theorem State.raise_nextStamp (s : State) (d : EventDetails) : (s.raise d).nextStamp = s.nextStamp :=
  State.nextStamp_of_events (s.sansEvents_raise d)
@[simp] theorem State.raise_nextSerial (s : State) (d : EventDetails) : (s.raise d).nextSerial = s.nextSerial :=
  State.nextSerial_of_events (s.sansEvents_raise d)
@[simp] theorem State.raise_freeCount (s : State) (d : EventDetails) : (s.raise d).freeCount = s.freeCount :=
  State.freeCount_of_events (s.sansEvents_raise d)
@[simp] theorem State.raise_wire (s : State) (d : EventDetails) : (s.raise d).wire = s.wire :=
  State.wire_of_events (s.sansEvents_raise d)
@[simp] theorem State.raise_pending (s : State) (d : EventDetails) : (s.raise d).pending = s.pending :=
  State.pending_of_events (s.sansEvents_raise d)

/-! ### handTill -/

@[simp] theorem State.handTill_phase (s : State) (dst : Mac) (till xchg : Nat) (c : TillContent) (key : Option Key) : (s.handTill dst till xchg c key).phase = s.phase :=
  State.phase_of_tx (s.sansTx_handTill dst till xchg c key)
@[simp] theorem State.handTill_startKind (s : State) (dst : Mac) (till xchg : Nat) (c : TillContent) (key : Option Key) : (s.handTill dst till xchg c key).startKind = s.startKind :=
  State.startKind_of_tx (s.sansTx_handTill dst till xchg c key)
@[simp] theorem State.handTill_startCount (s : State) (dst : Mac) (till xchg : Nat) (c : TillContent) (key : Option Key) : (s.handTill dst till xchg c key).startCount = s.startCount :=
  State.startCount_of_tx (s.sansTx_handTill dst till xchg c key)
@[simp] theorem State.handTill_clock (s : State) (dst : Mac) (till xchg : Nat) (c : TillContent) (key : Option Key) : (s.handTill dst till xchg c key).clock = s.clock :=
  State.clock_of_tx (s.sansTx_handTill dst till xchg c key)
@[simp] theorem State.handTill_servingSince (s : State) (dst : Mac) (till xchg : Nat) (c : TillContent) (key : Option Key) : (s.handTill dst till xchg c key).servingSince = s.servingSince :=
  State.servingSince_of_tx (s.sansTx_handTill dst till xchg c key)
@[simp] theorem State.handTill_epoch (s : State) (dst : Mac) (till xchg : Nat) (c : TillContent) (key : Option Key) : (s.handTill dst till xchg c key).epoch = s.epoch :=
  State.epoch_of_tx (s.sansTx_handTill dst till xchg c key)
@[simp] theorem State.handTill_settings (s : State) (dst : Mac) (till xchg : Nat) (c : TillContent) (key : Option Key) : (s.handTill dst till xchg c key).settings = s.settings :=
  State.settings_of_tx (s.sansTx_handTill dst till xchg c key)
@[simp] theorem State.handTill_standIn (s : State) (dst : Mac) (till xchg : Nat) (c : TillContent) (key : Option Key) : (s.handTill dst till xchg c key).standIn = s.standIn :=
  State.standIn_of_tx (s.sansTx_handTill dst till xchg c key)
@[simp] theorem State.handTill_slots (s : State) (dst : Mac) (till xchg : Nat) (c : TillContent) (key : Option Key) : (s.handTill dst till xchg c key).slots = s.slots :=
  State.slots_of_tx (s.sansTx_handTill dst till xchg c key)
@[simp] theorem State.handTill_lanes (s : State) (dst : Mac) (till xchg : Nat) (c : TillContent) (key : Option Key) : (s.handTill dst till xchg c key).lanes = s.lanes :=
  State.lanes_of_tx (s.sansTx_handTill dst till xchg c key)
@[simp] theorem State.handTill_exchanges (s : State) (dst : Mac) (till xchg : Nat) (c : TillContent) (key : Option Key) : (s.handTill dst till xchg c key).exchanges = s.exchanges :=
  State.exchanges_of_tx (s.sansTx_handTill dst till xchg c key)
@[simp] theorem State.handTill_engine (s : State) (dst : Mac) (till xchg : Nat) (c : TillContent) (key : Option Key) : (s.handTill dst till xchg c key).engine = s.engine :=
  State.engine_of_tx (s.sansTx_handTill dst till xchg c key)
@[simp] theorem State.handTill_sendQueue (s : State) (dst : Mac) (till xchg : Nat) (c : TillContent) (key : Option Key) : (s.handTill dst till xchg c key).sendQueue = s.sendQueue :=
  State.sendQueue_of_tx (s.sansTx_handTill dst till xchg c key)
@[simp] theorem State.handTill_reassembly (s : State) (dst : Mac) (till xchg : Nat) (c : TillContent) (key : Option Key) : (s.handTill dst till xchg c key).reassembly = s.reassembly :=
  State.reassembly_of_tx (s.sansTx_handTill dst till xchg c key)
@[simp] theorem State.handTill_answerQueue (s : State) (dst : Mac) (till xchg : Nat) (c : TillContent) (key : Option Key) : (s.handTill dst till xchg c key).answerQueue = s.answerQueue :=
  State.answerQueue_of_tx (s.sansTx_handTill dst till xchg c key)
@[simp] theorem State.handTill_monitor (s : State) (dst : Mac) (till xchg : Nat) (c : TillContent) (key : Option Key) : (s.handTill dst till xchg c key).monitor = s.monitor :=
  State.monitor_of_tx (s.sansTx_handTill dst till xchg c key)
@[simp] theorem State.handTill_log (s : State) (dst : Mac) (till xchg : Nat) (c : TillContent) (key : Option Key) : (s.handTill dst till xchg c key).log = s.log :=
  State.log_of_tx (s.sansTx_handTill dst till xchg c key)
@[simp] theorem State.handTill_scrub (s : State) (dst : Mac) (till xchg : Nat) (c : TillContent) (key : Option Key) : (s.handTill dst till xchg c key).scrub = s.scrub :=
  State.scrub_of_tx (s.sansTx_handTill dst till xchg c key)
@[simp] theorem State.handTill_upsets (s : State) (dst : Mac) (till xchg : Nat) (c : TillContent) (key : Option Key) : (s.handTill dst till xchg c key).upsets = s.upsets :=
  State.upsets_of_tx (s.sansTx_handTill dst till xchg c key)
@[simp] theorem State.handTill_events (s : State) (dst : Mac) (till xchg : Nat) (c : TillContent) (key : Option Key) : (s.handTill dst till xchg c key).events = s.events :=
  State.events_of_tx (s.sansTx_handTill dst till xchg c key)
@[simp] theorem State.handTill_device (s : State) (dst : Mac) (till xchg : Nat) (c : TillContent) (key : Option Key) : (s.handTill dst till xchg c key).device = s.device :=
  State.device_of_tx (s.sansTx_handTill dst till xchg c key)
@[simp] theorem State.handTill_store (s : State) (dst : Mac) (till xchg : Nat) (c : TillContent) (key : Option Key) : (s.handTill dst till xchg c key).store = s.store :=
  State.store_of_tx (s.sansTx_handTill dst till xchg c key)
@[simp] theorem State.handTill_persist (s : State) (dst : Mac) (till xchg : Nat) (c : TillContent) (key : Option Key) : (s.handTill dst till xchg c key).persist = s.persist :=
  State.persist_of_tx (s.sansTx_handTill dst till xchg c key)
@[simp] theorem State.handTill_nextStamp (s : State) (dst : Mac) (till xchg : Nat) (c : TillContent) (key : Option Key) : (s.handTill dst till xchg c key).nextStamp = s.nextStamp :=
  State.nextStamp_of_tx (s.sansTx_handTill dst till xchg c key)
@[simp] theorem State.handTill_nextSerial (s : State) (dst : Mac) (till xchg : Nat) (c : TillContent) (key : Option Key) : (s.handTill dst till xchg c key).nextSerial = s.nextSerial :=
  State.nextSerial_of_tx (s.sansTx_handTill dst till xchg c key)
@[simp] theorem State.handTill_freeCount (s : State) (dst : Mac) (till xchg : Nat) (c : TillContent) (key : Option Key) : (s.handTill dst till xchg c key).freeCount = s.freeCount :=
  State.freeCount_of_tx (s.sansTx_handTill dst till xchg c key)
@[simp] theorem State.handTill_wire (s : State) (dst : Mac) (till xchg : Nat) (c : TillContent) (key : Option Key) : (s.handTill dst till xchg c key).wire = s.wire :=
  State.wire_of_tx (s.sansTx_handTill dst till xchg c key)
@[simp] theorem State.handTill_pending (s : State) (dst : Mac) (till xchg : Nat) (c : TillContent) (key : Option Key) : (s.handTill dst till xchg c key).pending = s.pending :=
  State.pending_of_tx (s.sansTx_handTill dst till xchg c key)

/-! ### sendEarlier -/

@[simp] theorem State.sendEarlier_phase (s : State) (l : LaneId) (xchg : Nat) (c : TillContent) (key : Option Key) : (s.sendEarlier l xchg c key).phase = s.phase :=
  State.phase_of_tx (s.sansTx_sendEarlier l xchg c key)
@[simp] theorem State.sendEarlier_startKind (s : State) (l : LaneId) (xchg : Nat) (c : TillContent) (key : Option Key) : (s.sendEarlier l xchg c key).startKind = s.startKind :=
  State.startKind_of_tx (s.sansTx_sendEarlier l xchg c key)
@[simp] theorem State.sendEarlier_startCount (s : State) (l : LaneId) (xchg : Nat) (c : TillContent) (key : Option Key) : (s.sendEarlier l xchg c key).startCount = s.startCount :=
  State.startCount_of_tx (s.sansTx_sendEarlier l xchg c key)
@[simp] theorem State.sendEarlier_clock (s : State) (l : LaneId) (xchg : Nat) (c : TillContent) (key : Option Key) : (s.sendEarlier l xchg c key).clock = s.clock :=
  State.clock_of_tx (s.sansTx_sendEarlier l xchg c key)
@[simp] theorem State.sendEarlier_servingSince (s : State) (l : LaneId) (xchg : Nat) (c : TillContent) (key : Option Key) : (s.sendEarlier l xchg c key).servingSince = s.servingSince :=
  State.servingSince_of_tx (s.sansTx_sendEarlier l xchg c key)
@[simp] theorem State.sendEarlier_epoch (s : State) (l : LaneId) (xchg : Nat) (c : TillContent) (key : Option Key) : (s.sendEarlier l xchg c key).epoch = s.epoch :=
  State.epoch_of_tx (s.sansTx_sendEarlier l xchg c key)
@[simp] theorem State.sendEarlier_settings (s : State) (l : LaneId) (xchg : Nat) (c : TillContent) (key : Option Key) : (s.sendEarlier l xchg c key).settings = s.settings :=
  State.settings_of_tx (s.sansTx_sendEarlier l xchg c key)
@[simp] theorem State.sendEarlier_standIn (s : State) (l : LaneId) (xchg : Nat) (c : TillContent) (key : Option Key) : (s.sendEarlier l xchg c key).standIn = s.standIn :=
  State.standIn_of_tx (s.sansTx_sendEarlier l xchg c key)
@[simp] theorem State.sendEarlier_slots (s : State) (l : LaneId) (xchg : Nat) (c : TillContent) (key : Option Key) : (s.sendEarlier l xchg c key).slots = s.slots :=
  State.slots_of_tx (s.sansTx_sendEarlier l xchg c key)
@[simp] theorem State.sendEarlier_lanes (s : State) (l : LaneId) (xchg : Nat) (c : TillContent) (key : Option Key) : (s.sendEarlier l xchg c key).lanes = s.lanes :=
  State.lanes_of_tx (s.sansTx_sendEarlier l xchg c key)
@[simp] theorem State.sendEarlier_exchanges (s : State) (l : LaneId) (xchg : Nat) (c : TillContent) (key : Option Key) : (s.sendEarlier l xchg c key).exchanges = s.exchanges :=
  State.exchanges_of_tx (s.sansTx_sendEarlier l xchg c key)
@[simp] theorem State.sendEarlier_engine (s : State) (l : LaneId) (xchg : Nat) (c : TillContent) (key : Option Key) : (s.sendEarlier l xchg c key).engine = s.engine :=
  State.engine_of_tx (s.sansTx_sendEarlier l xchg c key)
@[simp] theorem State.sendEarlier_sendQueue (s : State) (l : LaneId) (xchg : Nat) (c : TillContent) (key : Option Key) : (s.sendEarlier l xchg c key).sendQueue = s.sendQueue :=
  State.sendQueue_of_tx (s.sansTx_sendEarlier l xchg c key)
@[simp] theorem State.sendEarlier_reassembly (s : State) (l : LaneId) (xchg : Nat) (c : TillContent) (key : Option Key) : (s.sendEarlier l xchg c key).reassembly = s.reassembly :=
  State.reassembly_of_tx (s.sansTx_sendEarlier l xchg c key)
@[simp] theorem State.sendEarlier_answerQueue (s : State) (l : LaneId) (xchg : Nat) (c : TillContent) (key : Option Key) : (s.sendEarlier l xchg c key).answerQueue = s.answerQueue :=
  State.answerQueue_of_tx (s.sansTx_sendEarlier l xchg c key)
@[simp] theorem State.sendEarlier_monitor (s : State) (l : LaneId) (xchg : Nat) (c : TillContent) (key : Option Key) : (s.sendEarlier l xchg c key).monitor = s.monitor :=
  State.monitor_of_tx (s.sansTx_sendEarlier l xchg c key)
@[simp] theorem State.sendEarlier_log (s : State) (l : LaneId) (xchg : Nat) (c : TillContent) (key : Option Key) : (s.sendEarlier l xchg c key).log = s.log :=
  State.log_of_tx (s.sansTx_sendEarlier l xchg c key)
@[simp] theorem State.sendEarlier_scrub (s : State) (l : LaneId) (xchg : Nat) (c : TillContent) (key : Option Key) : (s.sendEarlier l xchg c key).scrub = s.scrub :=
  State.scrub_of_tx (s.sansTx_sendEarlier l xchg c key)
@[simp] theorem State.sendEarlier_upsets (s : State) (l : LaneId) (xchg : Nat) (c : TillContent) (key : Option Key) : (s.sendEarlier l xchg c key).upsets = s.upsets :=
  State.upsets_of_tx (s.sansTx_sendEarlier l xchg c key)
@[simp] theorem State.sendEarlier_events (s : State) (l : LaneId) (xchg : Nat) (c : TillContent) (key : Option Key) : (s.sendEarlier l xchg c key).events = s.events :=
  State.events_of_tx (s.sansTx_sendEarlier l xchg c key)
@[simp] theorem State.sendEarlier_device (s : State) (l : LaneId) (xchg : Nat) (c : TillContent) (key : Option Key) : (s.sendEarlier l xchg c key).device = s.device :=
  State.device_of_tx (s.sansTx_sendEarlier l xchg c key)
@[simp] theorem State.sendEarlier_store (s : State) (l : LaneId) (xchg : Nat) (c : TillContent) (key : Option Key) : (s.sendEarlier l xchg c key).store = s.store :=
  State.store_of_tx (s.sansTx_sendEarlier l xchg c key)
@[simp] theorem State.sendEarlier_persist (s : State) (l : LaneId) (xchg : Nat) (c : TillContent) (key : Option Key) : (s.sendEarlier l xchg c key).persist = s.persist :=
  State.persist_of_tx (s.sansTx_sendEarlier l xchg c key)
@[simp] theorem State.sendEarlier_nextStamp (s : State) (l : LaneId) (xchg : Nat) (c : TillContent) (key : Option Key) : (s.sendEarlier l xchg c key).nextStamp = s.nextStamp :=
  State.nextStamp_of_tx (s.sansTx_sendEarlier l xchg c key)
@[simp] theorem State.sendEarlier_nextSerial (s : State) (l : LaneId) (xchg : Nat) (c : TillContent) (key : Option Key) : (s.sendEarlier l xchg c key).nextSerial = s.nextSerial :=
  State.nextSerial_of_tx (s.sansTx_sendEarlier l xchg c key)
@[simp] theorem State.sendEarlier_freeCount (s : State) (l : LaneId) (xchg : Nat) (c : TillContent) (key : Option Key) : (s.sendEarlier l xchg c key).freeCount = s.freeCount :=
  State.freeCount_of_tx (s.sansTx_sendEarlier l xchg c key)
@[simp] theorem State.sendEarlier_wire (s : State) (l : LaneId) (xchg : Nat) (c : TillContent) (key : Option Key) : (s.sendEarlier l xchg c key).wire = s.wire :=
  State.wire_of_tx (s.sansTx_sendEarlier l xchg c key)
@[simp] theorem State.sendEarlier_pending (s : State) (l : LaneId) (xchg : Nat) (c : TillContent) (key : Option Key) : (s.sendEarlier l xchg c key).pending = s.pending :=
  State.pending_of_tx (s.sansTx_sendEarlier l xchg c key)

/-! ### grantHolds -/

@[simp] theorem State.grantHolds_phase (s : State)  : (s.grantHolds).phase = s.phase :=
  State.phase_of_control (s.sansControl_grantHolds)
@[simp] theorem State.grantHolds_startKind (s : State)  : (s.grantHolds).startKind = s.startKind :=
  State.startKind_of_control (s.sansControl_grantHolds)
@[simp] theorem State.grantHolds_startCount (s : State)  : (s.grantHolds).startCount = s.startCount :=
  State.startCount_of_control (s.sansControl_grantHolds)
@[simp] theorem State.grantHolds_clock (s : State)  : (s.grantHolds).clock = s.clock :=
  State.clock_of_control (s.sansControl_grantHolds)
@[simp] theorem State.grantHolds_servingSince (s : State)  : (s.grantHolds).servingSince = s.servingSince :=
  State.servingSince_of_control (s.sansControl_grantHolds)
@[simp] theorem State.grantHolds_epoch (s : State)  : (s.grantHolds).epoch = s.epoch :=
  State.epoch_of_control (s.sansControl_grantHolds)
@[simp] theorem State.grantHolds_settings (s : State)  : (s.grantHolds).settings = s.settings :=
  State.settings_of_control (s.sansControl_grantHolds)
@[simp] theorem State.grantHolds_standIn (s : State)  : (s.grantHolds).standIn = s.standIn :=
  State.standIn_of_control (s.sansControl_grantHolds)
@[simp] theorem State.grantHolds_slots (s : State)  : (s.grantHolds).slots = s.slots :=
  State.slots_of_control (s.sansControl_grantHolds)
@[simp] theorem State.grantHolds_lanes (s : State)  : (s.grantHolds).lanes = s.lanes :=
  State.lanes_of_control (s.sansControl_grantHolds)
@[simp] theorem State.grantHolds_exchanges (s : State)  : (s.grantHolds).exchanges = s.exchanges :=
  State.exchanges_of_control (s.sansControl_grantHolds)
@[simp] theorem State.grantHolds_engine (s : State)  : (s.grantHolds).engine = s.engine :=
  State.engine_of_control (s.sansControl_grantHolds)
@[simp] theorem State.grantHolds_sendQueue (s : State)  : (s.grantHolds).sendQueue = s.sendQueue :=
  State.sendQueue_of_control (s.sansControl_grantHolds)
@[simp] theorem State.grantHolds_reassembly (s : State)  : (s.grantHolds).reassembly = s.reassembly :=
  State.reassembly_of_control (s.sansControl_grantHolds)
@[simp] theorem State.grantHolds_answerQueue (s : State)  : (s.grantHolds).answerQueue = s.answerQueue :=
  State.answerQueue_of_control (s.sansControl_grantHolds)
@[simp] theorem State.grantHolds_monitor (s : State)  : (s.grantHolds).monitor = s.monitor :=
  State.monitor_of_control (s.sansControl_grantHolds)
@[simp] theorem State.grantHolds_log (s : State)  : (s.grantHolds).log = s.log :=
  State.log_of_control (s.sansControl_grantHolds)
@[simp] theorem State.grantHolds_scrub (s : State)  : (s.grantHolds).scrub = s.scrub :=
  State.scrub_of_control (s.sansControl_grantHolds)
@[simp] theorem State.grantHolds_upsets (s : State)  : (s.grantHolds).upsets = s.upsets :=
  State.upsets_of_control (s.sansControl_grantHolds)
@[simp] theorem State.grantHolds_events (s : State)  : (s.grantHolds).events = s.events :=
  State.events_of_control (s.sansControl_grantHolds)
@[simp] theorem State.grantHolds_device (s : State)  : (s.grantHolds).device = s.device :=
  State.device_of_control (s.sansControl_grantHolds)
@[simp] theorem State.grantHolds_store (s : State)  : (s.grantHolds).store = s.store :=
  State.store_of_control (s.sansControl_grantHolds)
@[simp] theorem State.grantHolds_persist (s : State)  : (s.grantHolds).persist = s.persist :=
  State.persist_of_control (s.sansControl_grantHolds)
@[simp] theorem State.grantHolds_nextStamp (s : State)  : (s.grantHolds).nextStamp = s.nextStamp :=
  State.nextStamp_of_control (s.sansControl_grantHolds)
@[simp] theorem State.grantHolds_nextSerial (s : State)  : (s.grantHolds).nextSerial = s.nextSerial :=
  State.nextSerial_of_control (s.sansControl_grantHolds)
@[simp] theorem State.grantHolds_freeCount (s : State)  : (s.grantHolds).freeCount = s.freeCount :=
  State.freeCount_of_control (s.sansControl_grantHolds)
@[simp] theorem State.grantHolds_wire (s : State)  : (s.grantHolds).wire = s.wire :=
  State.wire_of_control (s.sansControl_grantHolds)
@[simp] theorem State.grantHolds_pending (s : State)  : (s.grantHolds).pending = s.pending :=
  State.pending_of_control (s.sansControl_grantHolds)

/-! ## A lost commit group (R34, R180) -/

/-- What a lost group makes of a lane. -/
theorem State.loseGroup_lane (s : State) (g : CommitGroup) (last : LaneId → Bool) (l : LaneId) :
    (s.loseGroup g last).lane l = g.keepLost last l (s.lane l) := by
  unfold State.loseGroup State.writeFailed
  simp [State.lane]

theorem CommitGroup.keepLost_of_last (g : CommitGroup) (last : LaneId → Bool) (l : LaneId) (r : LaneRecord)
    (c : LaneConfig) (hl : last l = true) (hc : g.laneOf l = some c) :
    g.keepLost last l r = { r with lostCommit := some c } := by
  simp [CommitGroup.keepLost, hl, hc]

theorem CommitGroup.keepLost_of_later (g : CommitGroup) (last : LaneId → Bool) (l : LaneId) (r : LaneRecord)
    (h : last l = false ∨ g.laneOf l = none) : g.keepLost last l r = r := by
  unfold CommitGroup.keepLost
  rcases h with h | h
  · rw [h]
  · rw [h]
    cases last l <;> rfl

/-- The record a lane was last committed with stands in for its copy, where the group is lost. -/
theorem State.laneCopy_of_lost (s : State) (l : LaneId) (c : LaneConfig) (h : (s.lane l).lostCommit = some c) :
    s.laneCopy l = some c := by
  simp [State.laneCopy, h]

end Sys2Proof.Machine
end

