-- ==== Sys2Proof/Laws/Ports.lean ====
section
/-! SUPPORT. The two ports: what handing a frame leaves at each, and that no order grows past its capacity. -/

namespace Sys2Proof.Machine

@[simp] theorem Port.opposite_opposite (p : Port) : p.opposite.opposite = p := by
  cases p <;> rfl

theorem Port.opposite_ne (p : Port) : p.opposite ≠ p := by
  cases p <;> decide

theorem Port.eq_or_opposite (p q : Port) : q = p ∨ q = p.opposite := by
  cases p <;> cases q <;> decide

@[simp] theorem State.port_restartLeft (s : State) (p q : Port) (gone : Bool) :
    (s.restartLeft p gone).port q = s.port q := by
  cases gone <;> rfl

@[simp] theorem State.takeNext_opposite (s : State) (p : Port) :
    (s.takeNext p).port p.opposite = s.port p.opposite := by
  rcases s.takeNext_form p with h | ⟨h, e⟩
  · rw [h]
  · rw [e, State.port_setPort_opposite]

/-- Taking the next frame writes what the port transmits and which holder it was taken from. -/
theorem State.takeNext_port (s : State) (p : Port) :
    ∃ x h, (s.takeNext p).port p = { s.port p with transmitting := x, lastTaken := h } := by
  rcases s.takeNext_form p with h | ⟨h, e⟩
  · exact ⟨_, _, by rw [h]⟩
  · exact ⟨some h, h, by rw [e, State.port_setPort_same]⟩

@[simp] theorem State.takeNext_order (s : State) (p q : Port) :
    ((s.takeNext p).port q).order = (s.port q).order := by
  rcases Port.eq_or_opposite p q with h | h
  · obtain ⟨x, y, e⟩ := s.takeNext_port p
    rw [h, e]
  · rw [h, State.takeNext_opposite]

@[simp] theorem State.takeNext_carrier (s : State) (p q : Port) :
    ((s.takeNext p).port q).carrier = (s.port q).carrier := by
  rcases Port.eq_or_opposite p q with h | h
  · obtain ⟨x, y, e⟩ := s.takeNext_port p
    rw [h, e]
  · rw [h, State.takeNext_opposite]

@[simp] theorem State.takeNext_counters (s : State) (p q : Port) :
    ((s.takeNext p).port q).counters = (s.port q).counters := by
  rcases Port.eq_or_opposite p q with h | h
  · obtain ⟨x, y, e⟩ := s.takeNext_port p
    rw [h, e]
  · rw [h, State.takeNext_opposite]

@[simp] theorem State.port_countPort_same (s : State) (p : Port) (f : PortCounters → PortCounters) :
    (s.countPort p f).port p = { s.port p with counters := f (s.port p).counters } := State.port_setPort_same _ _ _

@[simp] theorem State.port_countPort_opposite (s : State) (p : Port) (f : PortCounters → PortCounters) :
    (s.countPort p f).port p.opposite = s.port p.opposite := State.port_setPort_opposite _ _ _

/-- A frame handed to one port leaves the other as it was. -/
@[simp] theorem State.handFrame_opposite (s : State) (p : Port) (f : OutFrame) :
    (s.handFrame p f).port p.opposite = s.port p.opposite := by
  unfold State.handFrame
  split
  · simp
  · split <;> simp

@[simp] theorem State.handFrame_carrier (s : State) (p q : Port) (f : OutFrame) :
    ((s.handFrame p f).port q).carrier = (s.port q).carrier := by
  rcases Port.eq_or_opposite p q with h | h
  · subst h
    unfold State.handFrame
    split
    · simp
    · split <;> simp
  · rw [h, State.handFrame_opposite]

/-- A frame handed to a port with room stands last in its order. -/
theorem State.handFrame_order (s : State) (p : Port) (f : OutFrame) (hc : (s.port p).carrier = true)
    (hr : (s.port p).order.length < Config.orderCapacity) :
    ((s.handFrame p f).port p).order = (s.port p).order ++ [f] := by
  unfold State.handFrame
  rw [if_neg (by simp [hc]), if_neg (by omega)]
  simp

/-- Handing a frame keeps every order within its capacity. -/
theorem State.handFrame_ordersFit (s : State) (p : Port) (f : OutFrame)
    (h : ∀ q, (s.port q).order.length ≤ Config.orderCapacity) (q : Port) :
    ((s.handFrame p f).port q).order.length ≤ Config.orderCapacity := by
  rcases Port.eq_or_opposite p q with e | e
  · subst e
    unfold State.handFrame
    split
    · simpa using h q
    · split
      · simpa using h q
      · rename_i hr
        simp only [State.takeNext_order, State.port_setPort_same, List.length_append, List.length_singleton]
        omega
  · rw [e, State.handFrame_opposite]
    exact h p.opposite

@[simp] theorem State.ports_latchEvent (s : State) (k : EventNumber) (p : Port) :
    (s.latchEvent k).port p = s.port p := rfl

/-- A property of the ports that handing a frame keeps, raising an event keeps. -/
theorem State.raise_ports_keep (P : PerPort PortState → Prop)
    (hand : ∀ (s : State) (p : Port) (f : OutFrame), P s.ports → P (s.handFrame p f).ports) (s : State)
    (d : EventDetails) (h : P s.ports) : P (s.raise d).ports := by
  have fold : ∀ (k : Nat) (ps : List Port) (t : State), P t.ports →
      P (ps.foldl (fun u p => u.handFrame p (u.notice p d k)) t).ports := by
    intro k ps
    induction ps with
    | nil => exact fun t ht => ht
    | cons p ps ih => exact fun t ht => ih _ (hand t p _ ht)
  unfold State.raise
  dsimp only
  split
  · exact h
  · split
    · exact fold _ _ _ h
    · exact h

theorem State.raise_ordersFit (s : State) (d : EventDetails)
    (h : ∀ q, (s.port q).order.length ≤ Config.orderCapacity) (q : Port) :
    ((s.raise d).port q).order.length ≤ Config.orderCapacity :=
  State.raise_ports_keep (fun x => ∀ q, (x.at q).order.length ≤ Config.orderCapacity)
    (fun t p f ht => t.handFrame_ordersFit p f ht) s d h q

@[simp] theorem State.raise_carrier (s : State) (d : EventDetails) (q : Port) :
    ((s.raise d).port q).carrier = (s.port q).carrier :=
  State.raise_ports_keep (fun x => (x.at q).carrier = (s.port q).carrier)
    (fun t p f ht => (t.handFrame_carrier p q f).trans ht) s d rfl

end Sys2Proof.Machine
end

