-- ==== Sys2Proof/Laws/Store.lean ====
section
/-! SUPPORT. The records of the Persistent Store: what reading a record answers while a write begins and once it has
completed, the one form of the stored log, and that every operation on the store keeps it. -/

namespace Sys2Proof.Machine

/-! ## One record -/

@[simp] theorem Stored.read_begin {α : Type} (x : Stored α) : x.begin.read = x.read := by
  unfold Stored.begin Stored.read
  cases x.present <;> cases x.alternate <;> rfl

@[simp] theorem Stored.read_complete {α : Type} (x : Stored α) (a : α) : (x.complete a).read = some a := rfl

@[simp] theorem Stored.read_both {α : Type} (a : α) : (Stored.both a).read = some a := rfl

/-! ## The stored log -/

abbrev StoredLog := List (PlaceId × Stored (Option LogEntry))

/-- What the form says of a list's head. -/
theorem logForm_cons {p : PlaceId} {v : Stored (Option LogEntry)} {rest : StoredLog} :
    logForm ((p, v) :: rest) = true ↔ v ≠ freeStored ∧ (∀ x ∈ rest, p < x.1) ∧ logForm rest = true := by
  simp [logForm, and_assoc]

/-- A place below every listed one reads as the factory left it. -/
theorem logGet_below {m : StoredLog} {p : PlaceId} (h : ∀ x ∈ m, p < x.1) : logGet m p = freeStored := by
  induction m with
  | nil => rfl
  | cons x rest ih =>
    obtain ⟨q, w⟩ := x
    have hq : q ≠ p := fun e => absurd (h (q, w) (by simp)) (by simp [e])
    rw [logGet, if_neg hq]
    exact ih (fun x hx => h x (by simp [hx]))

theorem logPut_mem {m : StoredLog} {p : PlaceId} {v : Stored (Option LogEntry)}
    {x : PlaceId × Stored (Option LogEntry)} (h : x ∈ logPut m p v) : x.1 = p ∨ x ∈ m := by
  induction m with
  | nil =>
    unfold logPut at h
    split at h <;> simp_all
  | cons y rest ih =>
    obtain ⟨q, w⟩ := y
    unfold logPut at h
    split at h
    · split at h <;> simp_all
      rcases h with h | h | h <;> simp_all
    · split at h
      · split at h <;> simp_all
        rcases h with h | h <;> simp_all
      · rcases List.mem_cons.mp h with h | h
        · exact .inr (by simp [h])
        · rcases ih h with h | h
          · exact .inl h
          · exact .inr (by simp [h])

/-- A write keeps the form. -/
theorem logForm_logPut {m : StoredLog} (p : PlaceId) (v : Stored (Option LogEntry)) (h : logForm m = true) :
    logForm (logPut m p v) = true := by
  induction m with
  | nil =>
    unfold logPut
    split
    · rfl
    · rename_i hv
      exact logForm_cons.mpr ⟨hv, by simp, rfl⟩
  | cons y rest ih =>
    obtain ⟨q, w⟩ := y
    obtain ⟨hw, hr, hf⟩ := logForm_cons.mp h
    unfold logPut
    split
    · rename_i hpq
      split
      · exact h
      · rename_i hv
        refine logForm_cons.mpr ⟨hv, ?_, h⟩
        intro x hx
        rcases List.mem_cons.mp hx with hx | hx
        · rw [hx]; exact hpq
        · exact hpq.trans (hr x hx)
    · rename_i hpq
      split
      · rename_i hqp
        subst hqp
        split
        · exact hf
        · rename_i hv
          exact logForm_cons.mpr ⟨hv, hr, hf⟩
      · rename_i hqp
        refine logForm_cons.mpr ⟨hw, ?_, ih hf⟩
        intro x hx
        rcases logPut_mem hx with hx | hx
        · rw [hx]; exact lt_of_le_of_ne (not_lt.mp hpq) hqp
        · exact hr x hx

/-- A place that was written reads as what was written. -/
theorem logGet_logPut_same {m : StoredLog} (p : PlaceId) (v : Stored (Option LogEntry)) (h : logForm m = true) :
    logGet (logPut m p v) p = v := by
  induction m with
  | nil =>
    unfold logPut
    split
    · rename_i hv; rw [hv]; rfl
    · simp [logGet]
  | cons y rest ih =>
    obtain ⟨q, w⟩ := y
    obtain ⟨hw, hr, hf⟩ := logForm_cons.mp h
    unfold logPut
    split
    · rename_i hpq
      split
      · rename_i hv
        rw [hv]
        refine logGet_below (fun x hx => ?_)
        rcases List.mem_cons.mp hx with hx | hx
        · rw [hx]; exact hpq
        · exact hpq.trans (hr x hx)
      · simp [logGet]
    · split
      · rename_i hqp
        subst hqp
        split
        · rename_i hv
          rw [hv]
          exact logGet_below hr
        · simp [logGet]
      · rename_i hqp
        rw [logGet, if_neg hqp]
        exact ih hf

/-- Every other place reads as before. -/
theorem logGet_logPut_ne {m : StoredLog} {p q : PlaceId} (v : Stored (Option LogEntry)) (hne : q ≠ p) :
    logGet (logPut m p v) q = logGet m q := by
  induction m with
  | nil =>
    unfold logPut
    split
    · rfl
    · simp [logGet, hne.symm]
  | cons y rest ih =>
    obtain ⟨r, w⟩ := y
    unfold logPut
    split
    · split
      · rfl
      · rw [logGet, if_neg hne.symm]
    · split
      · rename_i hrp
        subst hrp
        split
        · rw [logGet, if_neg hne.symm]
        · rw [logGet, if_neg hne.symm, logGet, if_neg hne.symm]
      · rw [logGet, logGet, ih]

/-! ## The store's operations keep the form -/

theorem PersistentStore.modSlot_log (t : PersistentStore) (n : SlotId) (f : Stored SlotRecord → Stored SlotRecord) :
    (t.modSlot n f).log = t.log := rfl

theorem PersistentStore.modLane_log (t : PersistentStore) (l : LaneId) (f : Stored LaneConfig → Stored LaneConfig) :
    (t.modLane l f).log = t.log := rfl

theorem PersistentStore.modClass_log (t : PersistentStore) (c : CardClass)
    (f : Stored ClassRecord → Stored ClassRecord) : (t.modClass c f).log = t.log := rfl

theorem PersistentStore.modPlace_form (t : PersistentStore) (p : PlaceId)
    (f : Stored (Option LogEntry) → Stored (Option LogEntry)) (h : logForm t.log = true) :
    logForm (t.modPlace p f).log = true := logForm_logPut p _ h

theorem foldl_log {α : Type} (op : PersistentStore → α → PersistentStore) (h : ∀ t a, (op t a).log = t.log)
    (xs : List α) (t : PersistentStore) : (xs.foldl op t).log = t.log := by
  induction xs generalizing t with
  | nil => rfl
  | cons a xs ih => rw [List.foldl_cons, ih, h]

theorem CommitGroup.onStore_log (g : CommitGroup) (t : PersistentStore)
    (settings : SettingsBlock → Stored SettingsBlock → Stored SettingsBlock)
    (slots : SlotRecord → Stored SlotRecord → Stored SlotRecord)
    (lanes : LaneConfig → Stored LaneConfig → Stored LaneConfig)
    (classes : ClassRecord → Stored ClassRecord → Stored ClassRecord) :
    (g.onStore t settings slots lanes classes).log = t.log := by
  unfold CommitGroup.onStore
  dsimp only
  rw [foldl_log _ (fun t x => t.modClass_log _ _), foldl_log _ (fun t x => t.modLane_log _ _),
    foldl_log _ (fun t x => t.modSlot_log _ _)]
  split <;> rfl

/-- A write that begins keeps the form of the stored log. -/
theorem Write.beginOn_form (w : Write) (t : PersistentStore) (h : logForm t.log = true) :
    logForm (w.beginOn t).log = true := by
  cases w with
  | group g => rw [Write.beginOn, CommitGroup.onStore_log]; exact h
  | append e src till => exact t.modPlace_form _ _ h
  | update e => exact t.modPlace_form _ _ h
  | removal p n c => exact t.modPlace_form _ _ h
  | _ => exact h

/-- A write that completes keeps the form of the stored log. -/
theorem Write.completeOn_form (w : Write) (m : Option LaneConfig) (t : PersistentStore) (h : logForm t.log = true) :
    logForm (w.completeOn m t).log = true := by
  cases w with
  | group g => rw [Write.completeOn, CommitGroup.onStore_log]; exact h
  | append e src till => exact t.modPlace_form _ _ h
  | update e => exact t.modPlace_form _ _ h
  | removal p n c => exact t.modPlace_form _ _ h
  | _ => exact h

theorem PersistentStore.decay_form (t : PersistentStore) (d : Decay) (h : logForm t.log = true) :
    logForm (t.decay d).log = true := by
  unfold PersistentStore.decay
  split
  · exact h
  · exact h
  · exact h
  · exact h
  · exact h
  · exact t.modPlace_form _ _ h
  · exact h

theorem PersistentStore.decays_form (ds : List Decay) (t : PersistentStore) (h : logForm t.log = true) :
    logForm (ds.foldl PersistentStore.decay t).log = true := by
  induction ds generalizing t with
  | nil => exact h
  | cons d ds ih => exact ih _ (t.decay_form d h)

/-- A lane-state write ends with the record it began with, whatever has become of the present copy since (R178). -/
theorem completeLaneState_read (c : LaneConfig) (x : Stored LaneConfig) :
    (completeLaneState (some c) x).read = some c := rfl

/-- Only a lane-state write carries a whole lane record (R178). -/
theorem Write.imageOn_some {w : Write} {t : PersistentStore} {c : LaneConfig} (h : w.imageOn t = some c) :
    ∃ l st old, w = .laneState l st ∧ t.lanes[l].read = some old ∧ c = { old with state := st } := by
  unfold Write.imageOn at h
  split at h
  · obtain ⟨old, ho, rfl⟩ := Option.map_eq_some_iff.mp h
    exact ⟨_, _, old, rfl, ho, rfl⟩
  · cases h

/-- The queue's pump keeps the form. -/
theorem State.pump_storeForm (s : State) (h : logForm s.store.log = true) : logForm s.pump.store.log = true := by
  unfold State.pump
  split
  · exact Write.beginOn_form _ _ h
  · exact h

theorem State.endWrite_storeForm (s : State) (w : Write) (r : WriteResult) (h : logForm s.store.log = true) :
    logForm (s.endWrite w r).store.log = true := by
  refine State.pump_storeForm _ ?_
  cases r
  · exact Write.completeOn_form w _ s.store h
  · exact h

theorem State.setWaiting_storeForm (s : State) (ws : List Write) (h : logForm s.store.log = true) :
    logForm (s.setWaiting ws).store.log = true := State.pump_storeForm _ h

theorem State.enqueue_storeForm (s : State) (join : List Write → List Write) (failed : State → State)
    (h : logForm s.store.log = true) (hf : (failed s).store = s.store) :
    logForm (s.enqueue join failed).store.log = true := by
  unfold State.enqueue
  split
  · rw [hf]; exact h
  · exact s.setWaiting_storeForm _ h

theorem State.replaceOrAppend_storeForm (s : State) (stop hit : Write → Bool) (new : Write) (failed : State → State)
    (h : logForm s.store.log = true) (hf : (failed s).store = s.store) :
    logForm (s.replaceOrAppend stop hit new failed).store.log = true := by
  unfold State.replaceOrAppend
  split
  · exact s.setWaiting_storeForm _ h
  · exact s.enqueue_storeForm _ _ h hf

/-! ## The number of writes -/

theorem State.unwritten_pump (s : State) : s.pump.persist.unwritten = s.persist.unwritten := by
  unfold State.pump PersistQueue.unwritten
  split
  · rename_i hc hw
    simp [hc, hw]
  · rfl

theorem State.unwritten_setWaiting (s : State) (ws : List Write) :
    (s.setWaiting ws).persist.unwritten = s.persist.current.toList ++ ws := State.unwritten_pump _

theorem replaceLast_length (stop hit : Write → Bool) (new : Write) (ws vs : List Write)
    (h : replaceLast stop hit new ws = some vs) : vs.length = ws.length := by
  induction ws generalizing vs with
  | nil => simp [replaceLast] at h
  | cons w r ih =>
    unfold replaceLast at h
    split at h
    · simp at h
    · split at h
      · simp only [Option.some.injEq] at h
        simp [← h]
      · simp only [Option.map_eq_some_iff] at h
        obtain ⟨xs, hx, rfl⟩ := h
        simp [ih xs hx]

theorem replaceLast_mem (stop hit : Write → Bool) (new : Write) (ws vs : List Write)
    (h : replaceLast stop hit new ws = some vs) : new ∈ vs := by
  induction ws generalizing vs with
  | nil => simp [replaceLast] at h
  | cons w r ih =>
    unfold replaceLast at h
    split at h
    · simp at h
    · split at h
      · simp only [Option.some.injEq] at h
        simp [← h]
      · simp only [Option.map_eq_some_iff] at h
        obtain ⟨xs, hx, rfl⟩ := h
        simp [ih xs hx]

/-- A write queued while the queue is not full is among those still to be written. -/
theorem State.mem_replaceOrAppend (s : State) (stop hit : Write → Bool) (new : Write) (failed : State → State)
    (h : s.persist.full = false) : new ∈ (s.replaceOrAppend stop hit new failed).persist.unwritten := by
  unfold State.replaceOrAppend
  split
  · rename_i ws hw
    rw [State.unwritten_setWaiting]
    simp [replaceLast_mem stop hit new _ _ hw]
  · unfold State.enqueue
    rw [if_neg (by simp [h]), State.unwritten_setWaiting]
    simp

/-- At a full queue a write takes an earlier one's place, or fails. -/
theorem State.replaceOrAppend_of_full (s : State) (stop hit : Write → Bool) (new : Write) (failed : State → State)
    (h : s.persist.full = true) (hc : s.persist.current.isSome = true) :
    (∃ ws, ws.length = s.persist.waiting.length ∧
      s.replaceOrAppend stop hit new failed = { s with persist := { s.persist with waiting := ws } }) ∨
    s.replaceOrAppend stop hit new failed = failed s := by
  unfold State.replaceOrAppend
  split
  · rename_i ws hw
    refine Or.inl ⟨ws.reverse, by simpa using replaceLast_length stop hit new _ _ hw, ?_⟩
    obtain ⟨w, hw⟩ := Option.isSome_iff_exists.1 hc
    unfold State.setWaiting State.pump
    simp only [hw]
  · exact Or.inr (by rw [State.enqueue, if_pos h])

/-! ## Where a ceiling write joins, and what a failed group takes out of the queue (R53) -/

/-- A ceiling write that joins is added, and no other write is lost or doubled. -/
theorem joinCeiling_perm (new : Write) (ws : List Write) : (joinCeiling new ws).Perm (new :: ws) := by
  induction ws with
  | nil => exact .refl _
  | cons w r ih =>
    unfold joinCeiling
    split
    · exact (ih.cons w).trans (.swap new w r)
    · exact .refl _

theorem joinBehind_perm (l : LaneId) (new : Write) (ws : List Write) : (joinBehind l new ws).Perm (new :: ws) := by
  induction ws with
  | nil => exact .refl _
  | cons w r ih =>
    unfold joinBehind
    split
    · exact (ih.cons w).trans (.swap new w r)
    · exact joinCeiling_perm new _

/-- Where no group of the lane waits, the write joins as any ceiling write. -/
theorem joinBehind_of_none (l : LaneId) (new : Write) (ws : List Write) (h : ws.any (Write.touchesLane l) = false) :
    joinBehind l new ws = joinCeiling new ws := by
  cases ws with
  | nil => rfl
  | cons w r => unfold joinBehind; rw [if_neg (by simp only [h]; decide)]

/-- The write joins directly behind the lane's last group that waits and the ceiling writes there. -/
theorem joinBehind_append (l : LaneId) (new g : Write) (before behind : List Write) (hg : g.touchesLane l = true)
    (h : behind.any (Write.touchesLane l) = false) :
    joinBehind l new (before ++ g :: behind) = before ++ g :: joinCeiling new behind := by
  induction before with
  | nil =>
    simp only [List.nil_append, joinBehind, List.any_cons, hg, Bool.true_or, if_true]
    rw [joinBehind_of_none l new behind h]
  | cons w r ih =>
    simp only [List.cons_append, joinBehind]
    rw [if_pos (by simp [hg]), ih]

/-- The lanes whose advances leave the queue when the group fails. -/
theorem PersistQueue.mem_standOn (q : PersistQueue) (g : CommitGroup) (t : PersistentStore) (l : LaneId) :
    l ∈ q.standOn g t ↔ (∃ c, (l, c) ∈ g.lanes) ∧
      ∃ w ∈ q.waiting.takeWhile Write.isCeiling, w.isCeilingOf l = true ∧ t.founds w = false := by
  simp [PersistQueue.standOn]

/-- Dropping the ceiling writes of several lanes leaves the writes of the others, in their order. -/
theorem State.waiting_dropCeilings (ls : List LaneId) (s : State) :
    (ls.foldl State.dropCeilings s).persist.waiting =
      s.persist.waiting.filter (fun w => ls.all (fun l => !w.isCeilingOf l)) := by
  induction ls generalizing s with
  | nil => simp
  | cons l r ih =>
    rw [List.foldl_cons, ih]
    simp only [State.dropCeilings, List.filter_filter, List.all_cons]
    congr 1
    funext w
    exact Bool.and_comm _ _

end Sys2Proof.Machine
end

