-- ==== Sys2Proof/WellFormed.lean ====
section
/-! DEFINITION. When a command is well formed: its frame is one that its row names, and the syndromes of its wear
are syndromes. The part itself reads a frame's bytes alone (log 7), so a command that is not well formed still has
a meaning. -/

namespace Sys2Proof

/-- The kind a lane frame's kind byte names, where the payload is long enough to hold one. -/
def laneKindOf (f : EthFrame) : Option LaneKind := (Machine.numField f.payload 4 1).bind Machine.readLaneKind

/-- The kind an inbound envelope's kind byte names. -/
def envelopeKindOf (f : EthFrame) : Option EnvelopeKind := (Machine.numField f.payload 0 1).bind Machine.readInboundKind

/-- Whether a frame is a lane frame of a kind (R2, 13.1.1). -/
def isLaneFrame (f : EthFrame) (k : LaneKind) : Bool :=
  decide (f.etype = Config.laneType) && decide (laneKindOf f = some k)

/-- Whether a frame is a chain envelope of a kind (R2, 13.2). -/
def isEnvelope (f : EthFrame) (k : EnvelopeKind) : Bool :=
  decide (f.etype = Config.chainType) && decide (envelopeKindOf f = some k)

/-- The request a control frame makes (R162, R165); none when it is too short or its request is unknown. -/
def requestOf (f : EthFrame) : Option Machine.Request :=
  if f.etype = Config.controlType then (Machine.readControl f).bind Machine.ControlFrame.read else none

/-- Whether a frame is an ASK of a table. -/
def isAsk (f : EthFrame) (t : Machine.AskTable) : Bool :=
  match requestOf f with
  | some (.ask u _ _ _) => decide (u = t)
  | _ => false

/-- Whether a frame is a SET-LANE of an action. -/
def isSetLane (f : EthFrame) (a : LaneAction) : Bool :=
  match requestOf f with
  | some (.setLane _ b) => decide (b = a)
  | _ => false

/-- Whether a frame is a control frame long enough for the tag check, with a request that is unknown (R162, R165). -/
def isUnknownRequest (f : EthFrame) : Bool :=
  decide (f.etype = Config.controlType) && (Machine.readControl f).isSome && (requestOf f).isNone

/-- Whether every single upset names a syndrome, which is nonzero (R153). -/
def Wear.wf (w : Wear) : Bool :=
  w.upsets.all (fun x => match x.2 with
    | .single syn _ => decide (syn ≠ 0)
    | .worsening syn _ => decide (syn ≠ 0)
    | .uncorrectable _ => true)

/-- When a command is well formed. -/
def Instr.wf : Instr → Bool
  | .powerApplied _ => true
  | .resetLine _ => true
  | .restartReplyLeft _ => true
  | .enterServing _ => true
  | .frameReceived p f =>
    !(decide (p = .s) && decide (f.etype = Config.laneType)) &&
      !(decide (p = .c) && decide (f.etype = Config.chainType))
  | .pauseFrame _ _ => true
  | .pay f => isLaneFrame f .pay
  | .reverse f => isLaneFrame f .reverse
  | .enrol f => isLaneFrame f .enrol
  | .askState f => isLaneFrame f .askState
  | .answerEnvelope f => isEnvelope f .answer
  | .reversalAck f => isEnvelope f .reversalAck
  | .probeEcho f => isEnvelope f .probeEcho
  | .askLane _ f => isAsk f .lane
  | .askSlot _ f => isAsk f .slot
  | .askExchange _ f => isAsk f .exchange
  | .askLog _ f => isAsk f .log
  | .askStandin _ f => isAsk f .standIn
  | .askSettings _ f => isAsk f .settings
  | .askCounters _ f => isAsk f .counters
  | .askFaults _ f => isAsk f .faults
  | .askEvents _ f => isAsk f .events
  | .stage _ f => match requestOf f with
    | some (.stage _ _ _) => true
    | _ => false
  | .commit _ f => decide (requestOf f = some .commit)
  | .discard _ f => decide (requestOf f = some .discard)
  | .hold _ f => match requestOf f with
    | some (.hold _ _) => true
    | _ => false
  | .release _ f => decide (requestOf f = some .release)
  | .setLaneReady _ f => isSetLane f .ready
  | .setLaneSuspend _ f => isSetLane f .suspend
  | .setLaneTest _ f => isSetLane f .test
  | .setLaneUnused _ f => isSetLane f .unused
  | .setLaneClearVolatile _ f => isSetLane f .clearVolatile
  | .restart _ f => decide (requestOf f = some .restart)
  | .unknownRequest _ f => isUnknownRequest f
  | .engineGrant w => w.wf
  | .payJob => true
  | .reverseJob => true
  | .enrolJob => true
  | .askStateJob => true
  | .answerJob => true
  | .reversalJob => true
  | .repeatJob => true
  | .paymentDeadline _ => true
  | .reversingDeadline _ => true
  | .logSendDeadline _ => true
  | .drainSend => true
  | .holdGrant => true
  | .holdLimit _ => true
  | .changeSetIdleLimit _ => true
  | .probeTimer => true
  | .reassemblyLimit _ => true
  | .scrubStep w => w.wf
  | .portFrameTransmit _ => true
  | .sendQueueTransmit => true
  | .sPortCarrierLost => true
  | .sPortCarrierReturns => true
  | .cPortCarrierLost _ => true
  | .cPortCarrierReturns => true
  | .commitGroupWrite _ => true
  | .ceilingWriteDone => true
  | .ceilingWriteFailed => true
  | .laneStateWrite _ => true
  | .slotStateWrite _ => true
  | .appendWriteDone => true
  | .appendWriteFailed => true
  | .logUpdateWrite _ => true
  | .logRemovalWrite _ => true
  | .malformedLaneFrame f =>
    decide (f.etype = Config.laneType) && (match Machine.readLaneFrame f with
      | .good _ => false
      | .tooShort => true
      | .malformed _ _ => true)
  | .malformedEnvelope f => decide (f.etype = Config.chainType) && (Machine.readEnvelope f).isNone

end Sys2Proof
end

