-- ==== Sys2Proof/Tests/Slice0.lean ====
section
/-! SUPPORT. Small tests of the model: each check of the well-formedness of commands, and, for every statement of
Certificates/Slice0/Obligations.lean that has hypotheses, a state and operands that meet them, clause by clause. -/

namespace Sys2Proof.Tests

set_option Elab.async false

open Sys2Proof.Machine Sys2Proof.Safety

/-! ## Frames -/

/-- A lane frame with a tag of zeros. -/
def laneFrame (kind : Byte) (target : Byte) (body : Bytes) : EthFrame :=
  ⟨2, 9, Config.laneType, [0, 100, 0, 7, kind, 0, target, 0, BitVec.ofNat 8 body.length] ++ body ++ beBytes 8 0⟩

/-- What the outer checks read from it. -/
def laneRead (kind : LaneKind) (target : Option Nat) (body : Bytes) : LaneFrame := ⟨9, kind, 100, 7, target, body, 0⟩

/-- An envelope frame of one segment or a part of one, with a tag of zeros. -/
def chainFrame (kind index count len : Nat) (body : Bytes) : EthFrame :=
  ⟨4, 9, Config.chainType, [BitVec.ofNat 8 kind] ++ beBytes 8 5 ++ beBytes 4 3 ++ beBytes 4 0 ++ beBytes 4 1 ++
    [1, BitVec.ofNat 8 index, BitVec.ofNat 8 count] ++ beBytes 2 len ++ body ++ beBytes 8 0⟩

/-- The envelope that such a frame reads as. -/
def chainRead (kind : EnvelopeKind) (body : Bytes) : Envelope := ⟨kind, 5, 3, 0, 1, .live, body, 0⟩

/-- A control frame with a tag of zeros. -/
def looseControl (request : Byte) (args : Bytes) : EthFrame :=
  ⟨2, 9, Config.controlType, controlFields 1 1 request args ++ beBytes 8 0⟩

/-! ## Well-formed commands -/

theorem test_illFormedFramesRefused :
    [Instr.frameReceived .s (laneFrame 1 0 []), .frameReceived .c (chainFrame 17 1 1 0 []), .pay (laneFrame 2 3 []),
      .reverse (laneFrame 1 0 []), .enrol (laneFrame 1 0 []), .askState (laneFrame 5 0 []),
      .answerEnvelope (chainFrame 18 1 1 0 []), .reversalAck (chainFrame 17 1 1 0 []),
      .probeEcho (chainFrame 20 1 1 0 []), .malformedLaneFrame (laneFrame 1 0 []),
      .malformedEnvelope (chainFrame 17 1 1 0 []), .engineGrant ⟨[(3, .single 0 false)], []⟩,
      .scrubStep ⟨[(3, .single 0 true)], []⟩, .scrubStep ⟨[(3, .worsening 0 false)], []⟩].all (fun c => !c.wf) = true := by decide +kernel

theorem test_illFormedRequestsRefused :
    [Instr.askLane .s (looseControl 1 [2, 0, 0, 1, 0]), .askSlot .s (looseControl 1 [1, 0, 0, 1, 0]),
      .askExchange .s (looseControl 1 [6, 0, 0, 1, 0]), .askLog .s (looseControl 1 [5, 0, 0, 1, 0]),
      .askStandin .s (looseControl 1 [4, 0, 0, 1, 0]), .askSettings .s (looseControl 1 [3, 0, 0, 1, 0]),
      .askCounters .s (looseControl 1 [8, 0, 0, 1, 0]), .askFaults .s (looseControl 1 [9, 0, 0, 1, 0]),
      .askEvents .s (looseControl 1 [9, 0, 0, 1, 2]), .stage .s (looseControl 3 []),
      .commit .s (looseControl 4 []), .discard .s (looseControl 3 []), .hold .s (looseControl 5 [2]),
      .release .s (looseControl 6 [0]), .setLaneReady .s (looseControl 7 [0, 2]),
      .setLaneSuspend .s (looseControl 7 [0, 1]), .setLaneTest .s (looseControl 7 [0, 4]),
      .setLaneUnused .s (looseControl 7 [0, 3]), .setLaneClearVolatile .s (looseControl 7 [0, 6]),
      .restart .s (looseControl 9 []), .unknownRequest .s (looseControl 8 [])].all (fun c => !c.wf) = true := by
  decide +kernel

theorem test_wellFormedAccepted :
    [Instr.frameReceived .c (laneFrame 1 0 []), .pay (laneFrame 1 0 []), .reverse (laneFrame 2 3 []),
      .enrol (laneFrame 3 0 []), .askState (laneFrame 4 0 []), .answerEnvelope (chainFrame 17 1 1 0 []),
      .reversalAck (chainFrame 18 1 1 0 []), .probeEcho (chainFrame 19 1 1 0 []),
      .malformedLaneFrame (laneFrame 1 3 []), .malformedEnvelope (chainFrame 17 1 1 1 []),
      .engineGrant ⟨[(3, .single 1 false)], []⟩, .scrubStep ⟨[(3, .worsening 1 true)], []⟩, .askLane .s (looseControl 1 [1, 0, 0, 1, 0]),
      .stage .s (looseControl 2 [2, 0, 5, 0, 1, 2]), .commit .s (looseControl 3 []), .discard .s (looseControl 4 []),
      .hold .s (looseControl 5 [2, 3]), .release .s (looseControl 6 []), .setLaneTest .s (looseControl 7 [0, 3]),
      .restart .s (looseControl 8 []), .unknownRequest .s (looseControl 9 [])].all Instr.wf = true := by
  decide +kernel

/-! ## A part that serves -/

/-- A terminal identity of eight printable characters. -/
def who : TerminalId := 0x4142434445464748

/-- A lane in READY whose keys are in slots 2 and 3. -/
def lane : LaneRecord where
  config := ⟨.ready, some 100, some who, none, false, some 2, some 3, some 1, 1, 513⟩
  counter := 1
  mailbox := none
  openPayment := none
  tagFailures := 0
  lastAccepted := none
  recent := []
  advancePending := false
  counters := zeroLaneCounters
  lostCommit := none

def linkSlot : SlotRecord := ⟨.active, some .link, 1, none, some 7, []⟩

def baseSlot : SlotRecord := ⟨.active, some .base, 1, none, some 8, [who]⟩

/-- A store with a lane 0 and its slots, whose identity is bound in the base slot. -/
def keeping (c : LaneConfig) : PersistentStore :=
  { factoryStore with
    lanes := factoryStore.lanes.set 0 (.both c)
    slots := (factoryStore.slots.set 2 (.both linkSlot)).set 3 (.both baseSlot) }

/-- A SERVING part with both carriers, known station addresses and control keys, link and base keys in slots 2 and
3, and nothing in flight. -/
def part : State where
  phase := .serving
  startKind := .cold
  startCount := 0
  clock := 9000
  servingSince := 1000
  epoch := 1
  settings := { factorySettings with sStation := 2, cStation := 4 }
  standIn := Vector.replicate 10 ⟨true, 0, 1000, 5, 30⟩
  slots := ((((Vector.replicate 96 emptySlot).set 0 ⟨.active, some .control, 0, none, some 5, []⟩).set 1
    ⟨.active, some .control, 0, none, some 6, []⟩).set 2 linkSlot).set 3 baseSlot
  lanes := (State.reset.lanes).set 0 lane
  exchanges := Vector.replicate 160 none
  engine := ⟨none, 47, 1⟩
  sendQueue := []
  reassembly := Vector.replicate 4 none
  answerQueue := []
  monitor := ⟨.up, 0, some 10000, 4194307, 4194306⟩
  log := []
  scrub := ⟨0, 9000, Vector.replicate 145 clearFaultEntry, [], none, 0⟩
  upsets := []
  events := Vector.replicate 18 clearLatch
  device := zeroDeviceCounters
  ports := ⟨⟨true, [], none, .order, 0, zeroPortCounters⟩, ⟨true, [], none, .order, 0, zeroPortCounters⟩⟩
  control := ⟨resetControl, resetControl⟩
  store := keeping lane.config
  persist := ⟨none, [], none⟩
  nextStamp := 0
  nextSerial := 0
  freeCount := 0
  wire := []
  pending := []

/-- The part with another lane 0. -/
def partWith (r : LaneRecord) : State := { part with lanes := part.lanes.set 0 r }

/-- The part with another lane 0 and other control state at the S-port. -/
def partAt (c : ControlState) (r : LaneRecord) : State := { partWith r with control := ⟨c, resetControl⟩ }

/-- A log entry of lane 0. -/
def logged (p : PlaceId) (k : LogKind) (st : LogState) (written : Bool) (repeats : Nat) : LogEntry :=
  ⟨p, 0, k, st, written, 3, none, none, 5, 3, 1, some 0, some 9, 7, repeats, chainRead .payment [], p.val, false⟩

/-- The part with a number of frames waiting at the S-port. -/
def waitingAt (n : Nat) : State :=
  { part with ports := ⟨{ part.ports.s with order := List.replicate n (.bridged ⟨1, 1, 1, []⟩) }, part.ports.c⟩ }

/-- The part with a frame waiting in each holder of the C-port, from which it took one last. -/
def bothWaiting (last : Holder) : State :=
  { part with
    ports := ⟨part.ports.s, { part.ports.c with order := [.bridged ⟨1, 1, 1, []⟩], lastTaken := last }⟩
    sendQueue := [chainRead .answer []] }

/-- A request to the S-port with a tag. -/
def taggedControl (request : Byte) (args : Bytes) (t : Tag) : EthFrame :=
  ⟨2, 9, Config.controlType, controlFields 1 1 request args ++ beBytes 8 t.toNat⟩

/-- What the part reads from it. -/
def taggedRead (request : Byte) (args : Bytes) (t : Tag) : ControlFrame :=
  ⟨9, 1, 1, request, some args, controlTagInput 9 (controlFields 1 1 request args), t⟩

/-- The tag its station gives it, under the S-port's control key. -/
def stationTag (request : Byte) (args : Bytes) : Tag :=
  Config.tag 5 .request (controlTagInput 9 (controlFields 1 1 request args))

def controlFrame (request : Byte) (args : Bytes) : EthFrame := taggedControl request args (stationTag request args)

def controlRead (request : Byte) (args : Bytes) : ControlFrame := taggedRead request args (stationTag request args)

theorem readControl_tagged (request : Byte) (args : Bytes) (t : Tag) (h : args.length < 65536) :
    readControl (taggedControl request args t) = some (taggedRead request args t) := by
  have hr : BitVec.ofNat 8 (beNat [request]) = request := by simp [beNat]
  have h6 : numField (controlFields 1 1 request args) 6 2 = some args.length := by
    rw [numField_at (a := [1] ++ beBytes 4 1 ++ [request]) (b := beBytes 2 args.length) (c := args)
      (by simp [controlFields]) (by simp) (by simp), beNat_beBytes_of_lt (by omega)]
  have hf : field (controlFields 1 1 request args) 8 args.length = some args :=
    field_at (a := [1] ++ beBytes 4 1 ++ [request] ++ beBytes 2 args.length) (b := args) (c := [])
      (by simp [controlFields]) (by simp) rfl
  have h := readControl_append (dst := 2) (src := 9) (etype := Config.controlType) (t := t)
    (fields := controlFields 1 1 request args) (cls := 1) (number := 1) (request := beNat [request])
    (args := some args) (by simp [controlFields]; omega) rfl rfl
    (numField_at (a := [1] ++ beBytes 4 1) (b := [request]) (c := beBytes 2 args.length ++ args)
      (by simp [controlFields]) (by simp) rfl)
    (by rw [h6]; simp only [hf]; rw [if_pos (by simp [controlFields]; omega)])
  rw [hr] at h
  exact h

/-- A tag or check value that differs from a given one. -/
theorem not_ne {w : Nat} (t : BitVec (w + 1)) : ~~~t ≠ t := by
  intro h
  have := congrArg (fun x => x.getLsbD 0) h
  simp at this

theorem reachesCheck_part (c : ControlState) (r : LaneRecord) (request : Byte) (args : Bytes) (t : Tag)
    (h : args.length ≤ 1000) :
    reachesCheck (partAt c r) .s (taggedControl request args t) (taggedRead request args t) := by
  refine ⟨⟨rfl, ?_⟩, rfl, rfl, readControl_tagged request args t (by omega)⟩
  have : (taggedControl request args t).payload.length = 16 + args.length := by
    simp [taggedControl, controlFields]
    omega
  simp only [State.macTakes, fitsPort, this, Bool.and_eq_true, decide_eq_true_eq, Config.frameMax]
  exact ⟨⟨rfl, by omega⟩, of_decide_eq_true rfl⟩

/-- A request that the part accepts. -/
theorem accepted_part (c : ControlState) (r : LaneRecord) (request : Byte) (args : Bytes) (hc : c.lastNumber = 0)
    (h : args.length ≤ 1000) :
    accepted (partAt c r) .s (controlFrame request args) (controlRead request args) :=
  ⟨reachesCheck_part c r request args _ h, rfl, by show c.lastNumber < 1; omega⟩

/-! ## Witnesses: the machine and its starts -/

theorem test_stepRunsFront : step { part with pending := [.holdGrant, .drainSend] } =
    exec .holdGrant { part with pending := [.drainSend] } := rfl

/-- A state in which the queues are as full as they may be, and two GRANTED holds stand side by side. -/
def crowded : State :=
  { part with
    answerQueue := List.replicate 16 (chainRead .answer [])
    sendQueue := List.replicate 63 (chainRead .answer [])
    engine := ⟨some (.reversal 0 0 (some ⟨5, 0, 0⟩)), 47, 0⟩
    control := ⟨{ resetControl with hold := .granted ⟨2, 3, 1, 9⟩ 70000 },
      { resetControl with hold := .granted ⟨4, 4, 1, 9⟩ 70000 }⟩
    pending := [.pauseFrame .s 1] }

theorem test_witness_invariants :
    (queuesFit crowded ∧ holdsExclude crowded ∧ storeForm crowded) ∧ ∃ t, step crowded = .next t := by
  refine ⟨⟨⟨by unfold answersFit; decide +kernel, fun p => ?_, by unfold sendQueueFits; decide +kernel,
    by unfold persistFits; decide +kernel⟩, ⟨fun a b ha hb => ?_, fun p r hr => ?_⟩,
    by unfold storeForm; decide +kernel⟩, _, rfl⟩
  · cases p <;> decide +kernel
  · cases ha; cases hb; rfl
  · cases p <;> · cases hr; rfl

theorem test_witness_IdleStepPassesTime :
    State.reset.pending = [] ∧ (freePort (waitingAt 1) .s ∧ holdersTurn (waitingAt 1) .s .order) ∧
      (freePort (bothWaiting .order) .c ∧ holdersTurn (bothWaiting .order) .c .sendQueue) ∧
      holdersTurn (bothWaiting .sendQueue) .c .order ∧ ¬ freePort State.reset .s ∧
      ∀ p h, ¬ holdersTurn part p h := by
  refine ⟨rfl, ?_, ?_, ?_, ?_, fun p h => ?_⟩
  · unfold freePort holdersTurn; decide +kernel
  · unfold freePort holdersTurn; decide +kernel
  · unfold holdersTurn; decide +kernel
  · unfold freePort; decide +kernel
  · unfold holdersTurn; cases p <;> cases h <;> decide +kernel

theorem test_witness_StartsClearOrKeep :
    part.phase = .serving ∧ ((partAt { resetControl with restart := .left } lane).ctl .s).restart = .left ∧
      State.reset.phase = .starting ∧ State.reset.startKind = .cold ∧ (3 : EventNumber) ∈ startKinds ∧
      (17 : EventNumber) ∉ startKinds ∧ ∀ p, (part.ctl p).restart ≠ .left :=
  ⟨rfl, rfl, rfl, rfl, by decide +kernel, by decide +kernel, fun p => by cases p <;> decide +kernel⟩

/-- A store with lane 0 in a state at a ceiling, its slots and a log entry. -/
def stored (st : LaneState) (ceiling : Nat) : PersistentStore :=
  { keeping { lane.config with state := st, ceiling := ceiling } with
    log := [(4, .both (some (logged 4 .payment .sent true 0)))] }

/-- That store after some of its records' copies went bad. -/
def decayed (st : LaneState) (ceiling : Nat) (ds : List Decay) : PersistentStore :=
  ds.foldl PersistentStore.decay (stored st ceiling)

theorem test_witness_StartRestores :
    ((decayed .unused 1 []).lanes[(0 : LaneId)].read = some { lane.config with state := .unused, ceiling := 1 } ∧
      (decayed .ready 513 []).lanes[(0 : LaneId)].read = some lane.config ∧
      (decayed .ready 513 []).slots[(2 : SlotId)].read = some (part.slot 2) ∧
      (decayed .ready 513 []).slots[(3 : SlotId)].read = some (part.slot 3) ∧
      (part.slot 2).state ≠ .faulted ∧ (part.slot 3).state ≠ .faulted ∧
      4194047 < restoredCeiling { lane.config with ceiling := 4194048 } (decayed .ready 4194048 []).ceilings[(0 : LaneId)]) ∧
    ((decayed .ready 513 [⟨.slot 2, true⟩]).slots[(2 : SlotId)].read = none ∧
      (decayed .ready 513 [⟨.slot 2, true⟩]).slots[(3 : SlotId)].read ≠ none ∧
      (decayed .ready 513 [⟨.slot 2, true⟩]).lanes[(0 : LaneId)].read = some lane.config) ∧
    ((decayed .ready 513 [⟨.slot 3, true⟩]).slots[(3 : SlotId)].read = none ∧
      (decayed .ready 513 [⟨.slot 3, true⟩]).slots[(2 : SlotId)].read ≠ none) ∧
    ((decayed .ready 513 [⟨.slot 3, true⟩, ⟨.slot 2, true⟩]).slots[(3 : SlotId)].read = none ∧
      (decayed .ready 513 [⟨.slot 3, true⟩, ⟨.slot 2, true⟩]).slots[(2 : SlotId)].read = none) ∧
    (decayed .ready 513 [⟨.lane 0, true⟩]).lanes[(0 : LaneId)].read = none ∧
    ((logGet (decayed .ready 513 []).log 4).read = some (some (logged 4 .payment .sent true 0)) ∧
      logForm (decayed .ready 513 []).log = true ∧
      (logGet (decayed .ready 513 [⟨.logPlace 4, true⟩]).log 4).read = none) := by
  decide +kernel

/-- The factory part with carrier at both ports. -/
def wired : State := { State.reset with ports := part.ports }

theorem test_witness_EpochReportEntersServing :
    (wired.phase = .starting ∧ wired.persist.current = some (.epoch 1) ∧ (wired.port .s).carrier = true ∧
      (wired.port .s).order = [] ∧ (wired.port .c).carrier = true ∧ wired.sendPlaceFree = true) ∧
    State.reset.phase = .starting ∧ State.reset.persist.current = some (.epoch 1) ∧
      (State.reset.port .c).carrier = false := by decide +kernel

/-! ## Witnesses: frames handed over -/

theorem taken_part (r : LaneRecord) (f : EthFrame) (p : Port) (h : part.macTakes p f = true) : taken (partWith r) p f :=
  ⟨rfl, h⟩

theorem test_witness_StartingDropsFrames :
    frameOf (.pay (laneFrame 1 0 [])) = some (.s, laneFrame 1 0 []) ∧ wired.phase = .starting ∧
      wired.macTakes .s (laneFrame 1 0 []) = true := by decide +kernel

theorem test_witness_SorterBridgesOthers :
    (taken part .s ⟨2, 9, Config.chainType, []⟩ ∧ taken part .c ⟨2, 9, Config.laneType, []⟩) ∧
      (taken part .s ⟨2, 9, 5, []⟩ ∧ (2 : Mac) = part.settings.station .s) ∧
      (taken part .c ⟨2, 9, 5, []⟩ ∧ (2 : Mac) ≠ part.settings.station .c) ∧ part.settings.bridging = true ∧
      ({ part.settings with bridging := false } : SettingsBlock).bridging = false ∧
      (taken part .s ⟨8, 9, 5, List.replicate 1501 0⟩ ∧ (8 : Mac) ≠ part.settings.station .s ∧
        1518 < 14 + (List.replicate 1501 (0 : Byte)).length + 4 ∧ (part.port .c).carrier = true ∧
        (part.port .c).order.length < 256) := by
  unfold taken
  decide +kernel

theorem test_witness_PauseHoldsBack :
    (part.port .s).carrier = true ∧ 0 < (1 : BitVec 16).toNat ∧ (State.reset.port .s).carrier = false ∧
      frameOf (.frameReceived .s ⟨1, 9, 0x8808, beBytes 2 1 ++ beBytes 2 7⟩) =
        some (.s, ⟨1, 9, 0x8808, beBytes 2 1 ++ beBytes 2 7⟩) ∧
      14 + (beBytes 2 1 ++ beBytes 2 7).length + 4 ≤ Config.frameMax .s ∧
      (beBytes 2 1 ++ beBytes 2 7).take 4 = beBytes 2 1 ++ beBytes 2 (7 : BitVec 16).toNat ∧
      (beBytes 2 2 ++ beBytes 2 7).take 2 ≠ beBytes 2 1 := by
  decide +kernel

/-- A payment frame, and an ASK-STATE. -/
def payFrame : LaneFrame := laneRead .pay none []
def askFrame : LaneFrame := laneRead .askState none []

/-- The part with lane 0 in a state. -/
def partIn (st : LaneState) : State := partWith { lane with config := { lane.config with state := st } }

/-- Lane 0 as each check of the door finds it. -/
def elsewhere : LaneRecord := { lane with config := { lane.config with station := some 8 } }
def inState (st : LaneState) : LaneRecord := { lane with config := { lane.config with state := st } }
def paying : LaneRecord := { lane with openPayment := some 0 }
def served : LaneRecord := { lane with lastAccepted := some 7 }
def full : LaneRecord := { lane with mailbox := some askFrame }

theorem test_witness_LaneFrameAtTheDoor_frames :
    readLaneFrame (laneFrame 1 0 []) = .good payFrame ∧ readLaneFrame (laneFrame 3 0 []) = .good (laneRead .enrol none []) ∧
      ∀ r ∈ [elsewhere, inState .exhausted, inState (.suspended .control), inState (.faulted .record), paying, served,
        full, lane], (partWith r).resolve payFrame.till = some 0 ∧ (partWith r).phase = .serving ∧
          (partWith r).macTakes .s (laneFrame 1 0 []) = true ∧ (partWith r).macTakes .s (laneFrame 3 0 []) = true ∧
          (partWith r).lane 0 = r := by decide +kernel

theorem test_witness_LaneFrameAtTheDoor_states :
    stateTakes .exhausted .enrol ∧ stateTakes (.suspended .control) .askState ∧
      ∀ r ∈ [full, paying, served, lane], stateTakes r.config.state payFrame.kind := by
  refine ⟨LaneKind.noConfusion, rfl, fun r hr => ?_⟩
  have h : r.config.state = .ready := by
    revert r
    decide +kernel
  rw [h]
  exact trivial

theorem test_witness_LaneFrameAtTheDoor_checks :
    (inState (.faulted .record)).config.state = .faulted .record ∧ ¬ stationAgrees elsewhere.config payFrame ∧
      stationAgrees elsewhere.config (laneRead .enrol none []) ∧
      (stationAgrees (inState .exhausted).config payFrame ∧ payFrame.kind = .pay) ∧
      (stationAgrees (inState (.suspended .control)).config payFrame ∧ payFrame.kind ≠ .askState) ∧
      (stationAgrees full.config payFrame ∧ full.mailbox ≠ none) ∧
      (paying.mailbox = none ∧ paying.openPayment ≠ none) ∧
      (served.mailbox = none ∧ served.openPayment = none ∧ served.lastAccepted = some payFrame.xchg) ∧
      (stationAgrees lane.config payFrame ∧ lane.mailbox = none ∧ lane.openPayment = none ∧
        lane.lastAccepted ≠ some payFrame.xchg) := by
  unfold stationAgrees
  decide +kernel

theorem test_witness_UnresolvedFrames :
    (taken part .s ⟨2, 9, Config.laneType, [0, 100, 0]⟩ ∧
      readLaneFrame ⟨2, 9, Config.laneType, [0, 100, 0]⟩ = .tooShort) ∧
    (taken part .s ⟨2, 9, Config.laneType, [0, 100, 0, 7]⟩ ∧
      readLaneFrame ⟨2, 9, Config.laneType, [0, 100, 0, 7]⟩ = .malformed 100 7) ∧
    readLaneFrame (laneFrame 2 0 []) = .malformed 100 7 ∧ (partIn .unused).resolve payFrame.till = none ∧
    (taken part .c (chainFrame 16 1 1 0 []) ∧ readEnvelope (chainFrame 16 1 1 0 []) = none) := by
  unfold taken
  decide +kernel

theorem test_witness_WholeAnswerOffered :
    taken part .c (chainFrame 17 1 1 0 []) ∧
      readEnvelope (chainFrame 17 1 1 0 []) = some ⟨chainRead .answer [], 1, 1, 0⟩ ∧
      (chainRead .answer []).kind ≠ .probeEcho ∧
      ({ part with answerQueue := List.replicate 15 (chainRead .answer []) } : State).answerQueue.length < 16 ∧
      16 ≤ ({ part with answerQueue := List.replicate 16 (chainRead .answer []) } : State).answerQueue.length := by
  unfold taken
  decide +kernel

/-- A held first segment that agrees with the second of a body of 1,217 bytes, or does not. -/
def heldFirst (identity : TerminalId) : HeldSegment :=
  ⟨{ chainRead .answer (List.replicate 1216 0) with identity := identity }, 1217, 9000⟩

def holding (h : HeldSegment) : State := { part with reassembly := part.reassembly.set 0 (some h) }

theorem test_witness_SegmentsReassembled_frames :
    (taken part .c (chainFrame 17 1 2 1217 (List.replicate 1216 0)) ∧
      readEnvelope (chainFrame 17 1 2 1217 (List.replicate 1216 0)) =
        some ⟨chainRead .answer (List.replicate 1216 0), 1, 2, 1217⟩) ∧
    (taken part .c (chainFrame 17 2 2 1217 [0]) ∧
      readEnvelope (chainFrame 17 2 2 1217 [0]) = some ⟨chainRead .answer [0], 2, 2, 1217⟩) := by
  unfold taken
  decide +kernel

theorem test_witness_SegmentsReassembled_buffers :
    (holding (heldFirst 5)).matchingBuffer (chainRead .answer [0]) = some (0, heldFirst 5) ∧
      (heldFirst 5).agrees ⟨chainRead .answer [0], 2, 2, 1217⟩ = true ∧
      (holding (heldFirst 6)).matchingBuffer (chainRead .answer [0]) = some (0, heldFirst 6) ∧
      (heldFirst 6).agrees ⟨chainRead .answer [0], 2, 2, 1217⟩ = false ∧
      part.matchingBuffer (chainRead .answer [0]) = none ∧ part.freeBuffer = some 0 ∧
      ({ part with reassembly := Vector.replicate 4 (some (heldFirst 5)) } : State).freeBuffer = none ∧
      ({ part with reassembly := Vector.replicate 4 (some (heldFirst 5)) } : State).matchingBuffer
        (chainRead .reversalAck [0]) = none := by decide +kernel

theorem test_witness_SegmentsReassembled_limit :
    (holding (heldFirst 5)).reassembly[(0 : BufferId)] = some (heldFirst 5) ∧ part.phase = .serving ∧
      (heldFirst 5).limit ≤ part.clock ∧ part.reassembly[(0 : BufferId)] = none ∧
      part.clock < ({ heldFirst 5 with limit := 9001 } : HeldSegment).limit := by decide +kernel

/-- An echo of a probe number, under a tag. -/
def echo (seq : ChainSeq) (t : Tag) : Envelope := ⟨.probeEcho, 0, seq, 0, 0, .live, [], t⟩

/-- The frame that carries it. -/
def echoFrame (e : Envelope) : EthFrame := ⟨4, 9, Config.chainType, e.segment 1 1 e.body⟩

/-- The echo of the latest probe, as the gateway tags it. -/
def goodEcho : Envelope := echo 4194307 (Config.tag 6 .probeIn (echo 4194307 0).covered)

theorem readEnvelope_goodEcho : readEnvelope (echoFrame goodEcho) = some ⟨goodEcho, 1, 1, 0⟩ :=
  readEnvelope_append (hd := [19] ++ beBytes 8 0 ++ beBytes 4 4194307 ++ beBytes 4 0 ++ beBytes 4 0 ++ [1, 1, 1] ++
    beBytes 2 0) (body := []) (k := 19) (identity := 0) (orig := 0) (counter := 0) (org := 1) (index := 1) (count := 1)
    (len := 0) (kind := .probeEcho) (origin := .live) (seq := 4194307) (by decide) rfl rfl rfl rfl rfl rfl rfl rfl rfl rfl rfl rfl

theorem test_witness_ProbeEchoTaken :
    (taken part .c (echoFrame goodEcho) ∧ readEnvelope (echoFrame goodEcho) = some ⟨goodEcho, 1, 1, 0⟩ ∧
      goodEcho.tag = Config.tag (part.controlKey .c) .probeIn goodEcho.covered ∧
      goodEcho.seq.toNat / 4194304 = part.epoch ∧
      part.monitor.lastEcho.toNat % 4194304 < goodEcho.seq.toNat % 4194304 ∧
      goodEcho.seq.toNat % 4194304 ≤ part.monitor.lastProbe.toNat % 4194304) ∧
    (taken part .c (echoFrame (echo 4194306 0)) ∧
      readEnvelope (echoFrame (echo 4194306 0)) = some ⟨echo 4194306 0, 1, 1, 0⟩ ∧
      ¬ part.monitor.lastEcho.toNat % 4194304 < (echo 4194306 0).seq.toNat % 4194304) ∧
    part.monitor.state ≠ .down ∧ ({ part with monitor := ⟨.down, 3, none, 4194307, 4194306⟩ } : State).monitor.state =
      .down :=
  ⟨⟨⟨rfl, rfl⟩, readEnvelope_goodEcho, rfl, by decide +kernel, by decide +kernel, by decide +kernel⟩,
    ⟨⟨rfl, rfl⟩, by decide +kernel, by decide +kernel⟩, by decide +kernel, rfl⟩

theorem test_witness_FramesReadBack :
    (List.replicate 2048 (0 : Byte)).length ≤ 2048 ∧ (List.replicate 1216 (0 : Byte)).length ≤ 1216 ∧
      1216 < (List.replicate 1217 (0 : Byte)).length ∧ ([] : Bytes).length < 65536 ∧ (chainRead .answer []).counter <
      4294967296 ∧ (chainRead .answer []).kind ≠ .probeEcho := by decide +kernel

theorem test_witness_FramesHandedAndEventsRaised :
    (State.reset.port .s).carrier = false ∧ ((waitingAt 256).port .s).carrier = true ∧
      256 ≤ ((waitingAt 256).port .s).order.length ∧ ((waitingAt 255).port .s).order.length < 256 ∧
      State.reset.phase = .starting ∧ part.phase = .serving ∧
      part.settings.notices[(EventDetails.scrubCorrected 0 1 .engine).kind.number].enabled = false ∧
      part.settings.notices[(EventDetails.laneSuspended 0 .control).kind.number].enabled = true ∧
      .c ∉ destinationPorts part.settings.notices[(EventDetails.laneSuspended 0 .control).kind.number].destination ∧
      .s ∈ destinationPorts part.settings.notices[(EventDetails.laneSuspended 0 .control).kind.number].destination := by
  decide +kernel

/-! ## Witnesses: control frames -/

theorem test_witness_ControlFramesRefused :
    (taken part .s ⟨2, 9, Config.controlType, [1]⟩ ∧ readControl ⟨2, 9, Config.controlType, [1]⟩ = none) ∧
    (reachesCheck (partAt resetControl lane) .s (taggedControl 4 [] (~~~stationTag 4 []))
        (taggedRead 4 [] (~~~stationTag 4 [])) ∧
      (taggedRead 4 [] (~~~stationTag 4 [])).tag ≠
        Config.tag ((partAt resetControl lane).controlKey .s) .request (controlRead 4 []).covered) ∧
    (reachesCheck (partAt { resetControl with lastNumber := 1 } lane) .s (controlFrame 4 []) (controlRead 4 []) ∧
      (controlRead 4 []).number.toNat ≤ ((partAt { resetControl with lastNumber := 1 } lane).ctl .s).lastNumber) ∧
    (controlOf (.release .s (controlFrame 6 [])) = some (.s, controlFrame 6 []) ∧
      ∀ c : ControlState, c.lastNumber = 0 → accepted (partAt c lane) .s (controlFrame 6 []) (controlRead 6 [])) :=
  ⟨⟨⟨rfl, by decide +kernel⟩, by decide +kernel⟩,
    ⟨reachesCheck_part _ _ _ _ _ (by decide), not_ne _⟩,
    ⟨reachesCheck_part _ _ _ _ _ (by decide), by decide +kernel⟩, rfl, fun _ h => accepted_part _ _ _ _ h (by decide)⟩

theorem test_witness_AskReturnsAndClears_accepted (args : Bytes) (h : args.length ≤ 1000) :
    accepted (partAt resetControl lane) .s (controlFrame 1 args) (controlRead 1 args) :=
  accepted_part _ _ _ _ rfl h

theorem test_witness_AskReturnsAndClears_request :
    (controlRead 1 [1, 0, 47, 1, 1]).read = some (.ask .lane 47 1 true) ∧
      (controlRead 1 [6, 1, 0, 64, 0]).read = some (.ask .log 256 64 false) ∧ 47 < part.tableLength .lane ∧
      (controlRead 1 [1, 0, 48, 1, 0]).read = some (.ask .lane 48 1 false) ∧ part.tableLength .lane ≤ 48 ∧
      (controlRead 1 [1, 0, 0, 0, 0]).read = some (.ask .lane 0 0 false) ∧
      (controlRead 1 [6, 0, 0, 65, 0]).read = some (.ask .log 0 65 false) := by decide +kernel

theorem test_witness_AskReturnsAndClears_items :
    (part.askItems .lane 0 48).length < 48 ∧ (part.askItems .lane 47 64).length = 1 ∧
      ({ part with log := [logged 4 .payment .sent true 0] } : State).log[0]? = some (logged 4 .payment .sent true 0) := by
  decide +kernel

/-- Control state with a change set. -/
def staging (es : List StagedEntry) : ControlState := { resetControl with changeSet := { emptyChangeSet with
  entries := es, idle := some 9000 } }

theorem test_witness_StageJoinsTheSet :
    (accepted (partAt (staging (List.replicate 31 ⟨7, .slotErase⟩)) lane) .s (controlFrame 2 [2, 0, 5, 0, 1, 2])
        (controlRead 2 [2, 0, 5, 0, 1, 2])) ∧
      (controlRead 2 [2, 0, 5, 0, 1, 2]).read = some (.stage 2 5 [2]) ∧
      readStageTable 2 = some StagedRecord.slotErase.table ∧
      (staging (List.replicate 31 ⟨7, .slotErase⟩)).changeSet.resolve .slot 5 = some 5 ∧
      readRecord 5 2 [2] = some .slotErase ∧
      (∃ e ∈ (staging [⟨5, .slotErase⟩]).changeSet.entries, e.isFor .slot 5 = true) ∧
      (∀ n ∈ [31, 32], ∀ e ∈ (staging (List.replicate n ⟨7, .slotErase⟩)).changeSet.entries, e.isFor .slot 5 = false) ∧
      (staging (List.replicate 31 ⟨7, .slotErase⟩)).changeSet.entries.length < 32 ∧
      32 ≤ (staging (List.replicate 32 ⟨7, .slotErase⟩)).changeSet.entries.length ∧ readStageTable 9 = none ∧
      readRecord 5 2 [3] = none ∧ (staging []).changeSet.resolve .slot 256 = none ∧
      (staging []).changeSet.resolve .slot 255 = some 255 :=
  ⟨accepted_part _ _ _ _ rfl (by decide), by decide +kernel⟩

theorem test_witness_StageJoinsTheSet_next :
    (staging []).changeSet.last .slot = none ∧ ((staging []).changeSet.setLast .slot 254).last .slot = some 254 ∧
      ((staging []).changeSet.setLast .slot 255).last .slot = some 255 ∧ StageTable.lane ≠ .slot := by decide +kernel

/-- A class entry within the figures, and an erase of no slot. -/
def goodEntry : StagedEntry := ⟨0, .standIn ⟨true, 0, 1, 0, 5⟩⟩
def badEntry : StagedEntry := ⟨96, .slotErase⟩

/-- The part with lane 0 SUSPENDED, a ceiling write of it being written, and a set at the S-port. -/
def committing (es : List StagedEntry) : State :=
  { partAt (staging es) (inState (.suspended .control)) with
    slots := part.slots.set 4 ⟨.active, some .base, 1, none, some 8, []⟩
    persist := ⟨some (.ceiling 0 (some 3) (some 1) 1025 false), [.epoch 3], none⟩ }

/-- A lane's staged record on the base slot it has, and on another. -/
def stagedLane (base : Nat) : StagedLane := ⟨100, who, none, false, 2, base, 1⟩

/-- As many writes as wait at a full queue. -/
def crowd : List Write := List.replicate 4095 (.epoch 1)

theorem crowd_length : crowd.length = 4095 := List.length_replicate

theorem full_of_waiting (q : PersistQueue) (h : q.waiting.length = 4095) (hc : q.current.isSome = true) :
    q.full = true := by
  simp [PersistQueue.full, h, hc, Config.persistCapacity]

/-- A part with a set that resets no lane, its Persist Queue full. -/
def committingFull : State :=
  { committing [⟨0, .lane (stagedLane 3)⟩] with persist := ⟨some (.epoch 1), crowd, none⟩ }

theorem test_witness_CommitAppliesAllOrNothing_full :
    accepted committingFull .s (controlFrame 3 []) (controlRead 3 []) ∧
      committingFull.judge .s [⟨0, .lane (stagedLane 3)⟩] = none ∧
      ((resetLanes committingFull [⟨0, .lane (stagedLane 3)⟩]).foldl State.dropCeilings committingFull).persist.full =
        true ∧ (0 : LaneId) ∈ laneEntries [⟨0, .lane (stagedLane 3)⟩] ∧
      (1 : LaneId) ∉ laneEntries [⟨0, .lane (stagedLane 3)⟩] := by
  refine ⟨accepted_part (staging [⟨0, .lane (stagedLane 3)⟩]) (inState (.suspended .control)) 3 [] rfl (by decide),
    by decide +kernel, ?_, by decide +kernel⟩
  have : resetLanes committingFull [⟨0, .lane (stagedLane 3)⟩] = [] := by decide +kernel
  rw [this]
  exact full_of_waiting _ crowd_length rfl

theorem test_witness_CommitAppliesAllOrNothing :
    (∀ es, accepted (partAt (staging es) lane) .s (controlFrame 3 []) (controlRead 3 [])) ∧
      (controlRead 3 []).read = some .commit ∧ ((partAt (staging []) lane).ctl .s).changeSet.entries = [] ∧
      ((partAt (staging [badEntry]) lane).ctl .s).changeSet.entries ≠ [] ∧
      (partAt (staging [goodEntry, badEntry]) lane).judge .s [goodEntry, badEntry] =
        some (badEntry, 2, .badReference) ∧
      (partAt (staging [goodEntry]) lane).judge .s [goodEntry] = none ∧
      (accepted (committing [⟨0, .lane (stagedLane 4)⟩]) .s (controlFrame 3 []) (controlRead 3 []) ∧
        (committing [⟨0, .lane (stagedLane 4)⟩]).judge .s [⟨0, .lane (stagedLane 4)⟩] = none ∧
        resetLanes (committing [⟨0, .lane (stagedLane 4)⟩]) [⟨0, .lane (stagedLane 4)⟩] = [0] ∧
        (committing [⟨0, .lane (stagedLane 4)⟩]).persist.unwritten.length + 1 + 49 ≤ 4096) :=
  ⟨fun _ => accepted_part _ _ _ _ rfl (by decide), by decide +kernel, by decide +kernel, by decide +kernel,
    by decide +kernel, by decide +kernel,
    ⟨accepted_part (staging [⟨0, .lane (stagedLane 4)⟩]) (inState (.suspended .control)) 3 [] rfl (by decide),
      by decide +kernel⟩⟩

/-- The part with a hold of slots 2 to 9 at the S-port and slot 9's generation at its last. -/
def holding29 : State :=
  { part with
    control := ⟨{ resetControl with hold := .granted ⟨2, 9, 1, 9⟩ 70000 }, resetControl⟩
    slots := part.slots.set 9 ⟨.empty, none, 65535, none, none, []⟩ }

theorem test_witness_CommitJudgesEachEntry_lanes :
    (∀ st ∈ [LaneState.unused, .suspended .control, .faulted .record],
      (partIn st).judgeEntry .s [] part.slots part.lanes ⟨0, .lane (stagedLane 3)⟩ = none) ∧
    ((part.judgeEntry .s [] part.slots part.lanes ⟨0, .lane (stagedLane 3)⟩ = some .conflict) ∧
      (partIn (.suspended .control)).judgeEntry .s [] part.slots part.lanes ⟨0, .lane (stagedLane 4)⟩ =
        some .badReference ∧
      (partIn (.suspended .control)).judgeEntry .s [] (part.slots.set 4 ⟨.active, some .base, 1, none, some 8, []⟩)
        part.lanes ⟨0, .lane (stagedLane 4)⟩ = none ∧
      (partIn (.suspended .control)).judgeEntry .s [] (part.slots.set 4 ⟨.active, some .base, 1, none, some 8, [who]⟩)
        part.lanes ⟨0, .lane (stagedLane 4)⟩ = some .badReference ∧
      (partIn (.suspended .control)).judgeEntry .s [] part.slots (part.lanes.set 47 lane)
        ⟨0, .lane (stagedLane 3)⟩ = some .badReference ∧
      ∀ till ∈ [0, 4096], (partIn (.suspended .control)).judgeEntry .s [] part.slots part.lanes
        ⟨0, .lane { stagedLane 3 with till := till }⟩ = some .badReference) ∧
    part.judgeEntry .s [] part.slots part.lanes ⟨48, .lane (stagedLane 3)⟩ = some .badReference := by decide +kernel

theorem test_witness_CommitJudgesEachEntry_slots :
    part.judgeEntry .s [] part.slots part.lanes ⟨96, .slotErase⟩ = some .badReference ∧
      (∀ n ∈ [1, 10], holding29.judgeEntry .s [] part.slots part.lanes ⟨n, .slotErase⟩ = some .notHeld) ∧
      holding29.judgeEntry .s [] part.slots part.lanes ⟨9, .slotErase⟩ = none ∧
      holding29.judgeEntry .s [] part.slots part.lanes ⟨3, .slotErase⟩ = some .inUse ∧
      (∀ u ∈ [SlotUsage.control, .link], holding29.judgeEntry .s [] part.slots part.lanes
        ⟨9, .slotWrite u 5 (Config.checkValue 5)⟩ = some .notAllowed) := by decide +kernel

theorem judged_write (es : List StagedEntry) (n : SlotId) (u : SlotUsage) (k : Key) (c : CheckValue)
    (hh : (holding29.ctl .s).hold.covers n.val = true)
    (ha : slotAllowed .s n (holding29.slot n).generation (some u) = true) :
    holding29.judgeEntry .s es part.slots part.lanes ⟨n.val, .slotWrite u k c⟩ =
      if Config.checkValue k = c then
        (if (usageSuits part.lanes n u && holding29.baseLanesStaged es n) = true then none else some .badReference)
      else some .checkValue := by
  simp only [State.judgeEntry, State.judgeSlot, n.isLt, dif_pos, Option.map_some, List.cons_append, List.nil_append,
    firstFailing, hh, ha, if_true, decide_eq_true_eq, Bool.and_eq_true]
  split
  · split <;> simp_all
  · rfl

theorem test_witness_CommitJudgesEachEntry_writes :
    holding29.judgeEntry .s [] part.slots part.lanes ⟨8, .slotWrite .link 5 (Config.checkValue 5)⟩ = none ∧
      holding29.judgeEntry .s [] part.slots part.lanes ⟨8, .slotWrite .link 5 (~~~Config.checkValue 5)⟩ =
        some .checkValue ∧
      (∀ u ∈ [SlotUsage.link, .base], holding29.judgeEntry .s [] part.slots part.lanes
        ⟨3, .slotWrite u 5 (Config.checkValue 5)⟩ = some .badReference) ∧
      holding29.judgeEntry .s [⟨0, .lane (stagedLane 3)⟩] part.slots part.lanes
        ⟨3, .slotWrite .base 5 (Config.checkValue 5)⟩ = none := by
  refine ⟨?_, ?_, fun u hu => ?_, ?_⟩
  · exact (judged_write [] 8 .link 5 _ (by decide +kernel) (by decide +kernel)).trans
      ((if_pos rfl).trans (by decide +kernel))
  · exact (judged_write [] 8 .link 5 _ (by decide +kernel) (by decide +kernel)).trans
      (if_neg (fun h => not_ne _ h.symm))
  · have ha : slotAllowed .s 3 (holding29.slot 3).generation (some u) = true := by
      revert u
      decide +kernel
    have hs : (usageSuits part.lanes 3 u && holding29.baseLanesStaged [] 3) = false := by
      revert u
      decide +kernel
    exact (judged_write [] 3 u 5 _ (by decide +kernel) ha).trans
      ((if_pos rfl).trans (if_neg (by rw [hs]; exact Bool.false_ne_true)))
  · exact (judged_write _ 3 .base 5 _ (by decide +kernel) (by decide +kernel)).trans
      ((if_pos rfl).trans (by decide +kernel))

theorem test_witness_CommitJudgesEachEntry_tables :
    judgeStandIn 9 ⟨true, 0, 0, 960, 120⟩ = none ∧ judgeStandIn 10 ⟨true, 0, 0, 960, 120⟩ = some .badReference ∧
      judgeStandIn 0 ⟨true, 2, 1, 0, 5⟩ = some .badReference ∧ judgeStandIn 0 ⟨true, 0, 1, 961, 5⟩ = some .badReference ∧
      judgeStandIn 0 ⟨true, 0, 1, 0, 4⟩ = some .badReference ∧ judgeSettings 0 part.settings = none ∧
      judgeSettings 1 part.settings = some .badReference ∧
      judgeSettings 0 { part.settings with scrubInterval := 4 } = some .badReference := by decide +kernel

theorem test_witness_CommittedRecords :
    ((applyLane part.slots part.lanes ⟨0, .lane (stagedLane 3)⟩)[(0 : LaneId)].config.base = part.lanes[(0 : LaneId)].config.base ∧
      (applyLane part.slots part.lanes ⟨0, .lane (stagedLane 3)⟩)[(0 : LaneId)].config.baseGen =
        part.lanes[(0 : LaneId)].config.baseGen) ∧
    (applyLane part.slots part.lanes ⟨0, .lane (stagedLane 4)⟩)[(0 : LaneId)].config.base ≠
      part.lanes[(0 : LaneId)].config.base ∧
    (partIn (.faulted .record)).lanes[(0 : LaneId)].config.state = .faulted .record ∧
    slotOf 3 = some 3 ∧ slotOf 95 = some 95 ∧ slotOf 0 = none := by decide +kernel

theorem test_witness_DiscardEmptiesTheSet :
    accepted (partAt (staging [goodEntry]) lane) .s (controlFrame 4 []) (controlRead 4 []) ∧
      (controlRead 4 []).read = some .discard := ⟨accepted_part _ _ _ _ rfl (by decide), by decide +kernel⟩

def hold23 : HoldRequest := ⟨2, 3, 1, 9⟩

theorem test_witness_HoldRequestedAndReleased :
    (∀ h args, args.length ≤ 2 → accepted (partAt { resetControl with hold := h } lane) .s (controlFrame 5 args)
        (controlRead 5 args)) ∧
      (controlRead 5 [0, 96]).read = some (.hold 0 96) ∧ (controlRead 5 [4, 3]).read = some (.hold 4 3) ∧
      (controlRead 5 [95, 95]).read = some (.hold 95 95) ∧
      (∀ h, ((partAt { resetControl with hold := h } lane).ctl .s).hold = h) ∧
      accepted (partAt { resetControl with hold := .granted hold23 70000 } lane) .s (controlFrame 6 [])
        (controlRead 6 []) ∧ (controlRead 6 []).read = some .release :=
  ⟨fun _ _ h => accepted_part _ _ _ _ rfl (by omega), by decide +kernel, by decide +kernel, by decide +kernel,
    fun _ => rfl, accepted_part _ _ _ _ rfl (by decide), by decide +kernel⟩

/-- The part with a hold at each port and a job that has loaded the key of slot 3. -/
def holds (a b : Hold) (job : Option Job) : State :=
  { part with
    control := ⟨{ resetControl with hold := a }, { resetControl with hold := b }⟩
    engine := ⟨job, 47, 1⟩ }

def jobOn3 : Job := .reversal 0 0 (some ⟨3, 1, 8⟩)

theorem test_witness_HoldGrantTest :
    (((holds (.pending hold23) (.granted ⟨4, 4, 1, 9⟩ 70000) none).ctl .s).hold = .pending hold23 ∧
      (holds (.pending hold23) (.granted ⟨4, 4, 1, 9⟩ 70000) none).jobUses hold23 = false ∧
      grantedRange (holds (.pending hold23) (.granted ⟨4, 4, 1, 9⟩ 70000) none) .c = some ⟨4, 4, 1, 9⟩ ∧
      HoldRequest.overlaps ⟨4, 4, 1, 9⟩ hold23 = false) ∧
    (holds (.pending hold23) .none (some jobOn3)).jobUses hold23 = true ∧
    (grantedRange (holds (.pending hold23) (.granted ⟨3, 4, 1, 9⟩ 70000) none) .c = some ⟨3, 4, 1, 9⟩ ∧
      HoldRequest.overlaps ⟨3, 4, 1, 9⟩ hold23 = true) ∧
    (((holds (.pending hold23) (.pending ⟨3, 4, 1, 9⟩) none).ctl .c).hold = .pending ⟨3, 4, 1, 9⟩ ∧
      hold23.overlaps ⟨3, 4, 1, 9⟩ = true) ∧
    ∀ p r, (part.ctl p).hold ≠ .pending r :=
  ⟨by decide +kernel, by decide +kernel, by decide +kernel, by decide +kernel,
    fun p r => by cases p <;> exact Hold.noConfusion⟩

theorem test_witness_HoldAndSetLimits :
    (((holds (.granted hold23 9000) .none none).ctl .s).hold = .granted hold23 9000 ∧ 9000 ≤ part.clock) ∧
      part.clock < 9001 ∧ (part.ctl .s).hold = .none ∧
      (staging [goodEntry]).changeSet.idle = some 9000 ∧ (staging [goodEntry]).changeSet.entries ≠ [] ∧
      (part.ctl .s).changeSet.idle = none := by decide +kernel

theorem test_witness_SetLaneActs :
    (∀ st args, args.length ≤ 2 → accepted (partAt resetControl { lane with config := { lane.config with state := st } }) .s
        (controlFrame 7 args) (controlRead 7 args)) ∧
      ((controlRead 7 [0, 1]).read = some (.setLane 0 .ready) ∧ (controlRead 7 [0, 2]).read = some (.setLane 0 .suspend) ∧
        (controlRead 7 [0, 3]).read = some (.setLane 0 .test) ∧ (controlRead 7 [0, 4]).read = some (.setLane 0 .unused) ∧
        (controlRead 7 [48, 1]).read = some (.setLane 48 .ready)) ∧
      (∀ st ∈ [LaneState.unused, .ready, .test, .exhausted, .suspended .control, .suspended .tagFailures,
        .faulted .record], ((partIn st).lane 0).config.state = st) ∧
      ((partIn .unused).laneComplete 0 = true ∧
        (partWith { lane with config := { lane.config with state := .unused, till := none } }).laneComplete 0 = false) ∧
      (part.laneIdle 0 = true ∧ (partWith { lane with mailbox := some payFrame }).laneIdle 0 = false) :=
  ⟨fun _ _ h => accepted_part _ _ _ _ rfl (by omega), by decide +kernel, by decide +kernel, by decide +kernel,
    by decide +kernel⟩

/-- The part with lane 0 UNUSED at its ceiling of 513, some store, and a write being written or none. -/
def atCeiling (t : PersistentStore) (w : Option Write) : State :=
  { partAt resetControl { inState .unused with counter := 513 } with store := t, persist := ⟨w, [], none⟩ }

/-- That part with lane 0 brought to READY. -/
def readied (s : State) : State :=
  ((heard s .s (controlRead 7 [0, 1])).modLane 0 (fun r => { r with tagFailures := 0 })).changeState 0 .ready none

/-- That part before its lane-state write is queued. -/
def readyWriteDue (s : State) : State :=
  ((((heard s .s (controlRead 7 [0, 1])).modLane 0 (fun r => { r with tagFailures := 0 })).modLane 0
    (fun r => { r with config := { r.config with state := .ready } }))).clearMailbox 0

/-- That part over a store without lane 0, its Persist Queue full. -/
def fullAtCeiling : State :=
  { atCeiling factoryStore none with persist := ⟨some (.epoch 1), crowd, none⟩ }

/-- A commit group that touches lane 0 alone. -/
def laneGroup : CommitGroup := ⟨none, [], [(0, lane.config)], []⟩

theorem test_witness_SetLaneActs_advance :
    (∀ t w, accepted (atCeiling t w) .s (controlFrame 7 [0, 1]) (controlRead 7 [0, 1])) ∧
      (∀ t ∈ [stored .unused 513, factoryStore], ((atCeiling t none).lane 0).config.state = .unused ∧
        (atCeiling t none).laneComplete 0 = true ∧ ((readied (atCeiling t none)).lane 0).wantsAdvance = true ∧
        ∀ w ∈ (readied (atCeiling t none)).persist.unwritten, w.touchesLane 0 = false) ∧
      ((readied (atCeiling (stored .unused 513) none)).store.founds
        ((readied (atCeiling (stored .unused 513) none)).advanceWrite 0) = true ∧
      (readied (atCeiling factoryStore none)).store.founds
        ((readied (atCeiling factoryStore none)).advanceWrite 0) = false ∧
      (readied (atCeiling factoryStore (some (.group laneGroup)))).store.founds
        ((readied (atCeiling factoryStore (some (.group laneGroup)))).advanceWrite 0) = false ∧
      (readied (atCeiling factoryStore none)).persist.full = false ∧
      ∃ w ∈ (readied (atCeiling factoryStore (some (.group laneGroup)))).persist.unwritten, w.touchesLane 0 = true) :=
  ⟨fun _ _ => accepted_part resetControl { inState .unused with counter := 513 } 7 [0, 1] rfl (by decide),
    by decide +kernel, by decide +kernel⟩

theorem test_witness_SetLaneActs_advanceAtAFullQueue :
    accepted fullAtCeiling .s (controlFrame 7 [0, 1]) (controlRead 7 [0, 1]) ∧
      (fullAtCeiling.lane 0).config.state = .unused ∧ fullAtCeiling.laneComplete 0 = true ∧
      ((readied fullAtCeiling).persist.full = true ∧ ((readied fullAtCeiling).lane 0).wantsAdvance = true ∧
        (readied fullAtCeiling).store.founds ((readied fullAtCeiling).advanceWrite 0) = false) := by
  refine ⟨accepted_part resetControl { inState .unused with counter := 513 } 7 [0, 1] rfl (by decide),
    by decide +kernel, by decide +kernel, ?_⟩
  have hf : fullAtCeiling.persist.full = true := full_of_waiting _ crowd_length rfl
  rcases State.replaceOrAppend_of_full (readyWriteDue fullAtCeiling) (Write.touchesLane 0) (Write.isLaneState 0)
    (.laneState 0 .ready) (fun t => t.writeFailed .laneState (.lane 0)) hf rfl with ⟨ws, hn, h⟩ | h
  · have e : readied fullAtCeiling = _ := h
    rw [e]
    refine ⟨?_, ?_, ?_⟩
    · exact full_of_waiting _ (hn.trans crowd_length) rfl
    · show ((readyWriteDue fullAtCeiling).lane 0).wantsAdvance = true
      decide +kernel
    · show (readyWriteDue fullAtCeiling).store.founds ((readyWriteDue fullAtCeiling).advanceWrite 0) = false
      decide +kernel
  · have e : readied fullAtCeiling = _ := h
    rw [e]
    refine ⟨hf, ?_, ?_⟩ <;> decide +kernel

theorem test_witness_ClearVolatileActs :
    (∀ r, accepted (partAt resetControl r) .s (controlFrame 7 [0, 5]) (controlRead 7 [0, 5])) ∧
      (controlRead 7 [0, 5]).read = some (.setLane 0 .clearVolatile) ∧
      (part.ownsEntry 0 = false ∧ part.logCount 0 = 0 ∧ (part.lane 0).mailbox = none ∧ part.jobInFlight 0 = false) ∧
      ((partWith { lane with mailbox := some payFrame }).lane 0).mailbox ≠ none :=
  ⟨fun _ => accepted_part _ _ _ _ rfl (by decide), by decide +kernel⟩

theorem test_witness_RestartAndUnknownRequests :
    (∀ r : Byte, accepted (partAt resetControl lane) .s (controlFrame r []) (controlRead r [])) ∧
      (controlRead 8 []).read = some .restart ∧ (controlRead 9 []).read = none :=
  ⟨fun _ => accepted_part _ _ _ _ rfl (by decide), by decide +kernel⟩

theorem test_witness_StateEntryEmptiesTheMailbox :
    LaneState.exhausted ≠ .unused ∧ part.persist.full = false ∧
      ((partWith { lane with mailbox := some askFrame }).lane 0).mailbox = some askFrame ∧
      stateTakes .exhausted askFrame.kind ∧
      ((partWith { lane with mailbox := some payFrame }).lane 0).mailbox = some payFrame ∧
      ¬ stateTakes .exhausted payFrame.kind ∧ ¬ stateTakes (.suspended .control) payFrame.kind ∧
      ¬ stateTakes (.faulted .record) askFrame.kind ∧ (part.lane 0).mailbox = none := by
  unfold stateTakes
  decide +kernel

/-! ## Witnesses: grants -/

/-- An exchange entry of lane 0 under base slot 3. -/
def entry (k : ExchangeKind) (st : ExchangeState) : Exchange :=
  ⟨k, st, 0, 7, 3, if st = .awaiting then none else some 2, if st = .awaiting then none else some .timeout, 3, 1, 5,
    some 0, 9000, false, none, 4⟩

/-- The part with an entry in place 4. -/
def entered (e : Exchange) : State := { part with exchanges := part.exchanges.set 4 (some e), nextStamp := 5 }

theorem entered_only (e : Exchange) (i : EntryId) (x : Exchange) (h : (entered e).exchange i = some x) : i = 4 ∧ x = e := by
  have h4 : ∀ j : EntryId, j = 4 ∨ part.exchange j = none := by decide +kernel
  rcases h4 i with rfl | hi
  · exact ⟨rfl, by simpa [entered, State.exchange] using h.symm⟩
  · by_cases h' : i = 4
    · subst h'
      exact ⟨rfl, by simpa [entered, State.exchange] using h.symm⟩
    · have hn : (4 : Nat) ≠ i.val := fun hc => h' (Fin.ext hc.symm)
      simp only [State.exchange, entered, Fin.getElem_fin] at h
      rw [Vector.getElem_set_ne _ _ hn] at h
      simp only [State.exchange, Fin.getElem_fin] at hi
      rw [hi] at h
      cases h

/-- An answer whose entry's base slot is held waits before one that finds no entry. -/
def held : State :=
  { entered (entry .payment .awaiting) with
    answerQueue := [chainRead .answer [], { chainRead .answer [] with seq := 9 }]
    control := ⟨{ resetControl with hold := .granted ⟨3, 3, 1, 9⟩ 70000 }, resetControl⟩ }

theorem test_witness_GrantTakesWorkInOrder_answer :
    held.phase = .serving ∧ held.engine.job = none ∧
      held.answerQueue = [chainRead .answer []] ++ { chainRead .answer [] with seq := 9 } :: [] ∧
      (∀ x ∈ [chainRead .answer []], held.answerEligible x = false) ∧
      held.answerEligible { chainRead .answer [] with seq := 9 } = true := by decide +kernel

theorem test_witness_GrantTakesWorkInOrder_eligible :
    held.currentMatch (chainRead .answer []) = some (4, entry .payment .awaiting) ∧
      held.currentMatch { chainRead .answer [] with seq := 9 } = none ∧
      (lane.counter < lane.config.ceiling ∧ ({ lane.config with ceiling := 4194304 } : LaneConfig).ceiling = 4194304) ∧
      part.sendQueue.length + part.reserved < 64 ∧
      held.reversalEligible (entry .payment .reversalDue) = false ∧
      part.reversalEligible (entry .payment .reversing) = false ∧
      part.reversalEligible { entry .payment .reversing with repeatDue := true } = true ∧
      (partWith { lane with counter := 513 }).reversalEligible (entry .payment .reversalDue) = false ∧
      (partWith { lane with counter := 513, config := { lane.config with state := .faulted .ceiling } }).reversalEligible
        (entry .payment .reversalDue) = true := by decide +kernel

theorem test_witness_GrantTakesWorkInOrder_reversal :
    (entered (entry .payment .reversalDue)).phase = .serving ∧
      (entered (entry .payment .reversalDue)).engine.job = none ∧
      noAnswerEligible (entered (entry .payment .reversalDue)) ∧
      (entered (entry .payment .reversalDue)).exchange 4 = some (entry .payment .reversalDue) ∧
      (entered (entry .payment .reversalDue)).reversalEligible (entry .payment .reversalDue) = true ∧
      (∀ j x, (entered (entry .payment .reversalDue)).exchange j = some x →
        (entered (entry .payment .reversalDue)).reversalEligible x = true →
        (entry .payment .reversalDue).deadline < x.deadline ∨
          ((entry .payment .reversalDue).deadline = x.deadline ∧ 4 ≤ j)) := by
  refine ⟨rfl, rfl, fun e he => (by cases he), by decide +kernel, by decide +kernel, fun j x hx _ => ?_⟩
  obtain ⟨rfl, rfl⟩ := entered_only _ _ _ hx
  exact Or.inr ⟨rfl, Nat.le_refl _⟩

theorem part_none (r : LaneRecord) (i : EntryId) : (partWith r).exchange i = none := by
  have : ∀ j : EntryId, part.exchange j = none := by decide +kernel
  exact this i

theorem noAnswer_part (r : LaneRecord) : noAnswerEligible (partWith r) := fun _ he => by cases he

theorem noReversal_part (r : LaneRecord) : noReversalEligible (partWith r) := fun i e h => by
  rw [part_none] at h
  cases h

theorem test_witness_GrantTakesWorkInOrder_none :
    State.reset.phase = .starting ∧ (holds .none .none (some jobOn3)).engine.job ≠ none ∧
      noAnswerEligible (partWith lane) ∧ noReversalEligible (partWith lane) ∧
      ∀ l, (partWith lane).mailboxEligible l = false :=
  ⟨rfl, by decide +kernel, noAnswer_part lane, noReversal_part lane, by decide +kernel⟩

/-- A REVERSE frame for the payment of exchange number 3. -/
def reverseFrame : LaneFrame := laneRead .reverse (some 3) []

/-- Lane 0 with a frame in its mailbox. -/
def posted (f : LaneFrame) : LaneRecord := { lane with mailbox := some f }

theorem mailboxTurn_posted (r : LaneRecord) (f : LaneFrame) (hm : r.mailbox = some f)
    (he : (partWith r).mailboxEligible 0 = true) : mailboxTurn (partWith r) 0 f := by
  refine ⟨rfl, rfl, noAnswer_part r, noReversal_part r, ⟨[], (List.finRange 48).drop 1, ?_, ?_⟩, he, hm⟩
  · have : roundRobin 47 = [] ++ 0 :: (List.finRange 48).drop 1 := by decide +kernel
    exact this
  · intro k hk
    cases hk

theorem test_witness_GrantServesMailbox :
    (∀ f ∈ [payFrame, reverseFrame, askFrame, laneRead .enrol none []], (partWith (posted f)).mailboxEligible 0 = true ∧
      (posted f).mailbox = some f ∧ (partWith (posted f)).upsets = []) ∧
    (mailboxTurn (partWith (posted payFrame)) 0 payFrame ∧ ((partWith (posted payFrame)).lane 0).openPayment = none ∧
      ((partWith (posted payFrame)).lane 0).lastAccepted ≠ some payFrame.xchg) ∧
    (partWith { posted payFrame with openPayment := some 0 }).mailboxEligible 0 = true ∧
    (partWith { posted payFrame with lastAccepted := some 7 }).mailboxEligible 0 = true ∧
    (partWith { posted payFrame with config := { lane.config with station := some 8 } }).mailboxEligible 0 = true ∧
    (partWith { posted payFrame with config := { lane.config with state := .test } }).mailboxEligible 0 = true :=
  ⟨by decide +kernel, ⟨mailboxTurn_posted _ _ rfl (by decide +kernel), by decide +kernel, by decide +kernel⟩,
    by decide +kernel, by decide +kernel, by decide +kernel, by decide +kernel⟩

/-- A lane whose base slot is gone is granted for no kind of frame. -/
theorem test_unusableBaseNeverGranted :
    ∀ f ∈ [payFrame, reverseFrame, askFrame, laneRead .enrol none []],
      ({ partWith (posted f) with slots := part.slots.set 3 emptySlot } : State).mailboxEligible 0 = false := by
  decide +kernel

/-- A lane whose last commit was lost is granted as any other. -/
theorem test_lostCommitIsGranted :
    (partWith { posted payFrame with lostCommit := some lane.config }).mailboxEligible 0 = true ∧
      (partWith { lane with lostCommit := some lane.config }).reversalEligible (entry .payment .reversalDue) = true := by
  decide +kernel

/-- The part with upsets, and a frame in lane 0's mailbox. -/
theorem test_witness_UncorrectableKeyEndsTheJob :
    mailboxTurn { partWith (posted askFrame) with upsets := [(2, .uncorrectable false)] } 0 askFrame ∧
      ((partWith (posted askFrame)).lane 0).config.state = .ready ∧ stationAgrees (posted askFrame).config askFrame ∧
      (posted askFrame).lastAccepted ≠ some askFrame.xchg ∧ part.linkKey 0 = some ⟨2, 1, 7⟩ ∧
      ({ part with upsets := [(2, .uncorrectable false)] } : State).upsetAt (slotPosition 2) =
        some (.uncorrectable false) :=
  ⟨mailboxTurn_posted _ _ rfl (by decide +kernel), by decide +kernel, Or.inl rfl, by decide +kernel,
    by decide +kernel, by decide +kernel⟩

/-! ## Witnesses: lane jobs -/

def link : LoadedKey := ⟨2, 1, 7⟩
def base : LoadedKey := ⟨3, 1, 8⟩

/-- A frame under the link key, with a body given in clear. -/
def signed (kind : LaneKind) (target : Option Nat) (clear : Bytes) : LaneFrame :=
  { laneRead kind target (encrypt 7 clear) with tag := (laneRead kind target (encrypt 7 clear)).expectedTag 7 }

/-- The part with a lane job in flight. -/
def working (r : LaneRecord) (f : LaneFrame) (work : LaneWork) : State :=
  { partWith r with engine := ⟨some (.lane 0 f link work), 0, 1⟩ }

theorem verified_working (r : LaneRecord) (kind : LaneKind) (target : Option Nat) (clear : Bytes) (work : LaneWork) :
    verifiedJob (working r (signed kind target clear) work) 0 (signed kind target clear) link work := ⟨rfl, rfl⟩

theorem clear_signed (kind : LaneKind) (target : Option Nat) (clear : Bytes) :
    decrypt link.key (signed kind target clear).body = clear := decrypt_encrypt 7 clear

/-- A payment frame whose tag fails. -/
def forged : LaneFrame := { payFrame with tag := ~~~(payFrame.expectedTag 7) }

theorem test_witness_LaneJobTagFails :
    (∀ r work, (working r forged work).engine.job = some (.lane 0 forged link work)) ∧
      forged.tag ≠ forged.expectedTag link.key ∧
      ((working { lane with tagFailures := 3 } forged .payTest).lane 0).tagFailures < 4 ∧
      ∀ st ∈ [LaneState.ready, .test, .exhausted, .unused, .suspended .control, .faulted .ceiling],
        4 ≤ ((working { inState st with tagFailures := 4 } forged .payTest).lane 0).tagFailures ∧
          ((working { inState st with tagFailures := 4 } forged .payTest).lane 0).config.state = st :=
  ⟨fun _ _ => rfl, not_ne _, by decide +kernel, by decide +kernel⟩

theorem test_witness_WrapTakesValueAndSequence :
    (((partWith { lane with counter := 4194047 }).lane 0).counter = 4194047 ∧
      ((partWith { lane with counter := 4194047 }).lane 0).config.state = .ready ∧
      part.persist.unwritten.length < 4095) ∧
    ({ lane with counter := 4128767 } : LaneRecord).counter = 4194303 - part.settings.warnMargin ∧
    (lane.advancePending = false ∧ lane.config.state ≠ .unused ∧ lane.config.state ≠ .faulted .ceiling ∧
      lane.config.ceiling < 4194304 ∧
      ({ lane with counter := 448 } : LaneRecord).config.ceiling ≤ ({ lane with counter := 448 } : LaneRecord).counter + 1 + 64) ∧
    (part.log.length ≤ 1024 ∧ part.epoch < 1024 ∧ part.engine.running < 4194304) := by decide +kernel

/-- A PAY of class 0 and amount 9, on a lane at its last payment value. -/
def pay9 : LaneFrame := signed .pay none [0, 0, 0, 0, 9]
def lastValue : LaneRecord := { lane with counter := 4194047 }

theorem header_pay9 : readHeader (decrypt link.key pay9.body) = some (0, 9) := by
  rw [pay9, clear_signed]
  decide +kernel

theorem test_witness_PayGoesLive :
    verifiedJob (working lastValue pay9 (.pay base)) 0 pay9 link (.pay base) ∧
      readHeader (decrypt link.key pay9.body) = some (0, 9) ∧
      ((working lastValue pay9 (.pay base)).lane 0).counter ≤ 4194047 ∧
      (working lastValue pay9 (.pay base)).monitor.state = .up ∧
      (working lastValue pay9 (.pay base)).logCount 0 = 0 ∧
      (working lastValue pay9 (.pay base)).freeEntry = some 0 ∧
      ((working lastValue pay9 (.pay base)).port .c).carrier = true :=
  ⟨verified_working _ _ _ _ _, header_pay9, by decide +kernel⟩

/-- A monitor that is DOWN. -/
def downMonitor : Monitor := ⟨.down, 3, none, 4194307, 4194306⟩

/-- A job in flight while the monitor is DOWN. -/
def offline (r : LaneRecord) (f : LaneFrame) (work : LaneWork) : State :=
  { working r f work with monitor := downMonitor }

theorem test_witness_PayGoesToTheLog :
    verifiedJob (offline lane pay9 (.pay base)) 0 pay9 link (.pay base) ∧
      readHeader (decrypt link.key pay9.body) = some (0, 9) ∧
      ((offline lane pay9 (.pay base)).lane 0).counter ≤ 4194047 ∧
      (offline lane pay9 (.pay base)).monitor.state ≠ .up ∧ standsIn (offline lane pay9 (.pay base)) 0 0 9 ∧
      (offline lane pay9 (.pay base)).freePlace = some 0 ∧
      (offline lane pay9 (.pay base)).persist.unwritten.length < 4094 ∧ (offline lane pay9 (.pay base)).log = [] := by
  refine ⟨⟨rfl, rfl⟩, header_pay9, by decide +kernel, by decide +kernel, ?_, by decide +kernel, by decide +kernel, rfl⟩
  unfold standsIn
  decide +kernel

/-- A PAY whose header is not well formed, and one of an amount above the class's limit. -/
def payBad : LaneFrame := signed .pay none [10, 0, 0, 0, 9]
def payMuch : LaneFrame := signed .pay none [0, 0, 0, 3, 0xE9]

/-- A payment job behind an entry of the lane in the log. -/
def behindLog : State := { working lane payMuch (.pay base) with log := [logged 0 .payment .queued true 0] }

/-- A payment job while every exchange entry is in use. -/
def noEntry : State :=
  { working lane pay9 (.pay base) with exchanges := Vector.replicate 160 (some (entry .payment .awaiting)) }

theorem test_witness_PayRefusedOrEchoed :
    (verifiedJob (working lane payBad .payTest) 0 payBad link .payTest ∧
      readHeader (decrypt link.key payBad.body) = none) ∧
    (verifiedJob (working lane pay9 .payTest) 0 pay9 link .payTest ∧ readHeader (decrypt link.key pay9.body) ≠ none) ∧
    verifiedJob (working lane payBad (.pay base)) 0 payBad link (.pay base) ∧
    (verifiedJob (working { lane with counter := 4194048 } pay9 (.pay base)) 0 pay9 link (.pay base) ∧
      4194047 < ((working { lane with counter := 4194048 } pay9 (.pay base)).lane 0).counter) ∧
    (readHeader (decrypt link.key payMuch.body) = some (0, 1001) ∧
      verifiedJob (offline lane payMuch (.pay base)) 0 payMuch link (.pay base) ∧
      (offline lane payMuch (.pay base)).monitor.state ≠ .up ∧ ¬ standsIn (offline lane payMuch (.pay base)) 0 0 1001) ∧
    (verifiedJob behindLog 0 payMuch link (.pay base) ∧ behindLog.monitor.state = .up ∧ behindLog.logCount 0 ≠ 0 ∧
      ¬ standsIn behindLog 0 0 1001) ∧
    (verifiedJob noEntry 0 pay9 link (.pay base) ∧ noEntry.monitor.state = .up ∧ noEntry.logCount 0 = 0 ∧
      noEntry.freeEntry = none) := by
  have hb : readHeader (decrypt link.key payBad.body) = none := by
    rw [payBad, clear_signed]
    decide +kernel
  have hm : readHeader (decrypt link.key payMuch.body) = some (0, 1001) := by
    rw [payMuch, clear_signed]
    decide +kernel
  refine ⟨⟨⟨rfl, rfl⟩, hb⟩, ⟨⟨rfl, rfl⟩, by rw [header_pay9]; exact Option.some_ne_none _⟩, ⟨rfl, rfl⟩,
    ⟨⟨rfl, rfl⟩, by decide +kernel⟩, ⟨hm, ⟨rfl, rfl⟩, ?_⟩, ⟨⟨rfl, rfl⟩, ?_⟩, ⟨rfl, rfl⟩, by decide +kernel⟩ <;>
    · unfold standsIn
      decide +kernel

theorem test_witness_StateReplied :
    verifiedJob (working lane (signed .askState none []) .askState) 0 (signed .askState none []) link .askState ∧
      verifiedJob (working lane (signed .enrol none []) .enrol) 0 (signed .enrol none []) link .enrol :=
  ⟨verified_working _ _ _ _ _, verified_working _ _ _ _ _⟩

/-- Lane 0 with the item of payment 3 in a place. -/
def listed (place : RecentPlace) : LaneRecord := { lane with recent := [⟨2, 1, .reversed⟩, ⟨3, 3, place⟩] }

/-- A REVERSE of payment 3, its job, and that job beside an exchange entry or a log. -/
def reverse3 : LaneFrame := signed .reverse (some 3) []
def reversing (place : RecentPlace) : State := working (listed place) reverse3 (.reverse base)
def reversingEntry (st : ExchangeState) : State :=
  { reversing (.exchange 4) with exchanges := (entered (entry .payment st)).exchanges }
def reversingLogged (k : LogKind) (st : LogState) : State :=
  { reversing (.log 0) with log := [logged 0 k st true 0], nextSerial := 1 }

theorem test_witness_ReverseActsByPlace :
    (∀ place, verifiedJob (reversing place) 0 reverse3 link (.reverse base)) ∧ reverse3.target = some 3 ∧
      ((working lane reverse3 (.reverse base)).lane 0).recent.find? (fun x => x.xchg = 3) = none ∧
      (∀ place ∈ [RecentPlace.reversed, .exchange 4, .log 0],
        ((reversing place).lane 0).recent.find? (fun x => x.xchg = 3) = some ⟨3, 3, place⟩) ∧
      (∀ st ∈ [ExchangeState.awaiting, .reversalDue, .reversing],
        (reversingEntry st).exchange 4 = some (entry .payment st) ∧ (entry .payment st).state = st) ∧
      (∀ k ∈ [LogKind.payment, .reversal], (reversingLogged k .queued).logAt 0 = some (logged 0 k .queued true 0) ∧
        (reversingLogged k .queued).persist.full = false) :=
  ⟨fun _ => ⟨rfl, rfl⟩, rfl, by decide +kernel⟩

theorem test_witness_NewReversalWrapped :
    (verifiedJob (reversing (.done .approved)) 0 reverse3 link (.reverse base) ∧ reverse3.target = some 3 ∧
      ((reversing (.done .approved)).lane 0).recent.find? (fun x => x.xchg = 3) = some ⟨3, 3, .done .approved⟩ ∧
      ((reversing (.done .approved)).lane 0).counter ≠ 4194304 ∧ (reversing (.done .approved)).monitor.state = .up ∧
      (reversing (.done .approved)).logCount 0 = 0 ∧ (reversing (.done .approved)).freeEntry = some 0 ∧
      ((reversing (.done .approved)).port .s).carrier = true ∧
      ((reversing (.done .approved)).port .s).order.length < 240) ∧
    (verifiedJob (reversingLogged .payment .sent) 0 reverse3 link (.reverse base) ∧
      ((reversingLogged .payment .sent).lane 0).recent.find? (fun x => x.xchg = 3) = some ⟨3, 3, .log 0⟩ ∧
      (reversingLogged .payment .sent).logAt 0 = some (logged 0 .payment .sent true 0) ∧
      (logged 0 .payment .sent true 0).seq = 3 ∧ (reversingLogged .payment .sent).freePlace = some 1 ∧
      (reversingLogged .payment .sent).persist.unwritten.length < 4094 ∧
      (∀ e ∈ (reversingLogged .payment .sent).log, e.serial < (reversingLogged .payment .sent).nextSerial)) ∧
    ((working { listed (.done .approved) with counter := 4194304 } reverse3 (.reverse base)).lane 0).counter = 4194304 :=
  ⟨⟨⟨rfl, rfl⟩, by decide +kernel⟩, ⟨⟨rfl, rfl⟩, by decide +kernel⟩, by decide +kernel⟩

theorem test_witness_NewReversalWrapped_full :
    ({ part with log := (List.finRange 1024).map (fun p => logged p .payment .sent true 0) } : State).freePlace = none := by
  rw [State.freePlace, List.find?_eq_none]
  intro p _
  simp only [List.all_eq_true, decide_eq_true_eq, not_forall, List.mem_map]
  exact ⟨logged p .payment .sent true 0, ⟨p, List.mem_finRange p, rfl⟩, fun h => h rfl⟩

/-! ## Witnesses: answer, reversal and repeat jobs -/

/-- The transaction key of the entries used here. -/
def txKey : Key := Config.transactionKey 8 who 5

/-- An envelope for those entries under that key. -/
def sealedEnvelope (kind : EnvelopeKind) (clear : Bytes) : Envelope :=
  { chainRead kind (encrypt txKey clear) with
    identity := who
    tag := Config.tag txKey .inbound ({ chainRead kind (encrypt txKey clear) with identity := who } : Envelope).covered }

/-- The part with an entry in place 4, a log, and an answer job for that entry. -/
def answering (env : Envelope) (e : Exchange) (log : List LogEntry) (found : Option (EntryId × Nat)) (b : Option LoadedKey) :
    State :=
  { entered e with log := log, engine := ⟨some (.answer env found (some 0) b (some link)), 0, 1⟩ }

theorem answerFor_answering (kind : EnvelopeKind) (clear : Bytes) (e : Exchange) (log : List LogEntry)
    (b : Option LoadedKey) (he : (entered e).isLate (chainRead kind []) = false)
    (hf : (entered e).entryOf 3 = some (4, e)) (hs : e.stamp = 4) :
    answerFor (answering (sealedEnvelope kind clear) e log (some (4, 4)) b) (sealedEnvelope kind clear) b (some link) 4 e :=
  ⟨some 0, by rw [hs]; rfl, he, hf⟩

theorem test_witness_AnswerSettled_payment :
    answerFor (answering (sealedEnvelope .answer [1]) (entry .payment .awaiting) [] (some (4, 4)) (some base))
        (sealedEnvelope .answer [1]) (some base) (some link) 4 (entry .payment .awaiting) ∧
      envelopePasses (answering (sealedEnvelope .answer [1]) (entry .payment .awaiting) [] (some (4, 4)) (some base))
        (sealedEnvelope .answer [1]) (entry .payment .awaiting) txKey ∧
      readOutcome (decrypt txKey (sealedEnvelope .answer [1]).body) = some .approved :=
  ⟨answerFor_answering _ _ _ _ _ (by decide +kernel) (by decide +kernel) rfl, ⟨rfl, by decide +kernel, rfl⟩, by
    have : decrypt txKey (sealedEnvelope .answer [1]).body = [1] := decrypt_encrypt txKey [1]
    rw [this]
    decide +kernel⟩

theorem test_witness_AnswerSettled_reversal :
    answerFor (answering (sealedEnvelope .reversalAck []) (entry .payment .reversing) [] (some (4, 4)) (some base))
        (sealedEnvelope .reversalAck []) (some base) (some link) 4 (entry .payment .reversing) ∧
      envelopePasses (answering (sealedEnvelope .reversalAck []) (entry .payment .reversing) [] (some (4, 4)) (some base))
        (sealedEnvelope .reversalAck []) (entry .payment .reversing) txKey :=
  ⟨answerFor_answering _ _ _ _ _ (by decide +kernel) (by decide +kernel) rfl, ⟨rfl, by decide +kernel, rfl⟩⟩

/-- A LOG-SEND entry for the log's place 0. -/
def sendEntry : Exchange := { entry .logSend .awaiting with logRef := some 0 }

/-- An answer job, with its base key, for that entry beside the log entry it sends. -/
def answeringLogged (env : Envelope) (k : LogKind) (b : Option LoadedKey) : State :=
  answering env sendEntry [logged 0 k .sent true 0] (some (4, 4)) b

theorem test_witness_AnswerSettled_log :
    (∀ k, (answeringLogged (chainRead .answer []) k none).logAt 0 = some (logged 0 k .sent true 0)) ∧
    part.persist.full = false ∧
    ∀ code outcome, code = 2 ∧ outcome = AnswerOutcome.declined ∨ code = 1 ∧ outcome = .approved →
      answerFor (answeringLogged (sealedEnvelope .answer [code]) .payment (some base)) (sealedEnvelope .answer [code])
        (some base) (some link) 4 sendEntry ∧
      envelopePasses (answeringLogged (sealedEnvelope .answer [code]) .payment (some base))
        (sealedEnvelope .answer [code]) sendEntry txKey ∧
      readOutcome (decrypt txKey (sealedEnvelope .answer [code]).body) = some outcome := by
  refine ⟨fun k => by cases k <;> decide +kernel, by decide +kernel, fun code outcome h => ⟨?_, ?_, ?_⟩⟩
  · exact answerFor_answering _ _ _ _ _ (by decide +kernel) (by decide +kernel) rfl
  · exact ⟨rfl, by rcases h with ⟨rfl, _⟩ | ⟨rfl, _⟩ <;> decide +kernel, rfl⟩
  · have : decrypt txKey (sealedEnvelope .answer [code]).body = [code] := decrypt_encrypt txKey [code]
    rw [this]
    rcases h with ⟨rfl, rfl⟩ | ⟨rfl, rfl⟩ <;> decide +kernel

theorem test_witness_AnswerSettled_loggedReversal :
    answerFor (answeringLogged (sealedEnvelope .reversalAck []) .reversal (some base)) (sealedEnvelope .reversalAck [])
        (some base) (some link) 4 sendEntry ∧
      envelopePasses (answeringLogged (sealedEnvelope .reversalAck []) .reversal (some base))
        (sealedEnvelope .reversalAck []) sendEntry txKey :=
  ⟨answerFor_answering _ _ _ _ _ (by decide +kernel) (by decide +kernel) rfl, ⟨rfl, by decide +kernel, rfl⟩⟩

/-- Answer jobs that settle nothing: for an envelope that is LATE, for one without an entry, for an entry that came
after the grant, for an envelope of another identity, and without a base key. -/
def answeringLate : State :=
  answering (chainRead .answer []) { entry .payment .reversing with orig := some 3, seq := 8 } [] none none
def answeringNone : State := answering (chainRead .answer []) { entry .payment .awaiting with seq := 8 } [] none none
def answeringFor (k : EnvelopeKind) (st : ExchangeState) (found : Option (EntryId × Nat)) (b : Option LoadedKey) : State :=
  answering (chainRead k []) (entry .payment st) [] found b

theorem test_witness_AnswerNotVerified :
    answeringLate.isLate (chainRead .answer []) = true ∧
      (answeringNone.isLate (chainRead .answer []) = false ∧ answeringNone.entryOf 3 = none) ∧
      (∀ k st found b, (answeringFor k st found b).engine.job = some (.answer (chainRead k []) found (some 0) b (some link))) ∧
      (∀ st ∈ [ExchangeState.awaiting, .reversing],
        (answeringFor .answer st (some (4, 4)) (some base)).isLate (chainRead .answer []) = false ∧
        (answeringFor .answer st (some (4, 4)) (some base)).entryOf 3 = some (4, entry .payment st)) ∧
      (none : Option (EntryId × Nat)) ≠ some (4, (entry .payment .awaiting).stamp) ∧
      ((answeringFor .answer .awaiting (some (4, 4)) (some base)).lane 0).config.identity ≠
        some (chainRead .answer []).identity :=
  ⟨by decide +kernel, by decide +kernel, fun _ _ _ _ => rfl, by decide +kernel, by decide +kernel, by decide +kernel⟩

theorem test_witness_AnswerNotVerified_log :
    (answeringLogged (chainRead .answer []) .payment none).isLate (chainRead .answer []) = false ∧
      (answeringLogged (chainRead .answer []) .payment none).entryOf 3 = some (4, sendEntry) ∧
      sendEntry.logRef = some 0 ∧
      (answeringLogged (chainRead .answer []) .payment none).persist.full = false := by decide +kernel

theorem test_witness_AnswerNotVerified_noOutcome :
    answerFor (answering (sealedEnvelope .answer []) (entry .payment .awaiting) [] (some (4, 4)) (some base))
        (sealedEnvelope .answer []) (some base) (some link) 4 (entry .payment .awaiting) ∧
      envelopePasses (answering (sealedEnvelope .answer []) (entry .payment .awaiting) [] (some (4, 4)) (some base))
        (sealedEnvelope .answer []) (entry .payment .awaiting) txKey ∧
      readOutcome (decrypt txKey (sealedEnvelope .answer []).body) = none :=
  ⟨answerFor_answering _ _ _ _ _ (by decide +kernel) (by decide +kernel) rfl, ⟨rfl, by decide +kernel, rfl⟩, by
    have : decrypt txKey (sealedEnvelope .answer []).body = [] := decrypt_encrypt txKey []
    rw [this]
    decide +kernel⟩

/-- A reversal job, or a repeat job, on the entry in place 4. -/
def reversalJobOn (b : Option LoadedKey) (m : Monitor) : State :=
  { entered (entry .payment .reversalDue) with engine := ⟨some (.reversal 4 0 b), 0, 1⟩, monitor := m }
def repeatJobOn (b : Option LoadedKey) (r : LaneRecord) : State :=
  { entered (entry .payment .reversing) with
    engine := ⟨some (.repetition 4 0 b), 0, 1⟩, lanes := part.lanes.set 0 r }

theorem test_witness_ReversalJobsAct :
    (∀ m ∈ [part.monitor, downMonitor], (reversalJobOn (some base) m).exchange 4 = some (entry .payment .reversalDue) ∧
      (entry .payment .reversalDue).state = .reversalDue ∧
      (reversalJobOn (some base) m).engine.job = some (.reversal 4 0 (some base)) ∧
      (entry .payment .reversalDue).orig = some 2 ∧ (entry .payment .reversalDue).cause = some .timeout ∧
      ((reversalJobOn (some base) m).lane 0).counter ≠ 4194304 ∧
      ((reversalJobOn (some base) m).lane 0).config.state ≠ .faulted .ceiling ∧
      (reversalJobOn (some base) m).monitor.state = m.state ∧ (reversalJobOn (some base) m).logCount 0 = 0 ∧
      (reversalJobOn (some base) m).freePlace = some 0 ∧ (reversalJobOn (some base) m).log = [] ∧
      (reversalJobOn (some base) m).persist.unwritten.length < 4094) ∧
    ((repeatJobOn none lane).exchange 4 = some (entry .payment .reversing) ∧
      (repeatJobOn none lane).engine.job = some (.repetition 4 0 none) ∧
      (entry .payment .reversing).state = .reversing) ∧
    (((repeatJobOn (some base) { inState (.faulted .ceiling) with counter := 513 }).lane 0).config.state =
        .faulted .ceiling ∧
      ((repeatJobOn (some base) { inState (.faulted .ceiling) with counter := 513 }).lane 0).counter =
        ((repeatJobOn (some base) { inState (.faulted .ceiling) with counter := 513 }).lane 0).config.ceiling) := by
  decide +kernel

/-! ## Witnesses: deadlines, the drain and the monitor's timer -/

theorem test_witness_PaymentTimesOut :
    ((entered (entry .payment .awaiting)).exchange 4 = some (entry .payment .awaiting) ∧
        (entered (entry .payment .awaiting)).phase = .serving ∧ (entry .payment .awaiting).deadline ≤ part.clock ∧
        (entry .payment .awaiting).kind = .payment ∧ (entry .payment .awaiting).state = .awaiting) ∧
      (entry .payment .reversing).state ≠ .awaiting ∧
      part.clock < ({ entry .payment .awaiting with deadline := 9001 } : Exchange).deadline ∧ part.exchange 4 = none := by
  decide +kernel

theorem test_witness_ReversingDeadlineMarks :
    ((entered (entry .payment .reversing)).exchange 4 = some (entry .payment .reversing) ∧
        (entry .payment .reversing).deadline ≤ part.clock ∧ (entry .payment .reversing).state = .reversing ∧
        (entered (entry .payment .reversing)).heldOpt ((entered (entry .payment .reversing)).lane 0).config.base = false ∧
        ((entered (entry .payment .reversing)).lane 0).hasValue = true) ∧
      ({ entry .payment .reversing with repeatDue := true } : Exchange).repeatDue = true ∧
      (entry .payment .awaiting).state ≠ .reversing ∧
      part.clock < ({ entry .payment .reversing with deadline := 9001 } : Exchange).deadline ∧ part.exchange 4 = none := by
  decide +kernel

/-- The part with a log of three entries: one SENT, one QUEUED, one QUEUED and unwritten. -/
def draining : State :=
  { part with log := [logged 0 .payment .sent true 0, logged 1 .reversal .queued true 0, logged 2 .payment .queued false 0] }

theorem test_witness_DrainSendsTheOldest :
    (draining.log = [logged 0 .payment .sent true 0] ++ logged 1 .reversal .queued true 0 ::
        [logged 2 .payment .queued false 0] ∧
      (∀ x ∈ [logged 0 .payment .sent true 0], x.state ≠ .queued) ∧
      (∀ x ∈ [logged 0 .payment .sent true 0] ++ [logged 2 .payment .queued false 0],
        x.serial ≠ (logged 1 .reversal .queued true 0).serial) ∧
      draining.phase = .serving ∧ draining.freeEntry = some 0 ∧ draining.monitor.state = .up ∧ draining.logSent < 8 ∧
      16 < draining.freeEntries ∧ draining.sendPlaceFree = true ∧ draining.persist.full = false) ∧
    (State.reset.phase = .starting ∧ downMonitor.state ≠ .up ∧
      8 ≤ ({ part with log := List.replicate 8 (logged 0 .payment .sent true 0) } : State).logSent ∧
      ({ part with sendQueue := List.replicate 64 (chainRead .answer []) } : State).sendPlaceFree = false ∧
      (∀ x ∈ part.log, x.state ≠ .queued) ∧ (logged 2 .payment .queued false 0).written = false) := by decide +kernel

theorem test_witness_DrainSendsTheOldest_entries :
    ({ part with exchanges := Vector.replicate 144 (some sendEntry) ++ Vector.replicate 16 (none : Option Exchange) } : State).freeEntries ≤ 16 := by decide +kernel

theorem test_witness_LogSendTimesOut :
    ((entered sendEntry).exchange 4 = some sendEntry ∧ sendEntry.kind = .logSend ∧ sendEntry.logRef = some 0 ∧
      part.clock < ({ sendEntry with deadline := 9001 } : Exchange).deadline ∧ sendEntry.deadline ≤ part.clock) ∧
    ∀ n ∈ [2, 3], ({ entered sendEntry with log := [logged 0 .payment .sent true n] } : State).logAt 0 =
      some (logged 0 .payment .sent true n) := by decide +kernel

theorem test_witness_ProbeTimerExpires :
    (({ part with monitor := ⟨.suspect, 2, some 9000, 4194307, 4194306⟩ } : State).monitor.timer = some 9000 ∧
      part.phase = .serving ∧ 9000 ≤ part.clock ∧ (part.port .c).carrier = true ∧ part.settings.missLimit = 3) ∧
    (part.sendPlaceFree = true ∧
      ({ part with sendQueue := List.replicate 64 (chainRead .answer []) } : State).sendPlaceFree = false) ∧
    (part.monitor.timer = some 10000 ∧ part.clock < 10000) ∧ State.reset.monitor.timer = none := by decide +kernel

/-! ## Witnesses: scrubbing -/

/-- The part with a wrong record at position 2, to be checked next, or at the walk position behind a held slot. -/
def worn (walk : Position) (u : Upset) : State :=
  { part with scrub := { part.scrub with walk := walk }, upsets := [(2, u)] }

theorem test_witness_ScrubStepChecksTheNext :
    (worn 2 (.single 5 false)).walkFrom 145 2 = 2 ∧
      ({ held with scrub := { held.scrub with walk := 3 } } : State).walkFrom 145 3 = 4 ∧ part.phase = .serving ∧
      part.scrub.nextStep ≤ part.clock ∧ ((worn 3 (.single 5 false)).applyWear noWear).upsetAt 3 = none ∧
      ((worn 2 (.single 5 false)).applyWear noWear).upsetAt 2 = some (.single 5 false) ∧
      (part.applyWear ⟨[(2, .single 5 true)], [⟨.slot 2, true⟩]⟩).upsetAt 2 = some (.single 5 true) ∧
      State.reset.phase = .starting ∧ part.scrub.capture = none ∧
      part.clock < ({ part.scrub with nextStep := 9001 } : Scrubber).nextStep := by decide +kernel

theorem test_witness_ScrubStepFaultsTheOwner :
    (∀ q ∈ [(2 : Position), 3, 96, 143, 144], (worn q (.uncorrectable true)).walkFrom 145 q = q) ∧
    (part.applyWear ⟨[(2, .worsening 5 false)], []⟩).upsetAt 2 = some (.worsening 5 false) ∧
    ((2 : Position) = slotPosition 2 ∧ (3 : Position) = slotPosition 3 ∧
      (part.applyWear ⟨[(2, .uncorrectable true)], []⟩).upsetAt 2 = some (.uncorrectable true) ∧
      (part.slot 2).state ≠ .faulted ∧ ({ part.slot 2 with state := .faulted } : SlotRecord).state = .faulted ∧
      (part.lane 0).config.link = some 2 ∧ (part.lane 0).config.link ≠ some 3 ∧ (part.lane 0).config.base = some 3) ∧
    (∀ st ∈ [LaneState.ready, .test, .exhausted, .suspended .control, .unused, .faulted .ceiling],
      ((partIn st).lane 0).config.state = st) ∧
    ((96 : Position) = lanePosition 0 ∧ (143 : Position) = lanePosition 47 ∧ (144 : Position) = settingsPosition) := by
  decide +kernel

/-- The copy's ceiling may stand above lane 0's counter of 1, at it, or below a counter of 2; the copy may be bad; a job of
the lane may be in flight. -/
theorem test_witness_ScrubStepFaultsTheOwner_ceiling :
    (({ part with store := stored .ready 600 } : State).laneCopy 0).map
        (fun c => restoredCeiling c (stored .ready 600).ceilings[(0 : LaneId)]) = some 600 ∧
      (({ part with store := stored .ready 1 } : State).laneCopy 0).map
        (fun c => restoredCeiling c (stored .ready 1).ceilings[(0 : LaneId)]) = some 1 ∧
      ({ part with store := decayed .ready 1 [⟨.lane 0, true⟩] } : State).laneCopy 0 = none ∧
      (part.lane 0).counter = 1 ∧ (partWith { lane with counter := 2 }).lane 0 = { lane with counter := 2 } ∧
      part.wrapInFlight 0 = false ∧
      (holds .none .none (some (.repetition 4 0 (some ⟨3, 1, 8⟩)))).wrapInFlight 0 = true := by decide +kernel

/-- A job that takes no value is no wrap in flight. -/
theorem test_wrapInFlight :
    (∀ w ∈ [LaneWork.enrol, .askState, .payTest],
      (holds .none .none (some (.lane 0 payFrame ⟨2, 1, 7⟩ w))).wrapInFlight 0 = false) ∧
      (∀ w ∈ [LaneWork.pay ⟨3, 1, 8⟩, .reverse ⟨3, 1, 8⟩],
        (holds .none .none (some (.lane 0 payFrame ⟨2, 1, 7⟩ w))).wrapInFlight 0 = true ∧
        (holds .none .none (some (.lane 0 payFrame ⟨2, 1, 7⟩ w))).wrapInFlight 1 = false) ∧
      (holds .none .none (some (.answer (chainRead .answer []) none (some 0) none none))).wrapInFlight 0 = false ∧
      (holds .none .none (some (.reversal 4 0 none))).wrapInFlight 0 = false := by decide +kernel

/-- The copy is the record of a lost commit, the one a waiting group carries, or the store's. -/
theorem test_witness_ScrubStepFaultsTheOwner_copy :
    (partWith { lane with lostCommit := some factoryLaneConfig }).laneCopy 0 = some factoryLaneConfig ∧
      ({ part with persist := ⟨some (.epoch 1), [.group laneGroup, .epoch 2], none⟩, store := factoryStore } :
        State).laneCopy 0 = some lane.config ∧
      ({ part with store := stored .ready 600 } : State).laneCopy 0 = some { lane.config with ceiling := 600 } ∧
      (part.lane 0).lostCommit = none ∧ (∀ w ∈ part.persist.unwritten, w.touchesLane 0 = false) ∧
      (∀ n, lane.config.link = some n → (part.slot n).state ≠ .empty) ∧
      ∀ n, lane.config.base = some n → (part.slot n).state ≠ .empty := by decide +kernel

/-- The copy's ceiling comes back while the counter, with the take of a job in flight that may wrap, does not exceed it. -/
theorem test_copiedCeiling :
    copiedCeiling false lane 1 = 1 ∧ copiedCeiling true lane 1 = 513 ∧ copiedCeiling true lane 2 = 2 ∧
      copiedCeiling false lane 0 = 513 := by decide +kernel

/-! ## Witnesses: transmission, carrier and the Persist Queue -/

theorem test_witness_TransmissionFinishes :
    ((((waitingAt 1).takeNext .s).port .s).transmitting = some .order ∧
      ((waitingAt 1).port .s).order = [.bridged ⟨1, 1, 1, []⟩]) ∧
    ((part.takeNext .s).port .s).transmitting ≠ some .order ∧
    ((((bothWaiting .order).takeNext .c).port .c).transmitting = some .sendQueue ∧
      (bothWaiting .order).sendQueue = [chainRead .answer []]) ∧
    (((bothWaiting .sendQueue).takeNext .c).port .c).transmitting = some .order ∧
    ((part.takeNext .c).port .c).transmitting ≠ some .sendQueue := by decide +kernel

theorem test_witness_CarrierComesAndGoes :
    ((part.port .s).carrier = true ∧ (part.port .c).carrier = true ∧ part.monitor.state = .up ∧
      (part.port .s).order.length < 256 ∧ part.monitor.state ≠ .down) ∧
    downMonitor.state = .down ∧ ((State.reset.port .s).carrier = false ∧ (State.reset.port .c).carrier = false ∧
      State.reset.phase = .starting) ∧
    (({ part with ports := ⟨part.ports.s, resetPort⟩ } : State).port .c).carrier = false ∧
    (part.sendPlaceFree = true ∧
      ({ part with sendQueue := List.replicate 64 (chainRead .answer []) } : State).sendPlaceFree = false) ∧
    (part.settings.notices[0].enabled = true ∧ part.settings.notices[0].destination ≠ .shop ∧
      ({ enabled := true, destination := .shop } : NoticeSetting).destination = .shop) := by
  decide +kernel

/-- The part with an envelope of two segments in transmission at the C-port. -/
def twoSegments : State :=
  { part with
    ports := ⟨part.ports.s, { part.ports.c with transmitting := some .sendQueue }⟩
    sendQueue := [chainRead .answer (List.replicate 1217 0)] }

theorem test_witness_CarrierComesAndGoes_segments :
    (twoSegments.port .c).carrier = true ∧ (twoSegments.port .c).transmitting = some .sendQueue ∧
      twoSegments.sendQueue = chainRead .answer (List.replicate 1217 0) :: [] ∧
      1216 < (chainRead .answer (List.replicate 1217 0)).body.length :=
  ⟨rfl, rfl, rfl, by decide +kernel⟩

/-- The first segment that had left at the loss of carrier is on the wire, and it alone. -/
theorem test_firstSegmentOnTheWire :
    ((twoSegments.cCarrierLost true).wire.drop twoSegments.wire.length).length = 1 ∧
      (twoSegments.cCarrierLost false).wire = twoSegments.wire := by decide +kernel

/-- The part with a write being written. -/
def writing (w : Write) (waiting : List Write) : State := { part with persist := ⟨some w, waiting, none⟩ }

def group : CommitGroup := ⟨some factorySettings, [(5, emptySlot)], [(0, factoryLaneConfig)], [(0, factoryClass)]⟩

theorem test_witness_WriteEnds :
    (∀ w ws, (writing w ws).persist.current = some w ∧ (writing w ws).persist.waiting.head? = ws.head?) ∧
      storeForm (writing (.group group) []) ∧
      ((group.slots.map Prod.fst).Nodup ∧ (group.lanes.map Prod.fst).Nodup ∧ (group.classes.map Prod.fst).Nodup) ∧
      (5 : SlotId) ∈ group.slots.map Prod.fst ∧ RecordName.slot 6 ∉ recordsOf (.group group) ∧
      RecordName.epoch ∉ recordsOf (.laneState 0 .ready) ∧
      ({ writing (.laneState 0 .ready) [] with persist := ⟨some (.laneState 0 .ready), [], some lane.config⟩ } :
        State).persist.image = some lane.config ∧ (writing (.laneState 0 .ready) []).persist.image = none := by
  refine ⟨fun _ _ => ⟨rfl, rfl⟩, ?_, by decide +kernel⟩
  unfold storeForm
  decide +kernel

theorem test_witness_WritesReported (w : Write) : (writing w []).persist.current = some w := rfl

/-- The part while lane 0's group is being written, with the advance of its reset directly behind it. -/
def resetting (t : PersistentStore) : State :=
  { writing (.group laneGroup) [.ceiling 0 (some 3) (some 1) 513 false, .epoch 3] with
    store := t
    lanes := part.lanes.set 0 { lane with advancePending := true } }

theorem test_witness_WritesReported_advances :
    (resetting factoryStore).persist.standOn laneGroup factoryStore = [0] ∧
      (resetting (stored .ready 1)).persist.standOn laneGroup (stored .ready 1) = [] ∧
      (laneGroup.laneOf 0 = some lane.config ∧ laneGroup.laneOf 1 = none ∧
        ((resetting factoryStore).lane 0).lostCommit = none ∧
        (∀ w ∈ (resetting factoryStore).persist.waiting, w.touchesLane 0 = false) ∧
        ∃ w ∈ (writing (.group laneGroup) [.group laneGroup]).persist.waiting, w.touchesLane 0 = true) ∧
      factoryStore.lanes[(0 : LaneId)].read ≠ none ∧
      (decayed .ready 1 [⟨.lane 0, true⟩]).lanes[(0 : LaneId)].read = none := by decide +kernel

/-- A group fails: its lane's advance is not written and the lane stays as it was, and keeps the group's record; where the store already holds the
base slot and generation the advance goes on. -/
theorem test_commitGroupFailed :
    ((resetting factoryStore).groupReported .failed).persist.current = some (.epoch 3) ∧
      ((resetting factoryStore).groupReported .failed).lane 0 = { lane with lostCommit := some lane.config } ∧
      ((resetting (stored .ready 1)).groupReported .failed).persist.current =
        some (.ceiling 0 (some 3) (some 1) 513 false) ∧
      (((resetting (stored .ready 1)).groupReported .failed).lane 0).advancePending = true := by decide +kernel

/-- A ceiling write that carries another base slot than the lane's leaves the lane's ceiling. -/
theorem test_ceilingOfAnotherBase :
    let t := (writing (.ceiling 0 (some 4) (some 1) 2000 false) []).ceilingCompleted
    (t.lane 0).config.ceiling = 513 ∧ t.persist.current = none := by decide +kernel

/-- 13.3.2 and R186: a COMMIT refused for no entry, and a HOLD refused without a hold, carry zeros. -/
theorem test_absentReplyFields :
    (absentData 3).bytes = [0, 0, 0, 0] ∧ (absentData 5).bytes = [0, 0, 0] ∧ (absentData 2).bytes = [] := by
  decide +kernel

theorem test_witness_AppendWritesReported :
    (({ writing (.append (logged 0 .payment .queued false 0) (some 9) 100) [] with
        log := [logged 0 .payment .queued false 0] } : State).logEntry 0 = some (logged 0 .payment .queued false 0)) ∧
      part.logEntry 0 = none ∧ (∀ w ∈ [Write.epoch 3], w.isRemovalOf 0 = false) ∧
      (writing (.append (logged 0 .payment .queued false 0) (some 9) 100) [.removal 0 0 (some ⟨0, 7⟩), .epoch 3]).persist.waiting =
        [] ++ .removal 0 0 (some ⟨0, 7⟩) :: [.epoch 3] := by decide +kernel

end Sys2Proof.Tests
end

section
/-! SUPPORT. An accepted control frame, from the port to the reply (R1, R2, R162 to R165), and SET-LANE CLEAR-VOLATILE
(R38). -/

namespace Sys2Proof.Machine

open Sys2Proof.Safety

/-! ## From the port to the control responder -/

/-- A frame that the Frame Sorter is handed in SERVING is counted and sorted (R1). -/
theorem State.receiveFrame_of_taken {s : State} {p : Port} {f : EthFrame} (h : taken s p f) :
    s.receiveFrame p f = (countedIn s p).sort p f := by
  obtain ⟨serving, takes⟩ := h
  have notMac : f.etype ≠ Config.macControlType := of_decide_eq_true (Bool.and_eq_true_iff.mp takes).2
  simp [State.receiveFrame, notMac, takes, serving, countedIn]

theorem State.classify_countPort (s : State) (p q : Port) (c : PortCounters → PortCounters) (f : EthFrame) :
    (s.countPort q c).classify p f = s.classify p f := rfl

/-- A frame of the control type to the port's own station is a control frame (R2). -/
theorem State.classify_control {s : State} {p : Port} {f : EthFrame} (etype : f.etype = Config.controlType)
    (own : f.dst = s.settings.station p) : s.classify p f = .control := by
  have notLane : Config.controlType ≠ Config.laneType := by decide
  have notChain : Config.controlType ≠ Config.chainType := by decide
  simp [State.classify, etype, own, notLane, notChain]

theorem State.receiveFrame_of_reachesCheck {s : State} {p : Port} {f : EthFrame} {g : ControlFrame}
    (h : reachesCheck s p f g) : s.receiveFrame p f = (countedIn s p).takeControl p f := by
  obtain ⟨htaken, etype, own, -⟩ := h
  have control : (countedIn s p).classify p f = .control :=
    (State.classify_countPort _ _ _ _ _).trans (State.classify_control etype own)
  rw [State.receiveFrame_of_taken htaken, State.sort, control]

/-- The reply to a request that was carried out, and the grant test that follows it (R149, R164). -/
def State.replyCarried (p : Port) (g : ControlFrame) (key : Key) (r : State × Carried) : State :=
  let t := r.1.answer p g key r.2.answer r.2.restart
  if r.2.grants then t.grantHolds else t

/-- An accepted control frame is carried out in the state that has heard it, and replied to under the key of its check
(R163 to R165). -/
theorem State.receiveFrame_of_accepted {s : State} {p : Port} {f : EthFrame} {g : ControlFrame}
    (h : accepted s p f g) :
    s.receiveFrame p f = State.replyCarried p g (s.controlKey p) ((heard s p g).carryOut p g) := by
  obtain ⟨reaches, tag, newer⟩ := h
  have key : (countedIn s p).controlKey p = s.controlKey p := rfl
  have last : ((countedIn s p).ctl p).lastNumber = (s.ctl p).lastNumber := rfl
  rw [State.receiveFrame_of_reachesCheck reaches]
  obtain ⟨-, -, -, read⟩ := reaches
  simp only [State.takeControl, read, key, last]
  rw [if_neg (not_not_intro tag), if_neg (Nat.not_le.mpr newer)]
  rfl

/-! ## What acceptance leaves as it was -/

theorem State.sansControl_restartIdle (s : State) (p : Port) : (s.restartIdle p).sansControl = s.sansControl := rfl

theorem State.sansControl_accept (s : State) (p : Port) (g : ControlFrame) :
    (s.accept p g).sansControl = s.sansControl := by
  unfold State.accept
  dsimp only
  split
  · rfl
  · exact State.sansControl_restartIdle _ _

/-- Counting and accepting a control frame writes the ports and their control state alone. -/
theorem sansControl_heard (s : State) (p : Port) (g : ControlFrame) : (heard s p g).sansControl = s.sansControl :=
  (State.sansControl_accept _ _ _).trans (State.sansControl_of_tx (State.sansTx_countPort _ _ _))

@[simp] theorem lane_heard (s : State) (p : Port) (g : ControlFrame) (l : LaneId) :
    (heard s p g).lane l = s.lane l := by
  simp only [State.lane, State.lanes_of_control (sansControl_heard s p g)]

/-! ## Idle lanes (R32, R38) -/

theorem State.laneIdle_iff (s : State) (l : LaneId) :
    s.laneIdle l = true ↔
      s.ownsEntry l = false ∧ s.logCount l = 0 ∧ (s.lane l).mailbox = none ∧ s.jobInFlight l = false := by
  simp [State.laneIdle, and_assoc]

/-- Whether a lane is idle is read from the exchanges, the log, the lanes and the engine. -/
theorem State.laneIdle_of_control {s t : State} (h : t.sansControl = s.sansControl) (l : LaneId) :
    t.laneIdle l = s.laneIdle l := by
  simp only [State.laneIdle, State.ownsEntry, State.logCount, State.lane, State.jobInFlight,
    State.exchanges_of_control h, State.log_of_control h, State.lanes_of_control h, State.engine_of_control h]

@[simp] theorem laneIdle_heard (s : State) (p : Port) (g : ControlFrame) (l : LaneId) :
    (heard s p g).laneIdle l = s.laneIdle l := State.laneIdle_of_control (sansControl_heard s p g) l

/-! ## SET-LANE (R169) -/

theorem State.setLaneRequest_lane (s : State) (l : LaneId) (a : LaneAction) :
    s.setLaneRequest l.val a = ((s.setLaneAs l a).1, ⟨(s.setLaneAs l a).2, .none⟩) := by
  simp [State.setLaneRequest]

/-- An accepted SET-LANE of a lane that exists has its action's effect, and its status is replied without data. -/
theorem State.receiveFrame_setLane {s : State} {p : Port} {f : EthFrame} {g : ControlFrame} {l : LaneId}
    {a : LaneAction} (h : accepted s p f g) (read : g.read = some (.setLane l.val a)) :
    s.receiveFrame p f = ((heard s p g).setLaneAs l a).1.answer p g (s.controlKey p)
      ⟨((heard s p g).setLaneAs l a).2, .none⟩ false := by
  rw [State.receiveFrame_of_accepted h]
  simp [State.carryOut, read, State.setLaneRequest_lane, State.replyCarried]

/-! ## CLEAR-VOLATILE (R38) -/

theorem State.clearVolatile_of_idle {s : State} {l : LaneId} (idle : s.laneIdle l = true) :
    s.clearVolatile l = (s.setLane l { s.lane l with
      tagFailures := 0, lastAccepted := none, recent := [], counters := zeroLaneCounters }, .done) := by
  simp [State.clearVolatile, idle, State.modLane]

theorem State.clearVolatile_of_busy {s : State} {l : LaneId} (busy : s.laneIdle l = false) :
    s.clearVolatile l = (s, .refused .conflict) := by
  simp [State.clearVolatile, busy]

theorem exec_setLaneClearVolatile (p : Port) (f : EthFrame) (s : State) :
    exec (.setLaneClearVolatile p f) s = .next (s.receiveFrame p f) := rfl

/-- Settles O32: the accepted request is carried out in the state that has heard it, where the lane is as it was and
idle exactly when it was. -/
theorem clearVolatileActs : Obligations.ClearVolatileActs := by
  intro p f g l s haccepted read
  have ran : exec (.setLaneClearVolatile p f) s = .next (((heard s p g).clearVolatile l).1.answer p g
      (s.controlKey p) ⟨((heard s p g).clearVolatile l).2, .none⟩ false) := by
    rw [exec_setLaneClearVolatile, State.receiveFrame_setLane haccepted read]
    rfl
  rw [← State.laneIdle_iff]
  constructor
  · intro idle
    rw [ran, State.clearVolatile_of_idle ((laneIdle_heard s p g l).trans idle), lane_heard]
  · intro busy
    rw [ran, State.clearVolatile_of_busy ((laneIdle_heard s p g l).trans (Bool.eq_false_of_not_eq_true busy))]

end Sys2Proof.Machine
end

section
/-! SUPPORT. A lane job whose frame's tag verifies (R20, R25, R66), what the end of a job leaves as it was, and the
STATE reply to ENROL and ASK-STATE (R72). -/

namespace Sys2Proof.Machine

open Sys2Proof.Safety

/-! ## The end of a job -/

@[simp] theorem State.finishJob_lane (s : State) (k : LaneId) : s.finishJob.lane k = s.lane k := by
  simp only [State.lane, State.finishJob_form, State.grantHolds_lanes]

@[simp] theorem State.finishJob_exchanges (s : State) : s.finishJob.exchanges = s.exchanges :=
  State.grantHolds_exchanges _

@[simp] theorem State.finishJob_log (s : State) : s.finishJob.log = s.log := State.grantHolds_log _

@[simp] theorem State.finishJob_sendQueue (s : State) : s.finishJob.sendQueue = s.sendQueue :=
  State.grantHolds_sendQueue _

@[simp] theorem State.finishJob_job (s : State) : s.finishJob.engine.job = none := by
  rw [State.finishJob_engine]

@[simp] theorem State.handTill_lane (s : State) (dst : Mac) (till xchg : Nat) (c : TillContent) (key : Option Key)
    (k : LaneId) : (s.handTill dst till xchg c key).lane k = s.lane k := by
  simp only [State.lane, State.handTill_lanes]

/-! ## A verified tag (R20, R25, R66) -/

/-- A verified frame teaches the lane its source where the lane has no station, or where an ENROL comes to a lane that
is not frozen (R20). -/
theorem learnedStation_eq (c : LaneConfig) (f : LaneFrame) :
    learnedStation c f =
      if c.station = none ∨ (c.frozen = false ∧ f.kind = .enrol) then some f.src else c.station := by
  unfold learnedStation
  cases c.station with
  | none => simp
  | some a => simp

/-- What a verified tag records in the lane (R20, R25, R30). -/
theorem State.tagVerified_eq (s : State) (l : LaneId) (f : LaneFrame) :
    s.tagVerified l f = s.setLane l { s.lane l with
      tagFailures := 0
      lastAccepted := some f.xchg
      config := { (s.lane l).config with
        station := if (s.lane l).config.station = none ∨ ((s.lane l).config.frozen = false ∧ f.kind = .enrol)
          then some f.src else (s.lane l).config.station } } := by
  rw [← learnedStation_eq]
  rfl

theorem State.tagVerified_lane_same (s : State) (l : LaneId) (f : LaneFrame) :
    (s.tagVerified l f).lane l = { s.lane l with
      tagFailures := 0
      lastAccepted := some f.xchg
      config := { (s.lane l).config with station := learnedStation (s.lane l).config f } } :=
  State.lane_modLane_same _ _ _

/-- A verified tag writes the lanes alone. -/
theorem State.sansLanes_tagVerified (s : State) (l : LaneId) (f : LaneFrame) :
    (s.tagVerified l f).sansLanes = s.sansLanes := State.sansLanes_modLane _ _ _

/-- A lane job whose tag verifies does its work in the state that has recorded the frame (R66). -/
theorem State.laneJob_of_verified (s : State) (l : LaneId) {f : LaneFrame} {link : LoadedKey} (work : State → State)
    (tag : f.tag = f.expectedTag link.key) :
    s.laneJob l f link work = (work (s.tagVerified l f)).finishJob := by
  rw [State.laneJob, if_pos tag]

/-! ## ENROL and ASK-STATE (R72) -/

/-- The row of an ENROL or ASK-STATE job in flight completes it. -/
theorem exec_jobRow_of_stateWork {s : State} {l : LaneId} {f : LaneFrame} {link : LoadedKey} {work : LaneWork}
    (kind : work = .enrol ∨ work = .askState) (inFlight : s.engine.job = some (.lane l f link work)) :
    exec (jobRow work) s = .next (s.laneJob l f link (fun t => t.stateWork l f link)) := by
  obtain rfl | rfl := kind
  · have run : exec (jobRow .enrol) s = .next s.enrolJob := rfl
    rw [run, State.enrolJob, inFlight]
  · have run : exec (jobRow .askState) s = .next s.askStateJob := rfl
    rw [run, State.askStateJob, inFlight]

/-- The STATE reply to a verified frame: the till number and the state that the lane had before it. -/
theorem State.stateWork_tagVerified (s : State) (l : LaneId) (f : LaneFrame) (link : LoadedKey) :
    (s.tagVerified l f).stateWork l f link = (s.tagVerified l f).handTill f.src
      ((s.lane l).config.till.getD f.till) f.xchg (.state (s.lane l).config.state s.monitor.state)
      (some link.key) := by
  simp only [State.stateWork, State.replyInHand, State.tagVerified_lane_same,
    State.monitor_of_lanes (s.sansLanes_tagVerified l f)]

/-- Settles O43: the job's row hands the STATE reply in the state that has recorded the frame; the reply and the end of
the job leave the lanes and everything upstream as they were. -/
theorem stateReplied : Obligations.StateReplied := by
  intro l f link work s kind ⟨inFlight, tag⟩
  have recorded := s.sansLanes_tagVerified l f
  refine ⟨((s.tagVerified l f).stateWork l f link).finishJob, ?_, ?_, ?_⟩
  · rw [exec_jobRow_of_stateWork kind inFlight, State.laneJob_of_verified s l _ tag]
  · rw [State.stateWork_tagVerified, State.tagVerified_eq]
  · rw [State.stateWork_tagVerified]
    simp [State.tagVerified_lane_same, State.exchanges_of_lanes recorded, State.log_of_lanes recorded,
      State.sendQueue_of_lanes recorded]

end Sys2Proof.Machine
end

section
/-! SUPPORT. What a reply leaves of a port's change set and hold, and DISCARD (R141). -/

namespace Sys2Proof.Machine

open Sys2Proof.Safety

/-! ## The change set and the hold while a reply is handed over -/

/-- Blanked of transmission, a port's control state has lost its restart mark alone. -/
theorem State.ctl_sansTx (s : State) (p : Port) : s.sansTx.ctl p = { s.ctl p with restart := .none } := by
  cases p <;> rfl

theorem State.changeSet_of_tx {s t : State} (h : t.sansTx = s.sansTx) (p : Port) :
    (t.ctl p).changeSet = (s.ctl p).changeSet := by
  have k := congrArg (fun u => (u.ctl p).changeSet) h
  simpa only [State.ctl_sansTx] using k

theorem State.hold_of_tx {s t : State} (h : t.sansTx = s.sansTx) (p : Port) :
    (t.ctl p).hold = (s.ctl p).hold := by
  have k := congrArg (fun u => (u.ctl p).hold) h
  simpa only [State.ctl_sansTx] using k

/-! ## An emptied change set (R137) -/

@[simp] theorem State.emptySet_changeSet (s : State) (p : Port) :
    ((s.emptySet p).ctl p).changeSet = emptyChangeSet := by
  rw [State.emptySet, State.ctl_setCtl_same]

@[simp] theorem State.emptySet_hold (s : State) (p : Port) : ((s.emptySet p).ctl p).hold = (s.ctl p).hold := by
  rw [State.emptySet, State.ctl_setCtl_same]

/-! ## The hold while a control frame is accepted -/

@[simp] theorem State.restartIdle_hold (s : State) (p : Port) : ((s.restartIdle p).ctl p).hold = (s.ctl p).hold := by
  rw [State.restartIdle, State.ctl_setCtl_same]

/-- Acceptance writes the number, the notice address and the set's idle timer, never the hold (R140, R163). -/
@[simp] theorem State.accept_hold (s : State) (p : Port) (g : ControlFrame) :
    ((s.accept p g).ctl p).hold = (s.ctl p).hold := by
  unfold State.accept
  dsimp only
  split
  · rw [State.ctl_setCtl_same]
  · rw [State.restartIdle_hold, State.ctl_setCtl_same]

@[simp] theorem hold_heard (s : State) (p : Port) (g : ControlFrame) :
    ((heard s p g).ctl p).hold = (s.ctl p).hold := by
  rw [heard, State.accept_hold, countedIn, State.ctl_countPort]

/-! ## DISCARD (R141) -/

theorem exec_discard (p : Port) (f : EthFrame) (s : State) : exec (.discard p f) s = .next (s.receiveFrame p f) := rfl

/-- An accepted DISCARD empties the set of the state that has heard it, and DONE is replied. -/
theorem State.receiveFrame_discard {s : State} {p : Port} {f : EthFrame} {g : ControlFrame}
    (h : accepted s p f g) (read : g.read = some .discard) :
    s.receiveFrame p f = ((heard s p g).emptySet p).answer p g (s.controlKey p) ⟨.done, .none⟩ false := by
  rw [State.receiveFrame_of_accepted h]
  simp [State.carryOut, read, State.replyCarried]

/-- Settles O27: the set is emptied before the reply is handed over, and the reply writes transmission alone. -/
theorem discardEmptiesTheSet : Obligations.DiscardEmptiesTheSet := by
  intro p f g s haccepted read
  have replied := ((heard s p g).emptySet p).sansTx_answer p g (s.controlKey p) ⟨.done, .none⟩ false
  refine ⟨_, (exec_discard p f s).trans (congrArg _ (State.receiveFrame_discard haccepted read)), rfl, ?_, ?_, ?_⟩
  · rw [State.changeSet_of_tx replied, State.emptySet_changeSet]
  · rw [State.hold_of_tx replied, State.emptySet_hold, hold_heard]
  · rw [State.events_of_tx replied, State.emptySet_events, State.events_of_control (sansControl_heard s p g)]

end Sys2Proof.Machine
end

section
/-! SUPPORT. What any operation can do to the queues, the holds and the job in flight (R4, R59, R107, R111, R150, R179), said
once: a state that has grown from another by at most so many envelopes, with the same holds and the same job. -/

namespace Sys2Proof.Machine

open Sys2Proof.Safety

/-! ## Growth -/

/-- The fields that the capacities, the holds' exclusion and the stored log's form are read from. -/
def State.core (s : State) :=
  (s.pending, s.answerQueue, s.sendQueue, s.engine.job, s.control, s.ports, s.persist, s.store)

/-- One state has come from another with the same holds and the same job in flight, at most `k` more envelopes in the
Send Queue, and every other queue within its capacity where it was before. -/
structure Grown (k : Nat) (s t : State) : Prop where
  pending : t.pending = s.pending
  answers : t.answerQueue.length ≤ s.answerQueue.length
  send : t.sendQueue.length ≤ s.sendQueue.length + k
  job : t.engine.job = s.engine.job
  hold : ∀ p, (t.ctl p).hold = (s.ctl p).hold
  orders : ordersFit s → ordersFit t
  persist : persistFits s → persistFits t
  form : storeForm s → storeForm t

theorem Grown.of_core {s t : State} (h : t.core = s.core) : Grown 0 s t := by
  simp only [State.core, Prod.mk.injEq] at h
  obtain ⟨pending, answers, send, job, control, ports, persist, store⟩ := h
  refine ⟨pending, by rw [answers], by rw [send]; omega, job, ?_, ?_, ?_, ?_⟩
  · intro p; rw [State.ctl, control]; rfl
  · intro fits p; rw [State.port, ports]; exact fits p
  · intro fits; rw [persistFits, persist]; exact fits
  · intro form; rw [storeForm, store]; exact form

theorem Grown.refl (s : State) : Grown 0 s s := Grown.of_core rfl

/-- A quiet operation, then any. -/
theorem Grown.trans {k : Nat} {s t u : State} (a : Grown 0 s t) (b : Grown k t u) : Grown k s u where
  pending := b.pending.trans a.pending
  answers := b.answers.trans a.answers
  send := by have := a.send; have := b.send; omega
  job := b.job.trans a.job
  hold p := (b.hold p).trans (a.hold p)
  orders := b.orders ∘ a.orders
  persist := b.persist ∘ a.persist
  form := b.form ∘ a.form

/-- Any operation, then a quiet one. -/
theorem Grown.quiet {k : Nat} {s t u : State} (a : Grown k s t) (b : Grown 0 t u) : Grown k s u where
  pending := b.pending.trans a.pending
  answers := b.answers.trans a.answers
  send := by have := a.send; have := b.send; omega
  job := b.job.trans a.job
  hold p := (b.hold p).trans (a.hold p)
  orders := b.orders ∘ a.orders
  persist := b.persist ∘ a.persist
  form := b.form ∘ a.form

theorem Grown.mono {j k : Nat} {s t : State} (h : Grown j s t) (le : j ≤ k) : Grown k s t :=
  { h with send := h.send.trans (by omega) }

/-- A fold of quiet operations is quiet. -/
theorem Grown.foldl {α : Type} (op : State → α → State) (h : ∀ s a, Grown 0 s (op s a)) (xs : List α) (s : State) :
    Grown 0 s (xs.foldl op s) := by
  induction xs generalizing s with
  | nil => exact .refl s
  | cons a xs ih => exact (h s a).trans (ih _)

/-! ## Handing frames and raising events -/

/-- An operation of transmission is quiet where it keeps the orders within their capacity. -/
theorem Grown.of_tx {s t : State} (h : t.sansTx = s.sansTx) (orders : ordersFit s → ordersFit t) : Grown 0 s t where
  pending := State.pending_of_tx h
  answers := by rw [State.answerQueue_of_tx h]
  send := by rw [State.sendQueue_of_tx h]; omega
  job := by rw [State.engine_of_tx h]
  hold := State.hold_of_tx h
  orders := orders
  persist fits := by rw [persistFits, State.persist_of_tx h]; exact fits
  form fits := by rw [storeForm, State.store_of_tx h]; exact fits

theorem Grown.takeNext (s : State) (p : Port) : Grown 0 s (s.takeNext p) :=
  .of_tx (s.sansTx_takeNext p) (fun fits q => by rw [State.takeNext_order]; exact fits q)

theorem Grown.restartLeft (s : State) (p : Port) (gone : Bool) : Grown 0 s (s.restartLeft p gone) :=
  .of_tx (s.sansTx_restartLeft p gone) (fun fits q => by rw [State.port_restartLeft]; exact fits q)

/-- Writing a port is quiet where its order gets no longer. -/
theorem Grown.setPort (s : State) (p : Port) (x : PortState) (h : x.order.length ≤ (s.port p).order.length) :
    Grown 0 s (s.setPort p x) := by
  refine .of_tx (s.sansTx_setPort p x) (fun fits q => ?_)
  rcases Port.eq_or_opposite p q with rfl | rfl
  · rw [State.port_setPort_same]; exact h.trans (fits q)
  · rw [State.port_setPort_opposite]; exact fits p.opposite

theorem Grown.countPort (s : State) (p : Port) (c : PortCounters → PortCounters) : Grown 0 s (s.countPort p c) :=
  .setPort s p _ le_rfl

theorem Grown.handFrame (s : State) (p : Port) (f : OutFrame) : Grown 0 s (s.handFrame p f) :=
  .of_tx (s.sansTx_handFrame p f) (s.handFrame_ordersFit p f)

theorem Grown.handTill (s : State) (dst : Mac) (till xchg : Nat) (c : TillContent) (key : Option Key) :
    Grown 0 s (s.handTill dst till xchg c key) := .handFrame s _ _

theorem Grown.replyInHand (s : State) (l : LaneId) (f : LaneFrame) (c : TillContent) (key : Option Key) :
    Grown 0 s (s.replyInHand l f c key) := .handTill s _ _ _ _ _

theorem Grown.sendEarlier (s : State) (l : LaneId) (xchg : Nat) (c : TillContent) (key : Option Key) :
    Grown 0 s (s.sendEarlier l xchg c key) := by
  unfold State.sendEarlier
  split
  · exact .handTill s _ _ _ _ _
  · exact .refl s

theorem Grown.broadcastTills (s : State) (c : TillContent) : Grown 0 s (s.broadcastTills c) := .handTill s _ _ _ _ _

theorem Grown.reply (s : State) (p : Port) (dst : Mac) (number : ControlNumber) (request : Byte)
    (status : ReplyStatus) (data : ReplyData) (key : Key) (restart : Bool) :
    Grown 0 s (s.reply p dst number request status data key restart) := .handFrame s _ _

theorem Grown.answer (s : State) (p : Port) (g : ControlFrame) (key : Key) (a : Answer) (restart : Bool) :
    Grown 0 s (s.answer p g key a restart) := .reply s _ _ _ _ _ _ _ _

theorem Grown.cancelReply (s : State) (c : Option CancelReply) : Grown 0 s (s.cancelReply c) := by
  cases c with
  | none => exact .refl s
  | some r => exact .sendEarlier s _ _ _ _

theorem Grown.raise (s : State) (d : EventDetails) : Grown 0 s (s.raise d) := by
  unfold State.raise
  dsimp only
  have latched : Grown 0 s (s.latchEvent d.kind.number) := .of_core rfl
  split
  · exact .of_core rfl
  · split
    · exact latched.trans (Grown.foldl _ (fun t p => .handFrame t p _) _ _)
    · exact latched

/-- An operation on a state, then an event. -/
theorem Grown.thenRaise {k : Nat} {s t : State} (h : Grown k s t) (d : EventDetails) : Grown k s (t.raise d) :=
  h.quiet (.raise t d)

theorem Grown.writeFailed (s : State) (k : WriteKind) (x : FailSubject) : Grown 0 s (s.writeFailed k x) := .raise s _

theorem Grown.removalFailed (s : State) (p : PlaceId) (c : Option CancelReply) : Grown 0 s (s.removalFailed p c) :=
  Grown.trans (.writeFailed s _ _) (.cancelReply _ c)

/-! ## The Persist Queue -/

/-- Writing the Persist Queue and the store is quiet where the queue gets no longer and the stored log keeps its form. -/
theorem Grown.of_persist {s t : State} (h : ∃ q d, t = { s with persist := q, store := d })
    (persist : persistFits s → persistFits t) (form : storeForm s → storeForm t) : Grown 0 s t := by
  obtain ⟨q, d, rfl⟩ := h
  exact ⟨rfl, le_rfl, by simp, rfl, fun _ => rfl, id, persist, form⟩

/-- The waiting writes in a new order or number. -/
theorem Grown.setWaiting (s : State) (ws : List Write)
    (h : persistFits s → s.persist.current.toList.length + ws.length ≤ Config.persistCapacity) :
    Grown 0 s (s.setWaiting ws) :=
  .of_persist (s.setWaiting_form ws)
    (fun fits => by rw [persistFits, State.unwritten_setWaiting, List.length_append]; exact h fits)
    (s.setWaiting_storeForm ws)

theorem PersistQueue.length_unwritten (q : PersistQueue) :
    q.unwritten.length = q.current.toList.length + q.waiting.length := List.length_append

/-- A queue that is not full has room for one write more (R179). -/
theorem PersistQueue.full_eq_false_iff (q : PersistQueue) :
    q.full = false ↔ q.unwritten.length < Config.persistCapacity := by
  rw [q.length_unwritten, PersistQueue.full, decide_eq_false_iff_not]
  cases q.current <;> simp <;> omega

theorem Grown.enqueue (s : State) (join : List Write → List Write) (failed : State → State)
    (one : ∀ ws, (join ws).length = ws.length + 1) (hf : Grown 0 s (failed s)) : Grown 0 s (s.enqueue join failed) := by
  unfold State.enqueue
  split
  · exact hf
  · rename_i room
    have room := (PersistQueue.full_eq_false_iff _).mp (Bool.eq_false_of_not_eq_true room)
    rw [PersistQueue.length_unwritten] at room
    exact .setWaiting s _ (fun _ => by rw [one]; omega)

theorem Grown.replaceOrAppend (s : State) (stop hit : Write → Bool) (new : Write) (failed : State → State)
    (hf : Grown 0 s (failed s)) : Grown 0 s (s.replaceOrAppend stop hit new failed) := by
  unfold State.replaceOrAppend
  split
  · rename_i ws replaced
    have len := replaceLast_length _ _ _ _ _ replaced
    refine .setWaiting s _ (fun fits => ?_)
    rw [persistFits, PersistQueue.length_unwritten] at fits
    rw [List.length_reverse, len, List.length_reverse]
    exact fits
  · exact .enqueue s _ _ (fun ws => by simp) hf

theorem Grown.queueLaneState (s : State) (l : LaneId) : Grown 0 s (s.queueLaneState l) :=
  .replaceOrAppend s _ _ _ _ (.writeFailed s _ _)

theorem Grown.queueSlotState (s : State) (n : SlotId) (r : SlotRecord) : Grown 0 s (s.queueSlotState n r) :=
  .enqueue s _ _ (fun ws => by simp) (.writeFailed s _ _)

theorem Grown.queueUpdate (s : State) (e : LogEntry) : Grown 0 s (s.queueUpdate e) :=
  .replaceOrAppend s _ _ _ _ (.writeFailed s _ _)

theorem Grown.queueRemoval (s : State) (e : LogEntry) (c : Option CancelReply) : Grown 0 s (s.queueRemoval e c) :=
  .replaceOrAppend s _ _ _ _ (.removalFailed s _ _)

theorem State.unwritten_endWrite (s : State) (w : Write) (r : WriteResult) :
    (s.endWrite w r).persist.unwritten = s.persist.waiting := State.unwritten_pump _

theorem Grown.endWrite (s : State) (w : Write) (r : WriteResult) : Grown 0 s (s.endWrite w r) := by
  refine .of_persist (s.endWrite_form w r) (fun fits => ?_) (s.endWrite_storeForm w r)
  rw [persistFits, PersistQueue.length_unwritten] at fits
  rw [persistFits, State.unwritten_endWrite]
  omega

/-- Writes that wait leave the queue. -/
theorem Grown.filterWaiting (s : State) (keep : Write → Bool) (stale : Write → Write) (lanes : Vector LaneRecord 48) :
    Grown 0 s { s with
      lanes := lanes
      persist := { s.persist with
        current := s.persist.current.map stale
        waiting := s.persist.waiting.filter keep } } := by
  refine ⟨rfl, le_rfl, by simp, rfl, fun _ => rfl, id, fun fits => ?_, id⟩
  rw [persistFits, PersistQueue.length_unwritten] at fits ⊢
  have fewer := List.length_filter_le keep s.persist.waiting
  cases h : s.persist.current <;> simp [h] at fits ⊢ <;> omega

theorem Grown.dropCeilings (s : State) (l : LaneId) : Grown 0 s (s.dropCeilings l) := .filterWaiting s _ _ s.lanes

theorem Grown.dropRemovals (s : State) (serial : Nat) : Grown 0 s (s.dropRemovals serial) := by
  have h := Grown.filterWaiting s (fun w => !w.isRemovalOf serial) id s.lanes
  rwa [Option.map_id] at h

theorem Grown.loseGroup (s : State) (g : CommitGroup) (last : LaneId → Bool) : Grown 0 s (s.loseGroup g last) := by
  have kept : ∀ lanes : Vector LaneRecord 48, Grown 0 s { s with lanes := lanes } := fun _ => .of_core rfl
  exact (kept _).trans (.writeFailed _ _ _)

/-! ## Lanes -/

theorem Grown.modLane (s : State) (l : LaneId) (f : LaneRecord → LaneRecord) : Grown 0 s (s.modLane l f) := .of_core rfl

theorem Grown.countRefusal (s : State) (l : LaneId) (r : TillReason) : Grown 0 s (s.countRefusal l r) := .modLane s l _

theorem Grown.countDeferred (s : State) (l : LaneId) : Grown 0 s (s.countDeferred l) := .modLane s l _

theorem Grown.countTimeout (s : State) (l : LaneId) : Grown 0 s (s.countTimeout l) := .modLane s l _

theorem Grown.countReversal (s : State) (l : LaneId) : Grown 0 s (s.countReversal l) := .modLane s l _

theorem Grown.countLive (s : State) (l : LaneId) : Grown 0 s (s.countLive l) := .modLane s l _

theorem Grown.countAnswer (s : State) (l : LaneId) : Grown 0 s (s.countAnswer l) := .modLane s l _

theorem Grown.refuseAtHand (s : State) (l : LaneId) (f : LaneFrame) (r : TillReason) :
    Grown 0 s (s.refuseAtHand l f r) := (Grown.replyInHand s _ _ _ _).trans (.countRefusal _ _ _)

theorem Grown.refuseInJob (s : State) (l : LaneId) (f : LaneFrame) (k : LoadedKey) (r : TillReason) :
    Grown 0 s (s.refuseInJob l f k r) := (Grown.replyInHand s _ _ _ _).trans (.countRefusal _ _ _)

theorem Grown.clearMailbox (s : State) (l : LaneId) : Grown 0 s (s.clearMailbox l) := by
  unfold State.clearMailbox
  split
  · exact .refl s
  · split
    · exact (Grown.modLane s l _).trans (.refuseAtHand _ _ _ _)
    · exact .refl s

theorem Grown.changeState (s : State) (l : LaneId) (st : LaneState) (event : Option EventDetails) :
    Grown 0 s (s.changeState l st event) := by
  unfold State.changeState
  refine Grown.trans ?_ ((Grown.clearMailbox _ _).trans (.queueLaneState _ _))
  cases event with
  | none => exact .modLane s l _
  | some d => exact (Grown.modLane s l _).thenRaise d

theorem Grown.faultLane (s : State) (l : LaneId) (c : FaultCause) : Grown 0 s (s.faultLane l c) := by
  unfold State.faultLane
  split
  · exact .refl s
  · exact .refl s
  · exact .changeState s _ _ _

theorem Grown.faultRecord (s : State) (l : LaneId) : Grown 0 s (s.faultRecord l) :=
  (Grown.modLane s l _).trans (.faultLane _ _ _)

theorem Grown.ceilingFailed (s : State) (l : LaneId) : Grown 0 s (s.ceilingFailed l) :=
  (Grown.writeFailed s _ _).trans ((Grown.modLane _ _ _).trans (.faultLane _ _ _))

theorem Grown.requestAdvance (s : State) (l : LaneId) (join : Write → List Write → List Write)
    (one : ∀ w ws, (join w ws).length = ws.length + 1) : Grown 0 s (s.requestAdvance l join) :=
  (Grown.modLane s l _).trans (.enqueue _ _ _ (one _) (.ceilingFailed _ _))

theorem joinCeiling_length (new : Write) (ws : List Write) : (joinCeiling new ws).length = ws.length + 1 :=
  (joinCeiling_perm new ws).length_eq

theorem joinBehind_length (l : LaneId) (new : Write) (ws : List Write) :
    (joinBehind l new ws).length = ws.length + 1 := (joinBehind_perm l new ws).length_eq

theorem Grown.advanceTest (s : State) (l : LaneId) : Grown 0 s (s.advanceTest l) := by
  unfold State.advanceTest
  split
  · exact .requestAdvance s l _ joinCeiling_length
  · exact .refl s

theorem Grown.foundedAdvanceTest (s : State) (l : LaneId) : Grown 0 s (s.foundedAdvanceTest l) := by
  unfold State.foundedAdvanceTest
  split
  · split
    · exact .requestAdvance s l _ joinCeiling_length
    · split
      · exact .requestAdvance s l _ (joinBehind_length l)
      · exact .refl s
  · exact .refl s

theorem Grown.ceilingDone (s : State) (l : LaneId) (b : Option SlotId) (g : Option Nat) (n : Nat) :
    Grown 0 s (s.ceilingDone l b g n) := (Grown.modLane s l _).trans (.advanceTest _ l)

theorem Grown.warnTake (s : State) (l : LaneId) (c : Nat) : Grown 0 s (s.warnTake l c) := by
  unfold State.warnTake
  split
  · exact .raise s _
  · exact .refl s

theorem Grown.limitTake (s : State) (l : LaneId) (c : Nat) : Grown 0 s (s.limitTake l c) := by
  unfold State.limitTake
  split
  · exact .changeState s _ _ _
  · exact .refl s

theorem Grown.takeCounter (s : State) (l : LaneId) : Grown 0 s (s.takeCounter l).2 :=
  (Grown.modLane s l _).trans ((Grown.warnTake _ _ _).trans ((Grown.limitTake _ _ _).trans (.advanceTest _ _)))

theorem Grown.bringReady (s : State) (l : LaneId) : Grown 0 s (s.bringReady l) := by
  unfold State.bringReady
  dsimp only
  split <;> exact (Grown.modLane s l _).trans (.changeState _ _ _ _)

theorem Grown.setLaneAs (s : State) (l : LaneId) (a : LaneAction) : Grown 0 s (s.setLaneAs l a).1 := by
  cases a with
  | ready =>
    simp only [State.setLaneAs, State.setReady]
    split
    · split
      · exact (Grown.bringReady s l).trans (.foundedAdvanceTest _ l)
      · exact .refl s
    · exact .refl s
    · exact .bringReady s l
    · exact .bringReady s l
    · exact .refl s
    · exact .refl s
  | suspend =>
    simp only [State.setLaneAs, State.setSuspend]
    split
    all_goals dsimp only
    case h_1 | h_2 | h_3 => exact .refl s
    all_goals exact .changeState s _ _ _
  | test =>
    simp only [State.setLaneAs, State.setTest]
    split <;> dsimp only
    · exact .changeState s _ _ _
    · exact .refl s
    · exact .refl s
  | unused =>
    simp only [State.setLaneAs, State.setUnused]
    split
    · exact .refl s
    · split
      · dsimp only
        exact (Grown.modLane s l _).trans (.changeState _ _ _ _)
      · exact .refl s
  | clearVolatile =>
    simp only [State.setLaneAs, State.clearVolatile]
    split
    · exact .modLane s l (fun r => { r with
        tagFailures := 0, lastAccepted := none, recent := [], counters := zeroLaneCounters })
    · exact .refl s

/-! ## Findings of the scrubber and of the engine-side check -/

theorem PersistentStore.decays_storeForm (ds : List Decay) (s : State) (h : storeForm s) :
    storeForm { s with store := ds.foldl PersistentStore.decay s.store } := PersistentStore.decays_form ds s.store h

theorem Grown.applyWear (s : State) (w : Wear) : Grown 0 s (s.applyWear w) :=
  ⟨rfl, le_rfl, by simp [State.applyWear], rfl, fun _ => rfl, id, id, PersistentStore.decays_storeForm w.decays s⟩

theorem Grown.offerCapture (s : State) (p : Position) (k : FindingKind) (y : Option Syndrome) (a : Agent) :
    Grown 0 s (s.offerCapture p k y a) := by
  unfold State.offerCapture
  split <;> exact .of_core rfl

theorem Grown.softFinding (s : State) (p : Position) (y : Syndrome) (a : Agent) : Grown 0 s (s.softFinding p y a) :=
  Grown.trans (t := s.modFault p _) (.of_core rfl) ((Grown.raise _ _).trans (.offerCapture _ _ _ _ _))

theorem Grown.reportHard (s : State) (p : Position) (y : Syndrome) (a : Agent) : Grown 0 s (s.reportHard p y a) := by
  unfold State.reportHard
  split
  · exact .refl s
  · exact (Grown.raise s _).trans (.of_core rfl)

theorem Grown.hardFinding (s : State) (p : Position) (y : Syndrome) (a : Agent) : Grown 0 s (s.hardFinding p y a) :=
  Grown.trans (t := s.modFault p _) (.of_core rfl) ((Grown.reportHard _ _ _ _).trans (.offerCapture _ _ _ _ _))

theorem Grown.faultNaming (s : State) (n : SlotId) (l : LaneId) : Grown 0 s (s.faultNaming n l) := by
  unfold State.faultNaming
  dsimp only
  split
  · exact .faultLane s _ _
  · split
    · exact .faultLane s _ _
    · exact .refl s

theorem Grown.faultLanesOf (s : State) (n : SlotId) : Grown 0 s (s.faultLanesOf n) :=
  .foldl _ (fun t l => .faultNaming t n l) _ _

theorem Grown.faultSlot (s : State) (n : SlotId) : Grown 0 s (s.faultSlot n) := by
  unfold State.faultSlot
  dsimp only
  split
  · exact .of_core rfl
  · exact Grown.trans (t := (s.setSlot n _).rewritten _) (.of_core rfl)
      ((Grown.raise _ _).trans ((Grown.queueSlotState _ _ _).trans (.faultLanesOf _ _)))

theorem Grown.faultSettings (s : State) : Grown 0 s s.faultSettings :=
  Grown.trans (t := { s with settings := factorySettings }.rewritten settingsPosition) (.of_core rfl) (.raise _ _)

theorem Grown.ownerActs (s : State) (p : Position) : Grown 0 s (s.ownerActs p) := by
  unfold State.ownerActs
  split
  · exact .faultSlot s _
  · split
    · exact Grown.trans (t := s.rewritten p) (.of_core rfl) (.faultRecord _ _)
    · exact .faultSettings s

theorem Grown.uncorrectableFinding (s : State) (p : Position) (a : Agent) : Grown 0 s (s.uncorrectableFinding p a) :=
  Grown.trans (t := s.modFault p _) (.of_core rfl) ((Grown.offerCapture _ _ _ _ _).trans (.ownerActs _ _))

theorem Grown.checkRecord (s : State) (p : Position) (a : Agent) : Grown 0 s (s.checkRecord p a).1 := by
  unfold State.checkRecord
  split
  · exact .refl s
  · split
    · exact .hardFinding s _ _ _
    · exact Grown.trans (t := s.rewritten p) (.of_core rfl) (.softFinding _ _ _ _)
  · exact .uncorrectableFinding s _ _
  · exact .uncorrectableFinding s _ _

theorem Grown.loadKey (s : State) (k : LoadedKey) : Grown 0 s (s.loadKey k).1 := by
  have h := Grown.checkRecord s (slotPosition k.slot) .engine
  unfold State.loadKey
  split <;> simp_all

theorem Grown.loadIfUsable (s : State) (k : Option LoadedKey) : Grown 0 s (s.loadIfUsable k).1 := by
  cases k with
  | none => exact .refl s
  | some k => exact .loadKey s k

theorem Grown.scrubWalk (s : State) : Grown 0 s s.scrubWalk :=
  Grown.trans (t := (s.checkRecord (s.walkFrom 145 s.scrub.walk) .scrubber).1) (.checkRecord s _ _) (.of_core rfl)

/-! ## The monitor -/

theorem Grown.setMonitor (s : State) (m : Monitor) : Grown 0 s (s.setMonitor m) := .of_core rfl

theorem Grown.restartProbeTimer (s : State) : Grown 0 s s.restartProbeTimer := by
  unfold State.restartProbeTimer
  split
  · exact .setMonitor s _
  · exact .refl s

theorem Grown.passDown (s : State) (n : Nat) (c : DownCause) : Grown 0 s (s.passDown n c) := by
  unfold State.passDown
  dsimp only
  split
  · exact (Grown.setMonitor s _).trans ((Grown.broadcastTills _ _).thenRaise _)
  · exact (Grown.setMonitor s _).thenRaise _
  · exact .setMonitor s _

theorem Grown.missProbe (s : State) : Grown 0 s s.missProbe := by
  unfold State.missProbe
  dsimp only
  split
  · split
    · exact .passDown s _ _
    · exact .setMonitor s _
  · split
    · exact .passDown s _ _
    · exact .setMonitor s _
  · exact .setMonitor s _

theorem Grown.validEnvelope (s : State) (k : EnvelopeKind) : Grown 0 s (s.validEnvelope k) := by
  unfold State.validEnvelope
  refine Grown.trans (t := s.setMonitor { s.monitor with state := .up, missed := 0 }) (.setMonitor s _)
    (Grown.trans ?_ (.restartProbeTimer _))
  split
  · exact (Grown.broadcastTills _ _).thenRaise _
  · exact .refl _
  · exact .refl _

theorem Grown.carrierGone (s : State) : Grown 0 s s.carrierGone :=
  (Grown.passDown s _ _).trans (.setMonitor _ _)

theorem Grown.takeEcho (s : State) (e : Envelope) : Grown 0 s (s.takeEcho e) := by
  unfold State.takeEcho
  split
  · exact (Grown.setMonitor s _).trans (.validEnvelope _ _)
  · exact .of_core rfl

/-- An envelope that is placed lengthens the Send Queue by one at most. -/
theorem Grown.placeEnvelope (s : State) (e : Envelope) : Grown 1 s (s.placeEnvelope e) := by
  unfold State.placeEnvelope
  split
  · exact (Grown.countPort s _ _).mono (by omega)
  · have joined : Grown 1 s { s with sendQueue := s.sendQueue ++ [e] } :=
      ⟨rfl, le_rfl, by simp, rfl, fun _ => rfl, id, id, id⟩
    exact joined.quiet (.takeNext _ .c)

/-! ## Exchanges and the log -/

theorem Grown.dropItem (s : State) (l : LaneId) (old : RecentPlace) : Grown 0 s (s.dropItem l old) := .of_core rfl

theorem Grown.moveItem (s : State) (l : LaneId) (old new : RecentPlace) : Grown 0 s (s.moveItem l old new) := .of_core rfl

theorem Grown.placeItem (s : State) (l : LaneId) (xchg : Nat) (new : RecentPlace) :
    Grown 0 s (s.placeItem l xchg new) := .of_core rfl

theorem Grown.joinRecent (s : State) (l : LaneId) (i : RecentItem) : Grown 0 s (s.joinRecent l i) := .of_core rfl

theorem Grown.closePayment (s : State) (l : LaneId) : Grown 0 s (s.closePayment l) := .of_core rfl

theorem Grown.setExchange (s : State) (i : EntryId) (e : Option Exchange) : Grown 0 s (s.setExchange i e) := .of_core rfl

theorem Grown.free (s : State) (i : EntryId) : Grown 0 s (s.free i) := .of_core rfl

theorem Grown.allocate (s : State) (i : EntryId) (e : Exchange) : Grown 0 s (s.allocate i e) := .of_core rfl

theorem Grown.joinLog (s : State) (p : PlaceId) (e : LogEntry) : Grown 0 s (s.joinLog p e) := .of_core rfl

theorem Grown.unlog (s : State) (serial : Nat) : Grown 0 s (s.unlog serial) := .of_core rfl

theorem Grown.relog (s : State) (e : LogEntry) : Grown 0 s (s.relog e) := .of_core rfl

theorem Grown.assignSeq (s : State) : Grown 0 s s.assignSeq.2 := .of_core rfl

theorem Grown.countUnmatched (s : State) : Grown 0 s s.countUnmatched := .of_core rfl

theorem Grown.countLate (s : State) : Grown 0 s s.countLate := .of_core rfl

theorem Grown.reversalDue (s : State) (i : EntryId) (e : Exchange) (c : ReversalCause) : Grown 0 s (s.reversalDue i e c) :=
  .of_core rfl

theorem Grown.paymentTimesOut (s : State) (i : EntryId) (e : Exchange) : Grown 0 s (s.paymentTimesOut i e) :=
  (Grown.reversalDue s i e _).trans
    ((Grown.sendEarlier _ _ _ _ _).trans ((Grown.countTimeout _ _).trans (.raise _ _)))

theorem Grown.abandonReversal (s : State) (i : EntryId) (e : Exchange) : Grown 0 s (s.abandonReversal i e) :=
  Grown.trans (t := (s.free i).dropItem e.lane (.exchange i)) (.of_core rfl) (.raise _ _)

theorem Grown.reserveTest (s : State) (k : LogKind) : Grown 0 s (s.reserveTest k) := by
  unfold State.reserveTest
  split
  · exact .raise s _
  · exact .refl s

theorem Grown.reserve (s : State) (p : PlaceId) (e : LogEntry) : Grown 0 s (s.reserve p e) :=
  (Grown.reserveTest s _).trans (.of_core rfl)

theorem Grown.refuseAppend (s : State) (e : LogEntry) (src : Option Mac) (till : Nat) :
    Grown 0 s (s.refuseAppend e src till) := (Grown.handTill s _ _ _ _ _).trans (.countRefusal _ _ _)

theorem Grown.dropAppended (s : State) (e : LogEntry) : Grown 0 s (s.dropAppended e) := by
  unfold State.dropAppended
  split <;> exact .of_core rfl

theorem Grown.appendFailed (s : State) (e : LogEntry) (src : Option Mac) (till : Nat) (cancels : List CancelReply) :
    Grown 0 s (s.appendFailed e src till cancels) := by
  unfold State.appendFailed
  refine (Grown.dropAppended s e).trans ((Grown.writeFailed _ .append (.logPlace e.place)).trans ?_)
  split
  · exact (Grown.refuseAppend _ _ _ _).trans (.foldl _ (fun t c => .cancelReply t (some c)) _ _)
  · exact .raise _ _

theorem Grown.queueAppend (s : State) (serial : Nat) (src : Option Mac) (till : Nat) :
    Grown 0 s (s.queueAppend serial src till) := by
  unfold State.queueAppend
  split
  · exact .enqueue s _ _ (fun ws => by simp) (.appendFailed s _ _ _ _)
  · exact .refl s

theorem Grown.appendDone (s : State) (e : LogEntry) : Grown 0 s (s.appendDone e) := by
  have done : ∀ t, Grown 0 s t → Grown 0 s (match e.kind with
      | .payment => (t.sendEarlier e.lane e.xchg .deferred (t.handKey e.lane)).countDeferred e.lane
      | .reversal => t) := by
    intro t h
    split
    · exact h.trans ((Grown.sendEarlier _ _ _ _ _).trans (.countDeferred _ _))
    · exact h
  refine done _ ?_
  split
  · exact .relog s _
  · exact .refl s

theorem Grown.removeEntry (s : State) (e : LogEntry) (c : Option CancelReply) : Grown 0 s (s.removeEntry e c) :=
  Grown.trans (t := s.unlog e.serial) (.of_core rfl) (.queueRemoval _ _ _)

theorem Grown.logSendTimesOut (s : State) (i : EntryId) (x : Exchange) : Grown 0 s (s.logSendTimesOut i x) := by
  unfold State.logSendTimesOut
  refine Grown.trans (t := s.free i) (.of_core rfl) ?_
  split
  · exact .refl _
  · dsimp only
    split
    · exact (Grown.removeEntry _ _ _).trans ((Grown.dropItem _ _ _).thenRaise _)
    · exact Grown.trans (t := (s.free i).relog _) (.of_core rfl) (.queueUpdate _ _)

theorem Grown.drain (s : State) (e : LogEntry) (i : EntryId) : Grown 1 s (s.drain e i) := by
  unfold State.drain
  dsimp only
  have queued : ∀ x, Grown 0 s (((s.allocate i (s.logSendEntry e)).relog x).queueUpdate x) := fun x =>
    Grown.trans (t := (s.allocate i (s.logSendEntry e)).relog x) (.of_core rfl) (.queueUpdate _ _)
  refine Grown.trans ?_ (.placeEnvelope _ _)
  split
  · exact (queued _).trans (.modLane _ _ _)
  · exact queued _

/-! ## Lane jobs -/

theorem Grown.wrapFor (s : State) (l : LaneId) (base : LoadedKey) (kind : EnvelopeKind) (origin : Origin)
    (orig : Option ChainSeq) (clear : Bytes) : Grown 0 s (s.wrapFor l base kind origin orig clear).2 :=
  (Grown.takeCounter s l).trans (.assignSeq _)

theorem Grown.tagFailed (s : State) (l : LaneId) (f : LaneFrame) (link : LoadedKey) : Grown 0 s (s.tagFailed l f link) := by
  unfold State.tagFailed
  dsimp only
  have counted := fun n : Nat => (Grown.refuseInJob s l f link .tag).trans
    (Grown.modLane _ l (fun r => { r with tagFailures := n }))
  split
  · refine (counted (satInc Config.tagFailureLimit (s.lane l).tagFailures)).trans ?_
    unfold State.suspendForTags
    split
    case h_4 => exact .refl _
    all_goals exact .changeState _ _ _ _
  · exact counted _

theorem Grown.payLive (s : State) (l : LaneId) (f : LaneFrame) (base : LoadedKey) (c : CardClass) (clear : Bytes)
    (i : EntryId) : Grown 1 s (s.payLive l f base c clear i) := by
  unfold State.payLive
  dsimp only
  exact (Grown.wrapFor _ _ _ _ _ _ _).trans (((((Grown.placeEnvelope _ _).quiet (.allocate _ _ _)).quiet
    (.modLane _ _ _)).quiet (.joinRecent _ _ _)).quiet (.countLive _ _))

theorem Grown.payToLog (s : State) (l : LaneId) (f : LaneFrame) (base : LoadedKey) (c : CardClass) (amount : Nat)
    (clear : Bytes) (p : PlaceId) : Grown 0 s (s.payToLog l f base c amount clear p) := by
  unfold State.payToLog
  dsimp only
  exact (Grown.reserveTest _ _).trans ((Grown.wrapFor _ _ _ _ _ _ _).trans ((Grown.joinLog _ _ _).trans
    ((Grown.joinRecent _ _ _).trans (.queueAppend _ _ _ _))))

theorem Grown.payWork (s : State) (l : LaneId) (f : LaneFrame) (link base : LoadedKey) :
    Grown 1 s (s.payWork l f link base) := by
  have refused : ∀ r, Grown 1 s (s.refuseInJob l f link r) := fun r => (Grown.refuseInJob s l f link r).mono (by omega)
  unfold State.payWork
  dsimp only
  split
  · exact refused _
  · unfold State.routePay
    split
    · exact refused _
    · split
      · exact refused _
      · split
        · exact .payLive s _ _ _ _ _ _
        · exact refused _
      · split
        · exact (Grown.payToLog s _ _ _ _ _ _ _).mono (by omega)
        · exact refused _

theorem Grown.testWork (s : State) (l : LaneId) (f : LaneFrame) (link : LoadedKey) : Grown 0 s (s.testWork l f link) := by
  unfold State.testWork
  dsimp only
  split
  · exact .refuseInJob s _ _ _ _
  · exact .replyInHand s _ _ _ _

theorem Grown.reverseLive (s : State) (l : LaneId) (base : LoadedKey) (target : Nat) (orig : ChainSeq) (i : EntryId) :
    Grown 1 s (s.reverseLive l base target orig i) := by
  unfold State.reverseLive
  dsimp only
  exact (Grown.wrapFor _ _ _ _ _ _ _).trans ((((Grown.placeEnvelope _ _).quiet (.allocate _ _ _)).quiet
    (.placeItem _ _ _ _)).quiet (.countReversal _ _))

theorem Grown.appendReversal (s : State) (l : LaneId) (base : LoadedKey) (origin : Origin) (target : Nat)
    (orig : ChainSeq) (cause : ReversalCause) (repeats : Nat) (p : PlaceId) (move : State → State)
    (hm : ∀ t, Grown 0 t (move t)) : Grown 0 s (s.appendReversal l base origin target orig cause repeats p move) := by
  unfold State.appendReversal
  dsimp only
  exact (Grown.wrapFor _ _ _ _ _ _ _).trans ((Grown.reserve _ _ _).trans ((hm _).trans (.queueAppend _ _ _ _)))

theorem Grown.reverseToLog (s : State) (l : LaneId) (f : LaneFrame) (link base : LoadedKey) (target : Nat)
    (orig : ChainSeq) : Grown 0 s (s.reverseToLog l f link base target orig) := by
  unfold State.reverseToLog
  split
  · exact (Grown.appendReversal s _ _ _ _ _ _ _ _ _ (fun t => .placeItem t _ _ _)).trans (.replyInHand _ _ _ _ _)
  · exact .refuseInJob s _ _ _ _

theorem Grown.newReversal (s : State) (l : LaneId) (f : LaneFrame) (link base : LoadedKey) (target : Nat)
    (orig : ChainSeq) (behind : Bool) : Grown 1 s (s.newReversal l f link base target orig behind) := by
  have logged : Grown 1 s (s.reverseToLog l f link base target orig) :=
    (Grown.reverseToLog s l f link base target orig).mono (by omega)
  unfold State.newReversal
  split
  · exact (Grown.refuseInJob s _ _ _ _).mono (by omega)
  · split
    · exact logged
    · split
      · split
        · exact Grown.quiet (.reverseLive s _ _ _ _ _) (.replyInHand _ _ _ _ _)
        · exact logged
      · exact logged

theorem Grown.cancelInPlace (s : State) (l : LaneId) (f : LaneFrame) (target : Nat) (e : LogEntry) :
    Grown 0 s (s.cancelInPlace l f target e) :=
  Grown.trans (t := (s.unlog e.serial).placeItem l target .reversed) (.of_core rfl) (.queueRemoval _ _ _)

theorem Grown.reverseEntry (s : State) (l : LaneId) (f : LaneFrame) (link : LoadedKey) (i : EntryId) :
    Grown 0 s (s.reverseEntry l f link i) := by
  unfold State.reverseEntry
  split
  · split
    · exact .replyInHand s _ _ _ _
    · exact .replyInHand s _ _ _ _
    · exact (Grown.reversalDue s _ _ _).trans (.replyInHand _ _ _ _ _)
    · exact .refuseInJob s _ _ _ _
  · exact .refuseInJob s _ _ _ _

theorem Grown.reverseLogged (s : State) (l : LaneId) (f : LaneFrame) (link base : LoadedKey) (target : Nat)
    (p : PlaceId) : Grown 1 s (s.reverseLogged l f link base target p) := by
  unfold State.reverseLogged
  split
  · split
    · exact (Grown.replyInHand s _ _ _ _).mono (by omega)
    · exact (Grown.cancelInPlace s _ _ _ _).mono (by omega)
    · exact .newReversal s _ _ _ _ _ _ _
  · exact (Grown.refuseInJob s _ _ _ _).mono (by omega)

theorem Grown.reverseWork (s : State) (l : LaneId) (f : LaneFrame) (link base : LoadedKey) :
    Grown 1 s (s.reverseWork l f link base) := by
  unfold State.reverseWork
  dsimp only
  split
  · exact (Grown.refuseInJob s _ _ _ _).mono (by omega)
  · split
    · exact (Grown.replyInHand s _ _ _ _).mono (by omega)
    · exact (Grown.reverseEntry s _ _ _ _).mono (by omega)
    · exact .newReversal s _ _ _ _ _ _ _
    · exact .reverseLogged s _ _ _ _ _ _

theorem Grown.stateWork (s : State) (l : LaneId) (f : LaneFrame) (link : LoadedKey) : Grown 0 s (s.stateWork l f link) :=
  .replyInHand s _ _ _ _

/-! ## Answer, reversal and repeat jobs -/

theorem Grown.settleLogged (s : State) (e : Exchange) (settle : LogEntry → State → State)
    (h : ∀ x t, Grown 0 t (settle x t)) : Grown 0 s (s.settleLogged e settle) := by
  unfold State.settleLogged
  split
  · exact (Grown.removeEntry s _ _).trans (h _ _)
  · exact .refl s

theorem Grown.reportDeclined (s : State) (x : LogEntry) (o : AnswerOutcome) : Grown 0 s (s.reportDeclined x o) := by
  unfold State.reportDeclined
  split
  · exact .raise s _
  · exact .refl s

theorem Grown.settleAnswer (s : State) (i : EntryId) (e : Exchange) (link : Option LoadedKey) (clear : Bytes)
    (o : AnswerOutcome) : Grown 0 s (s.settleAnswer i e link clear o) := by
  unfold State.settleAnswer
  split
  · exact Grown.trans (t := s.free i) (.of_core rfl)
      (.settleLogged _ _ _ (fun x t => Grown.trans (t := t.moveItem _ _ _) (.of_core rfl) (.reportDeclined _ _ _)))
  · exact (Grown.sendEarlier s _ _ _ _).trans ((Grown.countAnswer _ _).trans ((Grown.free _ _).trans
      ((Grown.closePayment _ _).trans (.moveItem _ _ _ _))))

theorem Grown.settleAck (s : State) (i : EntryId) (e : Exchange) : Grown 0 s (s.settleAck i e) := by
  unfold State.settleAck
  split
  · exact Grown.trans (t := s.free i) (.of_core rfl) (.settleLogged _ _ _ (fun x t => .of_core rfl))
  · exact .of_core rfl

theorem Grown.settleUnverified (s : State) (i : EntryId) (e : Exchange) : Grown 0 s (s.settleUnverified i e) := by
  unfold State.settleUnverified
  refine Grown.trans (t := s.countUnmatched) (.of_core rfl) ?_
  dsimp only
  split
  · exact Grown.trans (t := s.countUnmatched.free i) (.of_core rfl)
      (.settleLogged _ _ _ (fun x t => .of_core rfl))
  · exact Grown.trans (t := ((s.countUnmatched.free i).closePayment e.lane).dropItem e.lane (.exchange i))
      (.of_core rfl) ((Grown.sendEarlier _ _ _ _ _).trans ((Grown.countTimeout _ _).trans (.raise _ _)))
  · exact .abandonReversal _ _ _

theorem Grown.verified (s : State) (env : Envelope) (i : EntryId) (e : Exchange) (key : Key)
    (link : Option LoadedKey) : Grown 0 s (s.verified env i e key link) := by
  unfold State.verified
  dsimp only
  refine Grown.trans ?_ (.validEnvelope _ _)
  split
  · split
    · exact .settleAnswer s _ _ _ _ _
    · exact .of_core rfl
  · exact .settleAck s _ _

theorem Grown.checkAnswer (s : State) (env : Envelope) (i : EntryId) (e : Exchange) (base : LoadedKey)
    (link : Option LoadedKey) : Grown 0 s (s.checkAnswer env i e base link) := by
  unfold State.checkAnswer
  dsimp only
  split
  · exact .of_core rfl
  · split
    · exact .of_core rfl
    · split
      · exact .of_core rfl
      · exact .verified s _ _ _ _ _

theorem Grown.answerWork (s : State) (env : Envelope) (found : Option (EntryId × Nat)) (base link : Option LoadedKey) :
    Grown 0 s (s.answerWork env found base link) := by
  unfold State.answerWork
  split
  · exact .of_core rfl
  · split
    · exact .of_core rfl
    · split
      · exact .of_core rfl
      · split
        · exact .settleUnverified s _ _
        · exact .checkAnswer s _ _ _ _ _

theorem Grown.reversalToLog (s : State) (i : EntryId) (e : Exchange) (base : LoadedKey) (origin : Origin)
    (repeats : Nat) : Grown 0 s (s.reversalToLog i e base origin repeats) := by
  unfold State.reversalToLog
  split
  · exact .appendReversal s _ _ _ _ _ _ _ _ _ (fun t => (Grown.free t _).trans (.moveItem _ _ _ _))
  · exact .abandonReversal s _ _

theorem Grown.reversalWork (s : State) (i : EntryId) (e : Exchange) (base : Option LoadedKey) :
    Grown 1 s (s.reversalWork i e base) := by
  have abandoned : Grown 1 s (s.abandonReversal i e) := (Grown.abandonReversal s i e).mono (by omega)
  unfold State.reversalWork
  split
  · exact abandoned
  · split
    · exact abandoned
    · split
      · unfold State.reversalLive
        dsimp only
        exact (Grown.wrapFor _ _ _ _ _ _ _).trans (((Grown.placeEnvelope _ _).quiet (.setExchange _ _ _)).quiet
          (.countReversal _ _))
      · exact (Grown.reversalToLog s _ _ _ _ _).mono (by omega)

theorem Grown.repeatWork (s : State) (i : EntryId) (e : Exchange) (base : Option LoadedKey) :
    Grown 0 s (s.repeatWork i e base) := by
  unfold State.repeatWork
  split
  · exact .abandonReversal s _ _
  · split
    · exact .abandonReversal s _ _
    · exact .reversalToLog s _ _ _ _ _

end Sys2Proof.Machine
end

section
/-! SUPPORT. What each operation makes of one lane's record: a state entry empties the mailbox of a frame the state does not
take (R24), and nothing but a commit or a restored copy changes which slots a lane names. -/

namespace Sys2Proof.Machine

open Sys2Proof.Safety

/-! ## Operations that leave the lanes alone -/

theorem State.lane_of_lanes_eq {s t : State} (h : t.lanes = s.lanes) (k : LaneId) : t.lane k = s.lane k := by
  simp only [State.lane, h]

@[simp] theorem State.raise_lane (s : State) (d : EventDetails) (k : LaneId) : (s.raise d).lane k = s.lane k :=
  State.lane_of_lanes_eq (State.raise_lanes _ _) k

@[simp] theorem State.writeFailed_lane (s : State) (w : WriteKind) (x : FailSubject) (k : LaneId) :
    (s.writeFailed w x).lane k = s.lane k := s.raise_lane _ k

@[simp] theorem State.replyInHand_lane (s : State) (l : LaneId) (f : LaneFrame) (c : TillContent) (key : Option Key)
    (k : LaneId) : (s.replyInHand l f c key).lane k = s.lane k := s.handTill_lane _ _ _ _ _ k

@[simp] theorem State.sendEarlier_lane (s : State) (l : LaneId) (xchg : Nat) (c : TillContent) (key : Option Key)
    (k : LaneId) : (s.sendEarlier l xchg c key).lane k = s.lane k :=
  State.lane_of_lanes_eq (State.sendEarlier_lanes _ _ _ _ _) k

@[simp] theorem State.queueLaneState_lane (s : State) (l k : LaneId) : (s.queueLaneState l).lane k = s.lane k :=
  State.lane_of_lanes_eq (State.lanes_of_store (s.sansStore_queueLaneState l)) k

@[simp] theorem State.queueSlotState_lane (s : State) (n : SlotId) (r : SlotRecord) (k : LaneId) :
    (s.queueSlotState n r).lane k = s.lane k :=
  State.lane_of_lanes_eq (State.lanes_of_store (s.sansStore_queueSlotState n r)) k

@[simp] theorem State.queueUpdate_lane (s : State) (e : LogEntry) (k : LaneId) : (s.queueUpdate e).lane k = s.lane k :=
  State.lane_of_lanes_eq (State.lanes_of_store (s.sansStore_queueUpdate e)) k

@[simp] theorem State.queueRemoval_lane (s : State) (e : LogEntry) (c : Option CancelReply) (k : LaneId) :
    (s.queueRemoval e c).lane k = s.lane k :=
  State.lane_of_lanes_eq (State.lanes_of_store (s.sansStore_queueRemoval e c)) k

@[simp] theorem State.setWaiting_lane (s : State) (ws : List Write) (k : LaneId) : (s.setWaiting ws).lane k = s.lane k :=
  State.lane_of_lanes_eq (State.lanes_of_store (s.sansStore_setWaiting ws)) k

@[simp] theorem State.endWrite_lane (s : State) (w : Write) (r : WriteResult) (k : LaneId) :
    (s.endWrite w r).lane k = s.lane k :=
  State.lane_of_lanes_eq (State.lanes_of_store (s.sansStore_endWrite w r)) k

/-! ## A state entry (R24) -/

/-- The lane whose record an operation on `l` answers for `k`: `l`'s own, changed, and any other as it was. -/
theorem State.lane_modLane (s : State) (l k : LaneId) (f : LaneRecord → LaneRecord) :
    (s.modLane l f).lane k = if k = l then f (s.lane k) else s.lane k := by
  split
  · rename_i h
    subst h
    exact State.lane_modLane_same _ _ _
  · rename_i h
    exact State.lane_modLane_ne _ _ h

/-- A lane's record once it has entered a state (R24): a mailbox frame that the state does not take is gone and counted. -/
def LaneRecord.entered (r : LaneRecord) (st : LaneState) : LaneRecord :=
  match r.mailbox.bind (fun f => doorReason st f.kind) with
  | some reason => { r with
      config := { r.config with state := st }
      mailbox := none
      counters := r.counters.refuse reason }
  | none => { r with config := { r.config with state := st } }

@[simp] theorem LaneRecord.entered_config (r : LaneRecord) (st : LaneState) :
    (r.entered st).config = { r.config with state := st } := by
  unfold LaneRecord.entered
  split <;> rfl

@[simp] theorem LaneRecord.entered_counter (r : LaneRecord) (st : LaneState) : (r.entered st).counter = r.counter := by
  unfold LaneRecord.entered
  split <;> rfl

@[simp] theorem LaneRecord.entered_openPayment (r : LaneRecord) (st : LaneState) :
    (r.entered st).openPayment = r.openPayment := by
  unfold LaneRecord.entered
  split <;> rfl

@[simp] theorem LaneRecord.entered_recent (r : LaneRecord) (st : LaneState) : (r.entered st).recent = r.recent := by
  unfold LaneRecord.entered
  split <;> rfl

@[simp] theorem LaneRecord.entered_tagFailures (r : LaneRecord) (st : LaneState) :
    (r.entered st).tagFailures = r.tagFailures := by
  unfold LaneRecord.entered
  split <;> rfl

@[simp] theorem LaneRecord.entered_lastAccepted (r : LaneRecord) (st : LaneState) :
    (r.entered st).lastAccepted = r.lastAccepted := by
  unfold LaneRecord.entered
  split <;> rfl

@[simp] theorem LaneRecord.entered_advancePending (r : LaneRecord) (st : LaneState) :
    (r.entered st).advancePending = r.advancePending := by
  unfold LaneRecord.entered
  split <;> rfl

@[simp] theorem LaneRecord.entered_lostCommit (r : LaneRecord) (st : LaneState) :
    (r.entered st).lostCommit = r.lostCommit := by
  unfold LaneRecord.entered
  split <;> rfl

/-- A mailbox frame that the state takes, or none, stays: the state alone changes. -/
theorem LaneRecord.entered_of_taken (r : LaneRecord) (st : LaneState)
    (h : r.mailbox.bind (fun f => doorReason st f.kind) = none) :
    r.entered st = { r with config := { r.config with state := st } } := by
  unfold LaneRecord.entered
  rw [h]

theorem LaneRecord.entered_of_empty (r : LaneRecord) (st : LaneState) (h : r.mailbox = none) :
    r.entered st = { r with config := { r.config with state := st } } :=
  r.entered_of_taken st (by rw [h]; rfl)

theorem State.lane_refuseAtHand (s : State) (l k : LaneId) (f : LaneFrame) (reason : TillReason) :
    (s.refuseAtHand l f reason).lane k =
      if k = l then { s.lane k with counters := (s.lane k).counters.refuse reason } else s.lane k := by
  simp only [State.refuseAtHand, State.countRefusal, State.lane_modLane, State.replyInHand_lane]

theorem State.lane_refuseInJob (s : State) (l k : LaneId) (f : LaneFrame) (link : LoadedKey) (reason : TillReason) :
    (s.refuseInJob l f link reason).lane k =
      if k = l then { s.lane k with counters := (s.lane k).counters.refuse reason } else s.lane k := by
  simp only [State.refuseInJob, State.countRefusal, State.lane_modLane, State.replyInHand_lane]

theorem State.lane_clearMailbox (s : State) (l k : LaneId) :
    (s.clearMailbox l).lane k = if k = l then (s.lane k).entered (s.lane k).config.state else s.lane k := by
  unfold State.clearMailbox
  by_cases h : k = l
  · subst h
    rw [if_pos rfl]
    cases hm : (s.lane k).mailbox with
    | none => rw [LaneRecord.entered_of_empty _ _ hm]
    | some f =>
      cases hr : doorReason (s.lane k).config.state f.kind with
      | none => rw [LaneRecord.entered_of_taken _ _ (by rw [hm]; exact hr)]; simp [hr]
      | some reason => simp [LaneRecord.entered, hm, hr, State.lane_refuseAtHand]
  · rw [if_neg h]
    split
    · rfl
    · split
      · rw [State.lane_refuseAtHand, if_neg h, State.lane_modLane_ne _ _ h]
      · rfl

/-- What a change of state makes of the lanes (R15, R24). -/
theorem State.lane_changeState (s : State) (l k : LaneId) (st : LaneState) (event : Option EventDetails) :
    (s.changeState l st event).lane k = if k = l then (s.lane k).entered st else s.lane k := by
  have cleared : ∀ t : State, (∀ j, t.lane j = (s.modLane l (fun r => { r with
      config := { r.config with state := st } })).lane j) → (t.clearMailbox l).lane k =
        if k = l then (s.lane k).entered st else s.lane k := by
    intro t h
    rw [State.lane_clearMailbox, h, State.lane_modLane]
    split <;> rfl
  cases event with
  | none => simpa only [State.changeState, State.queueLaneState_lane] using cleared _ (fun _ => rfl)
  | some d => simpa only [State.changeState, State.queueLaneState_lane] using cleared _ (State.raise_lane _ d)

/-- Whether a fault finds the lane in a state that it does not leave (R34). -/
def staysAtFault : LaneState → Bool
  | .unused => true
  | .faulted _ => true
  | _ => false

theorem staysAtFault_eq_false_iff (st : LaneState) :
    staysAtFault st = false ↔ st ≠ .unused ∧ ∀ c, st ≠ .faulted c := by
  cases st <;> simp [staysAtFault]

theorem State.faultLane_of_stays (s : State) (l : LaneId) (c : FaultCause)
    (h : staysAtFault (s.lane l).config.state = true) : s.faultLane l c = s := by
  unfold State.faultLane
  split
  · rfl
  · rfl
  · cases hs : (s.lane l).config.state <;> simp_all [staysAtFault]

theorem State.faultLane_of_live (s : State) (l : LaneId) (c : FaultCause)
    (h : staysAtFault (s.lane l).config.state = false) :
    s.faultLane l c = s.changeState l (.faulted c) (some (.laneFaulted l c)) := by
  unfold State.faultLane
  split
  · simp_all [staysAtFault]
  · simp_all [staysAtFault]
  · rfl

/-- What a fault makes of the lanes (R34). -/
theorem State.lane_faultLane (s : State) (l k : LaneId) (c : FaultCause) :
    (s.faultLane l c).lane k =
      if k = l ∧ staysAtFault (s.lane k).config.state = false then (s.lane k).entered (.faulted c) else s.lane k := by
  cases h : staysAtFault (s.lane l).config.state with
  | true =>
    rw [s.faultLane_of_stays l c h, if_neg]
    rintro ⟨rfl, live⟩
    simp_all
  | false =>
    rw [s.faultLane_of_live l c h, State.lane_changeState]
    by_cases e : k = l
    · subst e; simp [h]
    · simp [e]

/-! ## The slots that lanes name -/

/-- Every lane names the slots it named, at the base generation it named. -/
def namesKept (s t : State) : Prop :=
  ∀ k, (t.lane k).config.link = (s.lane k).config.link ∧ (t.lane k).config.base = (s.lane k).config.base ∧
    (t.lane k).config.baseGen = (s.lane k).config.baseGen

theorem namesKept.of_lanes {s t : State} (h : t.lanes = s.lanes) : namesKept s t := by
  intro k
  rw [State.lane_of_lanes_eq h]
  exact ⟨rfl, rfl, rfl⟩

theorem namesKept.trans {s t u : State} (a : namesKept s t) (b : namesKept t u) : namesKept s u := by
  intro k
  obtain ⟨link, base, gen⟩ := a k
  obtain ⟨link', base', gen'⟩ := b k
  exact ⟨link'.trans link, base'.trans base, gen'.trans gen⟩

theorem namesKept_faultLane (s : State) (l : LaneId) (c : FaultCause) : namesKept s (s.faultLane l c) := by
  intro k
  rw [State.lane_faultLane]
  split <;> simp

theorem namesKept_faultLanesOf (s : State) (n : SlotId) : namesKept s (s.faultLanesOf n) := by
  have fold : ∀ (ls : List LaneId) (t : State), namesKept t (ls.foldl (fun t l => t.faultNaming n l) t) := by
    intro ls
    induction ls with
    | nil => exact fun t => .of_lanes rfl
    | cons l ls ih =>
      intro t
      refine namesKept.trans ?_ (ih _)
      unfold State.faultNaming
      dsimp only
      split
      · exact namesKept_faultLane t l _
      · split
        · exact namesKept_faultLane t l _
        · exact .of_lanes rfl
  exact fold _ s

theorem namesKept_faultSlot (s : State) (n : SlotId) : namesKept s (s.faultSlot n) := by
  unfold State.faultSlot
  dsimp only
  split
  · exact .of_lanes rfl
  · refine namesKept.trans (.of_lanes ?_) (namesKept_faultLanesOf _ n)
    rw [State.lanes_of_store (State.sansStore_queueSlotState _ _ _), State.raise_lanes]
    rfl

@[simp] theorem State.offerCapture_lanes (s : State) (p : Position) (k : FindingKind) (y : Option Syndrome) (a : Agent) :
    (s.offerCapture p k y a).lanes = s.lanes := by
  unfold State.offerCapture
  split <;> rfl

@[simp] theorem State.softFinding_lanes (s : State) (p : Position) (y : Syndrome) (a : Agent) :
    (s.softFinding p y a).lanes = s.lanes := by
  rw [State.softFinding, State.offerCapture_lanes, State.raise_lanes]
  rfl

@[simp] theorem State.hardFinding_lanes (s : State) (p : Position) (y : Syndrome) (a : Agent) :
    (s.hardFinding p y a).lanes = s.lanes := by
  rw [State.hardFinding, State.offerCapture_lanes, State.reportHard]
  split
  · rfl
  · exact State.raise_lanes _ _

/-- A position of a slot belongs to that slot (9.1). -/
theorem State.ownerActs_slot (s : State) (n : SlotId) : s.ownerActs (slotPosition n) = s.faultSlot n := by
  have h : (slotPosition n).val < 96 := n.isLt
  rw [State.ownerActs, dif_pos h]
  rfl

/-- The check of a slot changes no lane's slots. -/
theorem namesKept_checkSlot (s : State) (n : SlotId) (a : Agent) :
    namesKept s (s.checkRecord (slotPosition n) a).1 := by
  have faulted : namesKept s (s.uncorrectableFinding (slotPosition n) a) := by
    rw [State.uncorrectableFinding, State.ownerActs_slot]
    refine namesKept.trans (.of_lanes ?_) (namesKept_faultSlot _ n)
    exact State.offerCapture_lanes _ _ _ _ _
  unfold State.checkRecord
  split
  · exact .of_lanes rfl
  · split
    · exact .of_lanes (State.hardFinding_lanes _ _ _ _)
    · exact .of_lanes (State.softFinding_lanes _ _ _ _)
  · exact faulted
  · exact faulted

theorem namesKept_loadKey (s : State) (k : LoadedKey) : namesKept s (s.loadKey k).1 := by
  have h := namesKept_checkSlot s k.slot .engine
  unfold State.loadKey
  split <;> simp_all

theorem namesKept_loadIfUsable (s : State) (k : Option LoadedKey) : namesKept s (s.loadIfUsable k).1 := by
  cases k with
  | none => exact .of_lanes rfl
  | some k => exact namesKept_loadKey s k

end Sys2Proof.Machine
end

section
/-! SUPPORT. What every command keeps (R4, R59, R107, R111, R150, R179): the queue of commands, every queue within its capacity,
the holds apart from each other and from the job in flight, and the stored log in its one form. -/

namespace Sys2Proof.Machine

open Sys2Proof.Safety

/-- What every operation of a command keeps. -/
structure Kept (s t : State) : Prop where
  pending : t.pending = s.pending
  fits : queuesFit s → queuesFit t
  exclude : holdsExclude s → holdsExclude t
  form : storeForm s → storeForm t

theorem Kept.trans {s t u : State} (a : Kept s t) (b : Kept t u) : Kept s u where
  pending := b.pending.trans a.pending
  fits := b.fits ∘ a.fits
  exclude := b.exclude ∘ a.exclude
  form := b.form ∘ a.form

/-! ## Ranges and jobs -/

/-- The range of a hold, where it is GRANTED. -/
def Hold.range : Hold → Option HoldRequest
  | .granted r _ => some r
  | .pending _ => Option.none
  | .none => Option.none

theorem grantedRange_eq (s : State) (p : Port) : grantedRange s p = (s.ctl p).hold.range := by
  unfold grantedRange
  cases (s.ctl p).hold <;> rfl

theorem grantedRange_congr {s t : State} {p : Port} (h : (t.ctl p).hold = (s.ctl p).hold) :
    grantedRange t p = grantedRange s p := by
  rw [grantedRange_eq, grantedRange_eq, h]

theorem State.jobUses_congr {s t : State} (h : t.engine.job = s.engine.job) (r : HoldRequest) : t.jobUses r = s.jobUses r := by
  unfold State.jobUses
  rw [h]

theorem State.jobUses_of_idle {s : State} (h : s.engine.job = none) (r : HoldRequest) : s.jobUses r = false := by
  unfold State.jobUses
  rw [h]

theorem State.reserved_congr {s t : State} (h : t.engine.job = s.engine.job) : t.reserved = s.reserved := by
  unfold State.reserved
  rw [h]

theorem State.reserved_of_idle {s : State} (h : s.engine.job = none) : s.reserved = 0 := by
  unfold State.reserved
  rw [h]

theorem State.sendPlaceFree_iff (s : State) :
    s.sendPlaceFree = true ↔ s.sendQueue.length + s.reserved < Config.sendCapacity := by
  simp [State.sendPlaceFree]

theorem HoldRequest.overlaps_comm (a b : HoldRequest) : a.overlaps b = b.overlaps a := by
  simp only [HoldRequest.overlaps, Bool.and_comm]

/-- A slot lies in a GRANTED hold exactly where it lies in its range. -/
theorem Hold.covers_iff (h : Hold) (n : Nat) : h.covers n = true ↔ ∃ r, h.range = some r ∧ r.low ≤ n ∧ n ≤ r.high := by
  cases h <;> simp [Hold.covers, Hold.range]

theorem State.held_iff (s : State) (n : Nat) :
    s.held n = true ↔ ∃ p r, grantedRange s p = some r ∧ r.low ≤ n ∧ n ≤ r.high := by
  simp only [State.held, Bool.or_eq_true, Hold.covers_iff, grantedRange_eq]
  constructor
  · rintro (h | h)
    · exact ⟨.s, h⟩
    · exact ⟨.c, h⟩
  · rintro ⟨p, h⟩
    cases p
    · exact .inl h
    · exact .inr h

theorem State.held_congr {s t : State} (h : ∀ p, (t.ctl p).hold = (s.ctl p).hold) (n : Nat) : t.held n = s.held n := by
  unfold State.held
  rw [h, h]

theorem State.heldOpt_congr {s t : State} (h : ∀ p, (t.ctl p).hold = (s.ctl p).hold) (n : Option SlotId) :
    t.heldOpt n = s.heldOpt n := by
  cases n with
  | none => rfl
  | some n => exact State.held_congr h _

/-- The holds stay apart where every one that is GRANTED was, and the engine holds the job it held, or none. -/
theorem holdsExclude_of_fewer {s t : State} (h : ∀ p, grantedRange t p = grantedRange s p ∨ grantedRange t p = none)
    (job : t.engine.job = s.engine.job ∨ t.engine.job = none) (x : holdsExclude s) : holdsExclude t := by
  have was : ∀ p r, grantedRange t p = some r → grantedRange s p = some r := by
    intro p r hr
    rcases h p with e | e
    · rw [← e]; exact hr
    · rw [e] at hr; exact absurd hr (by simp)
  obtain ⟨apart, off⟩ := x
  refine ⟨fun a b ha hb => apart a b (was _ _ ha) (was _ _ hb), fun p r hr => ?_⟩
  rcases job with e | e
  · rw [State.jobUses_congr e]; exact off p r (was p r hr)
  · exact State.jobUses_of_idle e r

/-! ## Keeping by growth -/

/-- Growth keeps everything where what it adds to the Send Queue has a place. -/
theorem Kept.of_grown {k : Nat} {s t : State} (g : Grown k s t)
    (place : sendQueueFits s → s.sendQueue.length + k + s.reserved ≤ Config.sendCapacity) : Kept s t where
  pending := g.pending
  fits := by
    rintro ⟨answers, orders, send, persist⟩
    refine ⟨g.answers.trans answers, g.orders orders, ?_, g.persist persist⟩
    have := place send
    have := g.send
    unfold sendQueueFits
    rw [State.reserved_congr g.job]
    omega
  exclude := holdsExclude_of_fewer (fun p => .inl (grantedRange_congr (g.hold p))) (.inl g.job)
  form := g.form

theorem Kept.quiet {s t : State} (g : Grown 0 s t) : Kept s t := .of_grown g (fun h => h)

theorem Kept.refl (s : State) : Kept s s := .quiet (.refl s)

/-- One envelope is placed where a place is free (R59, R107). -/
theorem Kept.place {s t : State} (g : Grown 1 s t) (free : s.sendPlaceFree = true) : Kept s t :=
  .of_grown g (fun _ => by rw [State.sendPlaceFree_iff] at free; omega)

/-- A port's control state is written. -/
theorem Kept.setCtl_of_exclude (s : State) (p : Port) (x : ControlState)
    (exclude : holdsExclude s → holdsExclude (s.setCtl p x)) : Kept s (s.setCtl p x) where
  pending := rfl
  fits := id
  exclude := exclude
  form := id

/-- A port's control state is written, its hold not GRANTED where it was not. -/
theorem Kept.setCtl (s : State) (p : Port) (x : ControlState) (h : x.hold = (s.ctl p).hold ∨ x.hold.range = none) :
    Kept s (s.setCtl p x) := by
  refine .setCtl_of_exclude s p x (holdsExclude_of_fewer (fun q => ?_) (.inl rfl))
  rcases Port.eq_or_opposite p q with rfl | rfl
  · simp only [grantedRange_eq, State.ctl_setCtl_same]
    exact h.imp (congrArg Hold.range) id
  · left
    rw [grantedRange_eq, grantedRange_eq, State.ctl_setCtl_opposite]

/-- A PENDING hold becomes GRANTED where its grant test passes (R149, R150). -/
theorem Kept.grant (s : State) (p : Port) (r : HoldRequest) (limit : Nat) (unused : s.jobUses r = false)
    (apart : (s.ctl p.opposite).hold.blocks r = false) :
    Kept s (s.setCtl p { s.ctl p with hold := .granted r limit }) := by
  refine .setCtl_of_exclude s p _ (fun ⟨others, off⟩ => ?_)
  have here : grantedRange (s.setCtl p { s.ctl p with hold := .granted r limit }) p = some r := by
    rw [grantedRange_eq, State.ctl_setCtl_same]; rfl
  have there : grantedRange (s.setCtl p { s.ctl p with hold := .granted r limit }) p.opposite = grantedRange s p.opposite := by
    rw [grantedRange_eq, grantedRange_eq, State.ctl_setCtl_opposite]
  have clear : ∀ q, grantedRange s p.opposite = some q → q.overlaps r = false := by
    intro q hq
    rw [grantedRange_eq] at hq
    cases hold : (s.ctl p.opposite).hold with
    | granted q' _ => rw [hold] at hq apart; cases hq; exact apart
    | pending _ => rw [hold] at hq; exact absurd hq (by simp [Hold.range])
    | none => rw [hold] at hq; exact absurd hq (by simp [Hold.range])
  refine ⟨fun a b ha hb => ?_, fun q x hx => ?_⟩
  · cases p with
    | s =>
      rw [here] at ha
      cases ha
      rw [HoldRequest.overlaps_comm]
      exact clear b (there ▸ hb)
    | c =>
      rw [here] at hb
      cases hb
      exact clear a (there ▸ ha)
  · change s.jobUses x = false
    rcases Port.eq_or_opposite p q with rfl | rfl
    · rw [here] at hx; cases hx; exact unused
    · rw [there] at hx; exact off _ x hx

theorem Kept.grantHold (s : State) (p : Port) : Kept s (s.grantHold p) := by
  unfold State.grantHold
  split
  · split
    next r _ test =>
      exact (Kept.grant s p r _ test.1 test.2).trans (.quiet (.reply _ _ _ _ _ _ _ _ _))
    · exact .refl s
  · exact .refl s
  · exact .refl s

theorem Kept.grantHolds (s : State) : Kept s s.grantHolds := (Kept.grantHold s .s).trans (.grantHold _ .c)

/-! ## Jobs -/

/-- A job completes, having placed no more envelopes than it had places reserved for (R57, R59). -/
theorem Kept.finishJob {k : Nat} {s t : State} (g : Grown k s t) (le : k ≤ s.reserved) : Kept s t.finishJob := by
  refine Kept.trans (t := { t with engine := { t.engine with job := none } }) ⟨g.pending, ?_, ?_, g.form⟩ (.grantHolds _)
  · rintro ⟨answers, orders, send, persist⟩
    refine ⟨g.answers.trans answers, g.orders orders, ?_, g.persist persist⟩
    have := g.send
    unfold sendQueueFits at send ⊢
    rw [State.reserved_of_idle rfl]
    dsimp only
    omega
  · exact holdsExclude_of_fewer (fun p => .inl (grantedRange_congr (g.hold p))) (.inr rfl)

theorem Job.reserves_le (s : State) (j : Job) (h : s.engine.job = some j) (r : j.reserves = true) : 1 ≤ s.reserved := by
  unfold State.reserved
  rw [h]
  simp [r]

/-- An idle engine takes a job whose keys lie in no GRANTED hold, with a free place where it reserves one (R59, R150). -/
theorem Kept.startJob {s t : State} {j : Job} (g : Grown 0 s t) (idle : s.engine.job = none)
    (place : j.reserves = true → s.sendPlaceFree = true) (free : ∀ n ∈ j.loaded, s.held n.val = false) :
    Kept s (t.startJob j) where
  pending := g.pending
  fits := by
    rintro ⟨answers, orders, send, persist⟩
    refine ⟨g.answers.trans answers, g.orders orders, ?_, g.persist persist⟩
    have grown : (t.startJob j).sendQueue.length ≤ s.sendQueue.length := g.send
    unfold sendQueueFits at send ⊢
    have none := State.reserved_of_idle idle
    cases reserves : j.reserves with
    | false =>
      have : (t.startJob j).reserved = 0 := by simp [State.reserved, State.startJob, reserves]
      omega
    | true =>
      have : (t.startJob j).reserved = 1 := by simp [State.reserved, State.startJob, reserves]
      have := (State.sendPlaceFree_iff s).mp (place reserves)
      omega
  exclude := by
    rintro ⟨apart, _⟩
    have same : ∀ p, grantedRange (t.startJob j) p = grantedRange s p := fun p => grantedRange_congr (g.hold p)
    refine ⟨fun a b ha hb => apart a b (same .s ▸ ha) (same .c ▸ hb), fun p r hr => ?_⟩
    rw [same p] at hr
    simp only [State.jobUses, State.startJob, List.any_eq_false]
    intro n hn within
    simp only [Bool.and_eq_true, decide_eq_true_eq] at within
    have : s.held n.val = true := (s.held_iff _).mpr ⟨p, r, hr, within⟩
    rw [free n hn] at this
    exact absurd this (by simp)
  form := g.form

end Sys2Proof.Machine
end

section
/-! SUPPORT. What every command keeps, command by command: grants, transmission, frames received, starts, commits and the
Persist Queue's reports. -/

namespace Sys2Proof.Machine

open Sys2Proof.Safety

/-! ## The arbiter's choice (R60 to R63) -/

/-- The first element that passes a test, with the list without it. -/
theorem takeFirst_append {α : Type} {p : α → Bool} {before : List α} {x : α} (behind : List α)
    (none : ∀ y ∈ before, p y = false) (passes : p x = true) :
    takeFirst p (before ++ x :: behind) = some (x, before ++ behind) := by
  induction before with
  | nil => simp [takeFirst, passes]
  | cons y before ih =>
    have hy : p y = false := none y (List.mem_cons_self ..)
    simp [takeFirst, hy, ih (fun z hz => none z (List.mem_cons_of_mem _ hz))]

theorem takeFirst_eq_none {α : Type} {p : α → Bool} {xs : List α} (h : ∀ x ∈ xs, p x = false) : takeFirst p xs = none := by
  induction xs with
  | nil => rfl
  | cons x xs ih =>
    simp [takeFirst, h x (List.mem_cons_self ..), ih (fun y hy => h y (List.mem_cons_of_mem _ hy))]

theorem takeFirst_eq_some {α : Type} {p : α → Bool} {xs : List α} {x : α} {rest : List α}
    (h : takeFirst p xs = some (x, rest)) : p x = true ∧ rest.length ≤ xs.length := by
  induction xs generalizing rest with
  | nil => exact absurd h (by simp [takeFirst])
  | cons y xs ih =>
    simp only [takeFirst] at h
    split at h
    next passes => cases h; exact ⟨passes, by simp⟩
    next =>
      obtain ⟨⟨z, r⟩, hr, same⟩ := Option.map_eq_some_iff.mp h
      cases same
      obtain ⟨passes, le⟩ := ih hr
      exact ⟨passes, by simpa using le⟩

/-- The reversal work that is eligible, in ascending order (R60, R62). -/
def State.reversalCandidates (s : State) : List (EntryId × Exchange) :=
  (List.finRange 160).filterMap (fun i => ((s.exchange i).filter s.reversalEligible).map (fun e => (i, e)))

theorem State.mem_reversalCandidates {s : State} {i : EntryId} {e : Exchange} :
    (i, e) ∈ s.reversalCandidates ↔ s.exchange i = some e ∧ s.reversalEligible e = true := by
  simp only [State.reversalCandidates, List.mem_filterMap, List.mem_finRange, true_and, Option.map_eq_some_iff,
    Option.filter_eq_some_iff, Prod.mk.injEq]
  constructor
  · rintro ⟨_, _, h, rfl, rfl⟩; exact h
  · exact fun h => ⟨i, e, h, rfl, rfl⟩

/-- The arbiter's reversal work is the first of the earliest deadline among the candidates (R60). -/
theorem State.nextReversal_eq (s : State) : s.nextReversal = s.reversalCandidates.foldl earlier none := by
  rw [State.nextReversal, State.reversalCandidates, List.foldl_filterMap]
  congr 1
  funext best i
  cases hi : s.exchange i with
  | none => rfl
  | some e => cases he : s.reversalEligible e <;> simp [he, Option.filter]

theorem foldl_earlier_mem (xs : List (EntryId × Exchange)) (best : Option (EntryId × Exchange))
    {x : EntryId × Exchange} (h : xs.foldl earlier best = some x) : best = some x ∨ x ∈ xs := by
  induction xs generalizing best with
  | nil => exact .inl h
  | cons y xs ih =>
    rcases ih _ h with hb | hx
    · have step : earlier best y = best ∨ earlier best y = some y := by
        unfold earlier
        split
        · split
          · exact .inr rfl
          · exact .inl rfl
        · exact .inr rfl
      rcases step with e | e
      · exact .inl (e ▸ hb)
      · rw [e] at hb; cases hb; exact .inr (List.mem_cons_self ..)
    · exact .inr (List.mem_cons_of_mem _ hx)

/-- The reversal work that the arbiter takes is eligible, and stands in the table (R60, R62). -/
theorem State.nextReversal_eligible {s : State} {i : EntryId} {e : Exchange} (h : s.nextReversal = some (i, e)) :
    s.exchange i = some e ∧ s.reversalEligible e = true := by
  rw [State.nextReversal_eq] at h
  rcases foldl_earlier_mem _ _ h with none | mem
  · exact absurd none (by simp)
  · exact State.mem_reversalCandidates.mp mem

/-! ## The slots of the keys a job loads (R64) -/

theorem State.linkKey_slot {s : State} {l : LaneId} {k : LoadedKey} (h : s.linkKey l = some k) :
    (s.lane l).config.link = some k.slot := by
  unfold State.linkKey at h
  dsimp only at h
  split at h
  next n hn =>
    split at h
    · obtain ⟨_, _, same⟩ := Option.map_eq_some_iff.mp h
      rw [hn, ← same]
    · exact absurd h (by simp)
  · exact absurd h (by simp)

theorem State.baseKey_slot {s : State} {n : SlotId} {gen : Nat} {k : LoadedKey} (h : s.baseKey n gen = some k) :
    k.slot = n := by
  unfold State.baseKey at h
  dsimp only at h
  split at h
  · obtain ⟨_, _, same⟩ := Option.map_eq_some_iff.mp h
    rw [← same]
  · exact absurd h (by simp)

theorem State.laneBaseKey_slot {s : State} {l : LaneId} {k : LoadedKey} (h : s.laneBaseKey l = some k) :
    (s.lane l).config.base = some k.slot := by
  unfold State.laneBaseKey at h
  split at h
  next n _ hn _ => rw [hn, State.baseKey_slot h]
  · exact absurd h (by simp)

theorem State.loadKey_snd {s : State} {k k' : LoadedKey} (h : (s.loadKey k).2 = some k') : k' = k := by
  unfold State.loadKey at h
  split at h
  · exact (Option.some.inj h).symm
  · exact absurd h (by simp)

theorem State.loadIfUsable_snd {s : State} {k : Option LoadedKey} {k' : LoadedKey} (h : (s.loadIfUsable k).2 = some k') :
    k = some k' := by
  cases k with
  | none => exact absurd h (by simp [State.loadIfUsable])
  | some k => rw [State.loadKey_snd h]

/-- A slot that an absent field names is not held. -/
theorem State.held_of_heldOpt {s : State} {n : SlotId} {o : Option SlotId} (h : s.heldOpt o = false) (ho : o = some n) :
    s.held n.val = false := by
  subst ho
  exact h

/-! ## Grants -/

/-- What stands between the arbiter's choice and the job: growth without an envelope, no lane's slots changed, the engine
idle. -/
structure Loading (s t : State) : Prop where
  grown : Grown 0 s t
  names : namesKept s t

theorem Loading.trans {s t u : State} (a : Loading s t) (b : Loading t u) : Loading s u :=
  ⟨a.grown.trans b.grown, a.names.trans b.names⟩

theorem Loading.loadKey (s : State) (k : LoadedKey) : Loading s (s.loadKey k).1 := ⟨.loadKey s k, namesKept_loadKey s k⟩

theorem Loading.loadIfUsable (s : State) (k : Option LoadedKey) : Loading s (s.loadIfUsable k).1 :=
  ⟨.loadIfUsable s k, namesKept_loadIfUsable s k⟩

theorem Kept.endAtLoad {s t : State} (g : Grown 0 s t) (l : LaneId) (f : LaneFrame) : Kept s (t.endAtLoad l f) :=
  Kept.finishJob (g.trans (.refuseAtHand t l f _)) (by omega)

/-- A lane job starts, its engine idle and its keys' slots those of its lane, none of them held (R58, R64, R150). -/
theorem Kept.startLane {s t : State} {l : LaneId} {f : LaneFrame} {link : LoadedKey} {work : LaneWork} (g : Grown 0 s t)
    (idle : s.engine.job = none) (place : s.sendPlaceFree = true) (free : s.held link.slot.val = false)
    (loaded : ∀ n ∈ work.loaded, s.held n.val = false) : Kept s (t.startJob (.lane l f link work)) := by
  refine .startJob g idle (fun _ => place) (fun n hn => ?_)
  rcases List.mem_cons.mp hn with rfl | hn
  · exact free
  · exact loaded n hn

theorem Kept.startWithBase {s t : State} {l : LaneId} {f : LaneFrame} {link : LoadedKey} {mk : LoadedKey → LaneWork}
    (h : Loading s t) (idle : s.engine.job = none) (place : s.sendPlaceFree = true) (free : s.held link.slot.val = false)
    (based : s.heldOpt (s.lane l).config.base = false) (loaded : ∀ k, (mk k).loaded = [k.slot]) :
    Kept s (t.startWithBase l f link mk) := by
  unfold State.startWithBase
  split
  · exact .endAtLoad h.grown l f
  next k hk =>
    have slot : (s.lane l).config.base = some k.slot := (h.names l).2.1 ▸ State.laneBaseKey_slot hk
    have load := h.trans (.loadKey t k)
    split
    next u base hu =>
      rw [hu] at load
      have same : base = k := State.loadKey_snd (by rw [hu])
      refine .startLane load.grown idle place free (fun n hn => ?_)
      rw [loaded, same, List.mem_singleton] at hn
      rw [hn]
      exact State.held_of_heldOpt based slot
    next u hu =>
      rw [hu] at load
      exact .endAtLoad load.grown l f

theorem Kept.loadLane {s t : State} {l : LaneId} {f : LaneFrame} (h : Loading s t) (idle : s.engine.job = none)
    (place : s.sendPlaceFree = true) (linked : s.heldOpt (s.lane l).config.link = false)
    (based : s.heldOpt (s.lane l).config.base = false) : Kept s (t.loadLane l f) := by
  unfold State.loadLane
  split
  · exact .endAtLoad h.grown l f
  next k hk =>
    have slot : (s.lane l).config.link = some k.slot := (h.names l).1 ▸ State.linkKey_slot hk
    have load := h.trans (.loadKey t k)
    split
    next u hu =>
      rw [hu] at load
      exact .endAtLoad load.grown l f
    next u link hu =>
      rw [hu] at load
      have same : link = k := State.loadKey_snd (by rw [hu])
      have free : s.held link.slot.val = false := by rw [same]; exact State.held_of_heldOpt linked slot
      have bare : ∀ work : LaneWork, work.loaded = [] → Kept s (u.startJob (.lane l f link work)) := fun work none =>
        .startLane load.grown idle place free (by rw [none]; simp)
      split
      · split
        · exact bare .payTest rfl
        · exact .startWithBase load idle place free based (fun _ => rfl)
      · exact .startWithBase load idle place free based (fun _ => rfl)
      · exact bare .enrol rfl
      · exact bare .askState rfl

theorem Loading.takenFrom (s : State) (l : LaneId) : Loading s (takenFrom s l) := by
  refine ⟨.of_core rfl, fun k => ?_⟩
  have lane : (Safety.takenFrom s l).lane k = if k = l then { s.lane k with mailbox := none } else s.lane k :=
    State.lane_modLane s l k (fun r => { r with mailbox := none })
  rw [lane]
  split <;> exact ⟨rfl, rfl, rfl⟩

theorem Kept.grantMailbox {s t : State} {l : LaneId} {f : LaneFrame} (h : Loading s t) (idle : s.engine.job = none)
    (place : s.sendPlaceFree = true) (linked : s.heldOpt (s.lane l).config.link = false)
    (based : s.heldOpt (s.lane l).config.base = false) : Kept s (t.grantMailbox l f) := by
  have load := h.trans (.takenFrom t l)
  unfold State.grantMailbox
  dsimp only
  split
  · exact .finishJob (load.grown.trans (.refuseAtHand _ l f _)) (by omega)
  · exact .loadLane load idle place linked based

theorem Kept.grantReversal {s t : State} {i : EntryId} {e : Exchange} (h : Loading s t) (idle : s.engine.job = none)
    (place : e.state = .reversalDue → s.sendPlaceFree = true) (based : s.heldOpt (s.lane e.lane).config.base = false) :
    Kept s (t.grantReversal i e) := by
  have load := h.trans (.loadIfUsable t (t.laneBaseKey e.lane))
  have free : ∀ n ∈ ((t.loadIfUsable (t.laneBaseKey e.lane)).2.map LoadedKey.slot).toList, s.held n.val = false := by
    intro n hn
    obtain ⟨k, hk, rfl⟩ := Option.map_eq_some_iff.mp (Option.mem_toList.mp hn)
    exact State.held_of_heldOpt based ((h.names e.lane).2.1 ▸ State.laneBaseKey_slot (State.loadIfUsable_snd hk))
  unfold State.grantReversal
  dsimp only
  split
  next due => exact .startJob load.grown idle (fun _ => place due) free
  · exact .startJob load.grown idle (fun reserves => absurd reserves (by simp [Job.reserves])) free
  · exact .quiet h.grown

theorem Kept.grantAnswer {s t : State} {env : Envelope} {rest : List Envelope} (h : Loading s t)
    (idle : s.engine.job = none) (fewer : rest.length ≤ t.answerQueue.length) (found : t.currentMatch env = s.currentMatch env)
    (eligible : s.answerEligible env = true) : Kept s (t.grantAnswer env rest) := by
  have taken : Loading s { t with answerQueue := rest } :=
    ⟨{ h.grown with answers := fewer.trans h.grown.answers }, h.names⟩
  have unreserved : ∀ found lane b k, (Job.answer env found lane b k).reserves = true → s.sendPlaceFree = true :=
    fun _ _ _ _ reserves => absurd reserves (by simp [Job.reserves])
  unfold State.grantAnswer
  dsimp only
  rw [found]
  cases hm : s.currentMatch env with
  | none => exact .startJob taken.grown idle (unreserved _ _ _ _) (by simp [Job.loaded])
  | some x =>
    obtain ⟨i, e⟩ := x
    simp only [State.answerEligible, hm, Bool.and_eq_true, Bool.not_eq_true', Bool.and_eq_false_iff] at eligible
    obtain ⟨based, linked⟩ := eligible
    have first := taken.trans (.loadIfUsable _ (State.baseKey { t with answerQueue := rest } e.base e.gen))
    dsimp only
    generalize hb : State.loadIfUsable { t with answerQueue := rest }
      (State.baseKey { t with answerQueue := rest } e.base e.gen) = b at first ⊢
    refine .startJob (first.trans (.loadIfUsable _ _)).grown idle (unreserved _ _ _ _) (fun n hn => ?_)
    rcases List.mem_append.mp hn with hn | hn
    · obtain ⟨k, hk, rfl⟩ := Option.map_eq_some_iff.mp (Option.mem_toList.mp hn)
      rw [← hb] at hk
      rw [State.baseKey_slot (State.loadIfUsable_snd hk)]
      exact based
    · obtain ⟨k, hk, rfl⟩ := Option.map_eq_some_iff.mp (Option.mem_toList.mp hn)
      have usable := State.loadIfUsable_snd hk
      split at usable
      next payment =>
        have slot := (first.names e.lane).1 ▸ State.linkKey_slot usable
        rcases linked with other | linked
        · rw [payment] at other; exact absurd other (by simp)
        · exact State.held_of_heldOpt linked slot
      · exact absurd usable (by simp)

theorem Loading.applyWear (s : State) (w : Wear) : Loading s (s.applyWear w) := ⟨.applyWear s w, .of_lanes rfl⟩

/-- A grant keeps everything: what is granted uses no held slot and finds the place it reserves (R59, R60, R150). -/
theorem Kept.arbitrate (s : State) (w : Wear) : Kept s (s.arbitrate w) := by
  unfold State.arbitrate
  split
  swap
  · exact .refl s
  next may =>
  have worn := Loading.applyWear s w
  have idle := may.2
  unfold State.nextWork
  cases ha : takeFirst s.answerEligible s.answerQueue with
  | some x =>
    obtain ⟨eligible, fewer⟩ := takeFirst_eq_some ha
    exact .grantAnswer worn idle fewer rfl eligible
  | none =>
    cases hr : s.nextReversal with
    | some x =>
      obtain ⟨i, e⟩ := x
      obtain ⟨_, eligible⟩ := State.nextReversal_eligible hr
      simp only [State.reversalEligible, Bool.and_eq_true, Bool.not_eq_true'] at eligible
      obtain ⟨⟨based, _⟩, ready⟩ := eligible
      refine .grantReversal worn idle (fun due => ?_) based
      rw [due] at ready
      exact ready
    | none =>
      unfold State.nextMailbox
      cases hm : (roundRobin s.engine.lastServed).find? s.mailboxEligible with
      | none => exact .refl s
      | some l =>
        have eligible := List.find?_some hm
        unfold State.mailboxEligible at eligible
        dsimp only at eligible ⊢
        cases hf : (s.lane l).mailbox with
        | none => exact .refl s
        | some f =>
          rw [hf] at eligible
          simp only [Bool.and_eq_true, Bool.not_eq_true'] at eligible
          obtain ⟨⟨⟨⟨linked, based⟩, _⟩, place⟩, _⟩ := eligible
          exact .grantMailbox worn idle place linked based

end Sys2Proof.Machine
end

section
/-! SUPPORT. What every command keeps, continued: transmission, frames received, commits, starts, timers and the Persist Queue's
reports; then every command, and every step. -/

namespace Sys2Proof.Machine

open Sys2Proof.Safety

/-! ## Transmission and carrier (R4, R106, R107) -/

theorem Grown.transmitOrder (s : State) (p : Port) : Grown 0 s (s.transmitOrder p) := by
  have taken := Grown.takeNext s p
  unfold State.transmitOrder
  dsimp only
  split
  next f rest _ order =>
    have out := taken.trans (.setPort (s.takeNext p) p { (s.takeNext p).port p with
      order := rest
      transmitting := none
      counters := { ((s.takeNext p).port p).counters with
        framesOut := satInc Config.count32Max ((s.takeNext p).port p).counters.framesOut } } (by rw [order]; simp))
    refine Grown.trans ?_ (.takeNext _ p)
    refine Grown.trans ?_ (.restartLeft _ p _)
    exact out.trans (.of_core rfl)
  · exact .refl s

/-- A state whose Send Queue alone got shorter. -/
theorem Grown.fewerSent (s : State) (q : List Envelope) (w : List (Port × Bytes)) (h : q.length ≤ s.sendQueue.length) :
    Grown 0 s { s with sendQueue := q, wire := w } where
  pending := rfl
  answers := le_rfl
  send := h
  job := rfl
  hold _ := rfl
  orders := id
  persist := id
  form := id

theorem Grown.transmitEnvelope (s : State) : Grown 0 s s.transmitEnvelope := by
  have taken := Grown.takeNext s .c
  unfold State.transmitEnvelope
  dsimp only
  split
  next e rest _ queue =>
    have out := taken.trans (.setPort (s.takeNext .c) .c { (s.takeNext .c).port .c with
      transmitting := none
      counters := { ((s.takeNext .c).port .c).counters with
        framesOut := satAdd Config.count32Max ((s.takeNext .c).port .c).counters.framesOut e.frames } } le_rfl)
    refine (out.trans (.fewerSent _ rest _ ?_)).trans (.takeNext _ .c)
    rw [State.setPort_sendQueue, queue]
    simp
  · exact .refl s

theorem Grown.dropOrder (s : State) (p : Port) : Grown 0 s (s.dropOrder p) := by
  have dropped := Grown.setPort s p { s.port p with
    carrier := false
    order := []
    transmitting := none
    counters := { (s.port p).counters with
      noCarrier := satAdd Config.count32Max (s.port p).counters.noCarrier (s.port p).order.length } } (by simp)
  exact dropped.trans (.restartLeft _ p _)

theorem Grown.dropSendQueue (s : State) (gone : Bool) : Grown 0 s (s.dropSendQueue gone) := by
  unfold State.dropSendQueue
  exact (Grown.fewerSent s [] _ (by simp)).trans (.countPort _ .c _)

theorem Grown.carrierReturns (s : State) (p : Port) : Grown 0 s (s.carrierReturns p) := .setPort s p _ le_rfl

theorem Grown.pause (s : State) (p : Port) (quanta : BitVec 16) : Grown 0 s (s.pause p quanta) := by
  unfold State.pause
  split
  · exact (Grown.setPort s p { s.port p with pausedUntil := s.clock + pauseTime quanta } le_rfl).trans (.takeNext _ p)
  · exact .refl s

theorem Grown.sCarrierLost (s : State) : Grown 0 s s.sCarrierLost := by
  unfold State.sCarrierLost
  split
  · exact .dropOrder s .s
  · exact .refl s

theorem Grown.cCarrierLost (s : State) (gone : Bool) : Grown 0 s (s.cCarrierLost gone) := by
  unfold State.cCarrierLost
  split
  · exact ((Grown.dropSendQueue s _).trans (.dropOrder _ .c)).trans (.carrierGone _)
  · exact .refl s

/-! ## The monitor and the timers (R112, R113) -/

theorem Kept.sendProbe (s : State) : Kept s s.sendProbe := by
  unfold State.sendProbe
  split
  next free => exact .place ((Grown.setMonitor s _).trans (.placeEnvelope _ _)) free
  · exact .refl s

theorem Kept.firstProbe (s : State) : Kept s s.firstProbe := by
  unfold State.firstProbe
  split
  · exact (Kept.sendProbe s).trans (.quiet (.restartProbeTimer _))
  · exact .refl s

theorem Kept.probeExpired (s : State) : Kept s s.probeExpired :=
  ((Kept.quiet (.missProbe s)).trans (.sendProbe _)).trans (.quiet (.restartProbeTimer _))

theorem Kept.probeTimer (s : State) : Kept s s.probeTimer := by
  unfold State.probeTimer
  split
  · split
    · exact .probeExpired s
    · exact .refl s
  · exact .refl s

theorem Kept.cCarrierReturns (s : State) : Kept s s.cCarrierReturns := by
  unfold State.cCarrierReturns
  split
  · exact .refl s
  · exact (Kept.quiet (.carrierReturns s .c)).trans (.firstProbe _)

theorem State.drainTest_place {s : State} {e : LogEntry} {i : EntryId} (h : s.drainTest = some (e, i)) :
    s.sendPlaceFree = true := by
  unfold State.drainTest at h
  split at h
  · split at h
    next test => exact test.2.2.2.1
    · exact absurd h (by simp)
  · exact absurd h (by simp)

theorem Kept.drainSend (s : State) : Kept s s.drainSend := by
  unfold State.drainSend
  split
  · split
    next test => exact .place (.drain s _ _) (State.drainTest_place test)
    · exact .refl s
  · exact .refl s

theorem Grown.paymentDeadline (s : State) (i : EntryId) : Grown 0 s (s.paymentDeadline i) := by
  unfold State.paymentDeadline
  split
  · split
    · exact .paymentTimesOut s i _
    · exact .refl s
  · exact .refl s

theorem Grown.reversingDeadline (s : State) (i : EntryId) : Grown 0 s (s.reversingDeadline i) := by
  unfold State.reversingDeadline
  split
  · split
    · exact .setExchange s i _
    · exact .refl s
  · exact .refl s

theorem Grown.logSendDeadline (s : State) (i : EntryId) : Grown 0 s (s.logSendDeadline i) := by
  unfold State.logSendDeadline
  split
  · split
    · exact .logSendTimesOut s i _
    · exact .refl s
  · exact .refl s

theorem Grown.countDrops (s : State) (k : Nat) : Grown 0 s (s.countDrops k) := .of_core rfl

theorem Grown.setBuffer (s : State) (b : BufferId) (h : Option HeldSegment) : Grown 0 s (s.setBuffer b h) := .of_core rfl

theorem Grown.reassemblyLimit (s : State) (b : BufferId) : Grown 0 s (s.reassemblyLimit b) := by
  unfold State.reassemblyLimit
  split
  · split
    · exact (Grown.setBuffer s b _).trans (.countDrops _ 1)
    · exact .refl s
  · exact .refl s

theorem Grown.scrubStep (s : State) (w : Wear) : Grown 0 s (s.scrubStep w) := by
  unfold State.scrubStep
  split
  · exact (Grown.applyWear s w).trans (.scrubWalk _)
  · exact .refl s

/-! ## Holds and change sets (R140, R148, R151, R152) -/

theorem Kept.emptySet (s : State) (p : Port) : Kept s (s.emptySet p) := .setCtl s p _ (.inl rfl)

theorem Kept.restartIdle (s : State) (p : Port) : Kept s (s.restartIdle p) := .setCtl s p _ (.inl rfl)

theorem Kept.holdLimit (s : State) (p : Port) : Kept s (s.holdLimit p) := by
  unfold State.holdLimit
  split
  · split
    · have none := Kept.setCtl s p { s.ctl p with hold := .none } (.inr rfl)
      exact ((none.trans (.emptySet _ p)).trans (.quiet (.raise _ _))).trans (.grantHolds _)
    · exact .refl s
  · exact .refl s
  · exact .refl s

theorem Kept.idleLimit (s : State) (p : Port) : Kept s (s.idleLimit p) := by
  unfold State.idleLimit
  dsimp only
  split
  · split
    · exact (Kept.emptySet s p).trans (.quiet (.raise _ _))
    · exact .refl s
  · exact .refl s

/-! ## Control requests (R162 to R170) -/

theorem Grown.clearGroup (s : State) (k : Nat) : Grown 0 s (s.clearGroup k) := by
  unfold State.clearGroup
  split
  · exact .countPort s .s _
  · split
    · exact .countPort s .c _
    · split
      · exact .of_core rfl
      · split
        · exact .modLane s _ _
        · exact .refl s

theorem Grown.clearEvent (s : State) (k : Nat) : Grown 0 s (s.clearEvent k) := by
  unfold State.clearEvent
  split
  · exact .of_core rfl
  · exact .refl s

theorem Grown.clearFault (s : State) (k : Nat) : Grown 0 s (s.clearFault k) := by
  unfold State.clearFault
  split
  · exact .of_core rfl
  · exact .refl s

theorem Grown.askClear (s : State) (t : AskTable) (first n : Nat) : Grown 0 s (s.askClear t first n) := by
  unfold State.askClear
  dsimp only
  split
  · exact .foldl _ Grown.clearGroup _ s
  · exact .foldl _ Grown.clearEvent _ s
  · exact (Grown.foldl _ Grown.clearFault _ s).trans (.of_core rfl)
  · exact .refl s

theorem Grown.ask (s : State) (t : AskTable) (first count : Nat) (clear : Bool) : Grown 0 s (s.ask t first count clear).1 := by
  unfold State.ask
  split
  · exact .refl s
  · split
    · exact .refl s
    · dsimp only
      split
      · exact .askClear s t first _
      · exact .refl s

theorem Kept.stageRequest (s : State) (p : Port) (table index : Nat) (record : Bytes) :
    Kept s (s.stageRequest p table index record).1 := by
  unfold State.stageRequest
  split
  · exact .refl s
  · split
    · exact .refl s
    · split
      · exact .refl s
      · split
        · exact .refl s
        next c _ => exact (Kept.setCtl s p { s.ctl p with changeSet := c } (.inl rfl)).trans (.restartIdle _ p)

theorem Kept.holdRequest (s : State) (p : Port) (f : ControlFrame) (low high : Nat) :
    Kept s (s.holdRequest p f low high).1 := by
  unfold State.holdRequest
  split
  · exact .refl s
  · split
    · exact .setCtl s p _ (.inr rfl)
    · exact .refl s
    · exact .refl s

theorem Grown.rewritten (s : State) (p : Position) : Grown 0 s (s.rewritten p) := .of_core rfl

theorem Grown.rewrittenBy (s : State) (g : CommitGroup) : Grown 0 s (s.rewrittenBy g) := by
  have folds : Grown 0 s (g.lanes.foldl (fun t x => t.rewritten (lanePosition x.1))
      (g.slots.foldl (fun t x => t.rewritten (slotPosition x.1)) s)) :=
    (Grown.foldl _ (fun s _ => .rewritten s _) _ _).trans (.foldl _ (fun s _ => .rewritten s _) _ _)
  unfold State.rewrittenBy
  dsimp only
  split
  · exact folds.trans (.rewritten _ _)
  · exact folds

theorem Grown.resetAdvance (s : State) (l : LaneId) : Grown 0 s (s.resetAdvance l) :=
  .requestAdvance s l _ (fun new ws => joinBehind_length l new ws)

theorem Kept.applySet (s : State) (p : Port) (es : List StagedEntry) : Kept s (s.applySet p es) := by
  have tables : Grown 0 s (s.applyTables es) := .of_core rfl
  refine (Kept.quiet ?_).trans (.emptySet _ p)
  have dropped := (tables.trans (.rewrittenBy _ (commitGroup s es))).trans
    (.foldl _ Grown.dropCeilings (resetLanes s es) _)
  have queued := dropped.trans (.enqueue _ (fun ws => ws ++ [.group (commitGroup s es)])
    (fun v => v.loseGroup (commitGroup s es) (fun _ => true)) (by simp) (.loseGroup _ _ _))
  exact (queued.trans (.foldl _ Grown.resetAdvance (resetLanes s es) _)).trans
    (.foldl _ Grown.foundedAdvanceTest (laneEntries es) _)

theorem Kept.commitRequest (s : State) (p : Port) : Kept s (s.commitRequest p).1 := by
  unfold State.commitRequest
  dsimp only
  split
  · exact .refl s
  · split
    · exact .refl s
    · exact .applySet s p _

theorem Grown.setLaneRequest (s : State) (lane : Nat) (a : LaneAction) : Grown 0 s (s.setLaneRequest lane a).1 := by
  unfold State.setLaneRequest
  split
  · exact .setLaneAs s _ a
  · exact .refl s

theorem Kept.accept (s : State) (p : Port) (g : ControlFrame) : Kept s (s.accept p g) := by
  have heard := Kept.setCtl s p { s.ctl p with lastNumber := g.number.toNat, noticeAddress := some g.src } (.inl rfl)
  unfold State.accept
  dsimp only
  split
  · exact heard
  · exact heard.trans (.restartIdle _ p)

theorem Kept.carryOut (s : State) (p : Port) (g : ControlFrame) : Kept s (s.carryOut p g).1 := by
  unfold State.carryOut
  split
  · exact .refl s
  · exact .quiet (.ask s _ _ _ _)
  · exact .stageRequest s p _ _ _
  · exact .commitRequest s p
  · exact .emptySet s p
  · exact .holdRequest s p g _ _
  · exact .setCtl s p _ (.inr rfl)
  · exact .quiet (.setLaneRequest s _ _)
  · exact .setCtl s p _ (.inl rfl)

theorem Kept.takeControl (s : State) (p : Port) (f : EthFrame) : Kept s (s.takeControl p f) := by
  unfold State.takeControl
  split
  · exact .quiet (.countPort s p _)
  next g _ =>
    dsimp only
    split
    · exact .quiet ((Grown.answer s p _ _ _ _).trans (.countPort _ p _))
    · split
      · exact .quiet (.answer s p _ _ _ _)
      · have carried := (Kept.accept s p g).trans (.carryOut _ p g)
        split
        · exact (carried.trans (.quiet (.answer _ p _ _ _ _))).trans (.grantHolds _)
        · exact carried.trans (.quiet (.answer _ p _ _ _ _))

/-! ## Lane frames, envelopes and bridging (R1 to R7, R104 to R111) -/

theorem Grown.acceptFrame (s : State) (l : LaneId) (f : LaneFrame) : Grown 0 s (s.acceptFrame l f) := by
  unfold State.acceptFrame
  split
  · exact .refuseAtHand s l f _
  · exact .modLane s l _

theorem Grown.takeLaneFrame (s : State) (f : EthFrame) : Grown 0 s (s.takeLaneFrame f) := by
  unfold State.takeLaneFrame
  split
  · exact .countPort s .s _
  · exact (Grown.handTill s _ _ _ _ _).trans (.countPort _ .s _)
  · split
    · exact .acceptFrame s _ _
    · exact .handTill s _ _ _ _ _

/-- An envelope joins the Answer Queue only where a place is free (R111). -/
theorem Kept.offerAnswer (s : State) (e : Envelope) : Kept s (s.offerAnswer e) := by
  unfold State.offerAnswer
  split
  next room =>
    refine ⟨rfl, fun ⟨_, orders, send, persist⟩ => ⟨?_, orders, send, persist⟩, id, id⟩
    simp only [answersFit, List.length_append, List.length_cons, List.length_nil]
    omega
  · exact .quiet (.of_core rfl)

theorem Kept.takeWhole (s : State) (e : Envelope) : Kept s (s.takeWhole e) := by
  unfold State.takeWhole
  split
  · exact .quiet (.takeEcho s e)
  · exact .offerAnswer s e

theorem Grown.firstSegment (s : State) (r : SegmentRead) : Grown 0 s (s.firstSegment r) := by
  unfold State.firstSegment
  dsimp only
  split
  · exact (Grown.setBuffer s _ _).trans (.countDrops _ 1)
  · split
    · exact .setBuffer s _ _
    · exact .countDrops s 1

theorem Kept.secondSegment (s : State) (r : SegmentRead) : Kept s (s.secondSegment r) := by
  unfold State.secondSegment
  split
  · exact .quiet (.countDrops s 1)
  · split
    · exact (Kept.quiet (.setBuffer s _ _)).trans (.takeWhole _ _)
    · exact .quiet ((Grown.setBuffer s _ _).trans (.countDrops _ 2))

theorem Kept.takeEnvelope (s : State) (f : EthFrame) : Kept s (s.takeEnvelope f) := by
  unfold State.takeEnvelope
  split
  · exact .quiet (.countPort s .c _)
  · split
    · exact .takeWhole s _
    · split
      · exact .quiet (.firstSegment s _)
      · exact .secondSegment s _

theorem Grown.bridge (s : State) (p : Port) (f : EthFrame) : Grown 0 s (s.bridge p f) := by
  unfold State.bridge
  split
  · refine (Grown.countPort s p (fun c => { c with bridged := satInc Config.count32Max c.bridged })).trans ?_
    unfold State.handBridged
    split
    · exact .handFrame _ _ _
    · exact .refl _
  · exact .countPort s p _

theorem Kept.sort (s : State) (p : Port) (f : EthFrame) : Kept s (s.sort p f) := by
  unfold State.sort
  split
  · exact .quiet (.takeLaneFrame s f)
  · exact .takeEnvelope s f
  · exact .takeControl s p f
  · exact .quiet (.countPort s p _)
  · exact .quiet (.bridge s p f)

theorem Kept.receiveFrame (s : State) (p : Port) (f : EthFrame) : Kept s (s.receiveFrame p f) := by
  have counted := Grown.countPort s p (fun c => { c with framesIn := satInc Config.count32Max c.framesIn })
  unfold State.receiveFrame
  split
  · unfold State.takeMacControl
    split
    · exact .quiet (.pause s p _)
    · exact .refl s
  · split
    · exact .refl s
    · dsimp only
      split
      · exact .quiet (counted.trans (.of_core rfl))
      · exact (Kept.quiet counted).trans (.sort _ p f)

/-! ## Starts (R182 to R185) -/

/-- A start discards every queue, every hold and the job, so that what they were does not matter (R182). -/
theorem Kept.discardAll (s : State) (k : StartKind) (decays : List Decay) :
    Kept s { s.discardAll k with store := decays.foldl PersistentStore.decay s.store } where
  pending := rfl
  fits _ := by
    refine ⟨by simp [answersFit, State.discardAll], fun p => ?_, ?_, ?_⟩
    · cases p <;> simp [State.port, State.discardAll, PerPort.at, PortState.started]
    · simp [sendQueueFits, State.discardAll, State.reserved]
    · simp [persistFits, State.discardAll, PersistQueue.unwritten]
  exclude _ := by
    have none : ∀ p, grantedRange { s.discardAll k with store := decays.foldl PersistentStore.decay s.store } p = none := by
      intro p
      cases p <;> rfl
    exact ⟨fun a _ ha => absurd (ha.symm.trans (none .s)) (by simp), fun p r hr => absurd (hr.symm.trans (none p)) (by simp)⟩
  form form := PersistentStore.decays_storeForm decays s form

theorem Grown.restoreFailed (s : State) (r : RecordName) : Grown 0 s (s.restoreFailed r) := .raise s _

theorem Grown.restoreSettings (s : State) : Grown 0 s s.restoreSettings := by
  unfold State.restoreSettings
  split
  · exact .of_core rfl
  · refine Grown.trans ?_ (.restoreFailed _ _)
    exact .of_core rfl

theorem Grown.reportSlots (s : State) : Grown 0 s s.reportSlots := by
  refine .foldl _ (fun s n => ?_) _ s
  split
  · exact .raise s _
  · exact .refl s

theorem Grown.restoreLane (s : State) (l : LaneId) : Grown 0 s (s.restoreLane l) := by
  unfold State.restoreLane
  dsimp only
  split
  · exact .of_core rfl
  · refine Grown.trans ?_ (.restoreFailed _ _)
    exact .of_core rfl

theorem Grown.faultRestored (s : State) : Grown 0 s s.faultRestored := by
  refine .foldl _ (fun s n => ?_) _ s
  split
  · exact .faultLanesOf s n
  · exact .refl s

theorem Grown.restoreClass (s : State) (c : CardClass) : Grown 0 s (s.restoreClass c) := by
  unfold State.restoreClass
  split
  · exact .of_core rfl
  · refine Grown.trans ?_ (.restoreFailed _ _)
    exact .of_core rfl

theorem Grown.restorePlace (s : State) (x : PlaceId × Stored (Option LogEntry)) : Grown 0 s (s.restorePlace x) := by
  unfold State.restorePlace
  split
  · exact .of_core rfl
  · exact .refl s
  · refine Grown.trans ?_ (.raise _ _)
    exact .of_core rfl

theorem Grown.restoreEpoch (s : State) : Grown 0 s s.restoreEpoch := by
  unfold State.restoreEpoch
  split
  · exact .of_core rfl
  · refine Grown.trans ?_ (.restoreFailed _ _)
    exact .of_core rfl

theorem Grown.restoreSlots (s : State) : Grown 0 s s.restoreSlots :=
  .of_core (by simp only [State.core, State.restoreSlots])

theorem Grown.restoreLanes (s : State) : Grown 0 s s.restoreLanes := .foldl _ Grown.restoreLane _ s

theorem Grown.restoreClasses (s : State) : Grown 0 s s.restoreClasses := .foldl _ Grown.restoreClass _ s

theorem Grown.restoreLog (s : State) : Grown 0 s s.restoreLog := .foldl _ Grown.restorePlace _ s

theorem Grown.restore (s : State) : Grown 0 s s.restore := by
  unfold State.restore
  exact (((((((Grown.restoreSettings s).trans (.restoreSlots _)).trans (.reportSlots _)).trans (.restoreLanes _)).trans
    (.faultRestored _)).trans (.restoreClasses _)).trans (.restoreLog _)).trans (.restoreEpoch _)

theorem Grown.exhaustRestored (s : State) (l : LaneId) : Grown 0 s (s.exhaustRestored l) := by
  unfold State.exhaustRestored
  split
  · exact .changeState s l _ _
  · exact .refl s

theorem Grown.prepareCounters (s : State) : Grown 0 s s.prepareCounters :=
  (Grown.foldl _ Grown.exhaustRestored _ s).trans (.foldl _ Grown.advanceTest _ _)

theorem Grown.prepareMonitor (s : State) : Grown 0 s s.prepareMonitor := .setMonitor s _

theorem Grown.prepareEpoch (s : State) : Grown 0 s s.prepareEpoch := by
  unfold State.prepareEpoch
  refine Grown.trans ?_ (.enqueue _ _ _ (by simp) (.writeFailed _ _ _))
  exact .of_core rfl

theorem Kept.beginStart (s : State) (powered : Bool) (decays : List Decay) : Kept s (s.beginStart powered decays) := by
  unfold State.beginStart
  refine (Kept.discardAll s (s.startKindFor powered) decays).trans (.quiet ?_)
  exact (((Grown.restore _).trans (.prepareMonitor _)).trans (.prepareCounters _)).trans (.prepareEpoch _)

theorem Kept.serve (s : State) : Kept s s.serve := by
  unfold State.serve
  refine (Kept.quiet ?_).trans (.firstProbe _)
  refine Grown.trans ?_ (.raise _ _)
  refine Grown.trans ?_ (.broadcastTills _ _)
  exact .of_core rfl

theorem Kept.epochReported (s : State) (r : WriteResult) : Kept s (s.epochReported r) := by
  unfold State.epochReported
  split
  · cases r with
    | completed => exact (Kept.quiet (.endWrite s _ _)).trans (.serve _)
    | failed => exact (Kept.quiet ((Grown.endWrite s _ _).trans (.writeFailed _ _ _))).trans (.serve _)
  · exact .refl s

/-! ## The Persist Queue's reports (R179 to R181) -/

/-- A write ends, and its owner is told. -/
theorem Grown.reported (s : State) (w : Write) (r : WriteResult) {t : State} (g : Grown 0 (s.endWrite w r) t) : Grown 0 s t :=
  (Grown.endWrite s w r).trans g

theorem Grown.groupReported (s : State) (r : WriteResult) : Grown 0 s (s.groupReported r) := by
  unfold State.groupReported
  split
  · cases r with
    | completed => exact .endWrite s _ _
    | failed =>
      refine ((Grown.foldl State.withdrawAdvance (fun t l => ?_) _ s).trans (.endWrite _ _ _)).trans (.loseGroup _ _ _)
      exact (Grown.dropCeilings t l).trans (.modLane _ l _)
  · exact .refl s

theorem Grown.ceilingCompleted (s : State) : Grown 0 s s.ceilingCompleted := by
  unfold State.ceilingCompleted
  split
  · dsimp only
    split
    · exact .endWrite s _ _
    · exact .reported s _ _ (.ceilingDone _ _ _ _ _)
  · exact .refl s

theorem Grown.ceilingReportedFailed (s : State) : Grown 0 s s.ceilingReportedFailed := by
  unfold State.ceilingReportedFailed
  split
  · dsimp only
    split
    · exact .reported s _ _ (.writeFailed _ _ _)
    · exact .reported s _ _ (.ceilingFailed _ _)
  · exact .refl s

theorem Grown.laneStateReported (s : State) (r : WriteResult) : Grown 0 s (s.laneStateReported r) := by
  unfold State.laneStateReported
  split
  · cases r with
    | completed => exact .endWrite s _ _
    | failed => exact .reported s _ _ (.writeFailed _ _ _)
  · exact .refl s

theorem Grown.slotStateReported (s : State) (r : WriteResult) : Grown 0 s (s.slotStateReported r) := by
  unfold State.slotStateReported
  split
  · cases r with
    | completed => exact .endWrite s _ _
    | failed => exact .reported s _ _ (.writeFailed _ _ _)
  · exact .refl s

theorem Grown.appendReported (s : State) : Grown 0 s s.appendReported := by
  unfold State.appendReported
  split
  · exact .reported s _ _ (.appendDone _ _)
  · exact .refl s

theorem Grown.appendReportedFailed (s : State) : Grown 0 s s.appendReportedFailed := by
  unfold State.appendReportedFailed
  split
  · exact (Grown.dropRemovals s _).trans (.reported _ _ _ (.appendFailed _ _ _ _ _))
  · exact .refl s

theorem Grown.updateReported (s : State) (r : WriteResult) : Grown 0 s (s.updateReported r) := by
  unfold State.updateReported
  split
  · cases r with
    | completed => exact .endWrite s _ _
    | failed => exact .reported s _ _ (.writeFailed _ _ _)
  · exact .refl s

theorem Grown.removalReported (s : State) (r : WriteResult) : Grown 0 s (s.removalReported r) := by
  unfold State.removalReported
  split
  · cases r with
    | completed => exact .reported s _ _ (.cancelReply _ _)
    | failed => exact .reported s _ _ (.removalFailed _ _ _)
  · exact .refl s

/-! ## The jobs (R57 to R77) -/

theorem Kept.laneJob {k : Nat} (s : State) (l : LaneId) (f : LaneFrame) (link : LoadedKey) (work : State → State)
    (g : ∀ t, Grown k t (work t)) (le : k ≤ s.reserved) : Kept s (s.laneJob l f link work) := by
  unfold State.laneJob
  split
  · exact .finishJob ((Grown.modLane s l _).trans (g _)) le
  · exact .finishJob (.tagFailed s l f link) (by omega)

theorem Kept.payJob (s : State) : Kept s s.payJob := by
  unfold State.payJob
  split
  next job => exact .laneJob s _ _ _ _ (fun t => .payWork t _ _ _ _) (Job.reserves_le s _ job rfl)
  · exact .laneJob s _ _ _ _ (fun t => .testWork t _ _ _) (by omega)
  · exact .refl s

theorem Kept.reverseJob (s : State) : Kept s s.reverseJob := by
  unfold State.reverseJob
  split
  next job => exact .laneJob s _ _ _ _ (fun t => .reverseWork t _ _ _ _) (Job.reserves_le s _ job rfl)
  · exact .refl s

theorem Kept.enrolJob (s : State) : Kept s s.enrolJob := by
  unfold State.enrolJob
  split
  · exact .laneJob s _ _ _ _ (fun t => .stateWork t _ _ _) (by omega)
  · exact .refl s

theorem Kept.askStateJob (s : State) : Kept s s.askStateJob := by
  unfold State.askStateJob
  split
  · exact .laneJob s _ _ _ _ (fun t => .stateWork t _ _ _) (by omega)
  · exact .refl s

theorem Kept.answerJob (s : State) : Kept s s.answerJob := by
  unfold State.answerJob
  split
  · exact .finishJob (.answerWork s _ _ _ _) (by omega)
  · exact .refl s

theorem Grown.entryWork {k : Nat} (s : State) (i : EntryId) (st : ExchangeState) (work : Exchange → State)
    (g : ∀ e, Grown k s (work e)) : Grown k s (s.entryWork i st work) := by
  have none : Grown k s s := (Grown.refl s).mono (by omega)
  unfold State.entryWork
  split
  · split
    · exact g _
    · exact none
  · exact none

theorem Kept.reversalJob (s : State) : Kept s s.reversalJob := by
  unfold State.reversalJob
  split
  next job => exact .finishJob (.entryWork s _ _ _ (fun e => .reversalWork s _ e _)) (Job.reserves_le s _ job rfl)
  · exact .refl s

theorem Kept.repeatJob (s : State) : Kept s s.repeatJob := by
  unfold State.repeatJob
  split
  · exact .finishJob (.entryWork s _ _ _ (fun e => .repeatWork s _ e _)) (by omega)
  · exact .refl s

/-! ## Every command, and every step -/

/-- Every command answers a next state, and keeps everything. -/
theorem exec_kept (c : Instr) (s : State) : ∃ t, exec c s = .next t ∧ Kept s t := by
  cases c
  case powerApplied decays => exact ⟨_, rfl, .beginStart s true decays⟩
  case resetLine decays => exact ⟨_, rfl, .beginStart s false decays⟩
  case restartReplyLeft decays =>
    refine ⟨_, rfl, ?_⟩
    split
    · exact .beginStart s false decays
    · exact .refl s
  case enterServing r => exact ⟨_, rfl, .epochReported s r⟩
  case pauseFrame p q => exact ⟨_, rfl, .quiet (.pause s p q)⟩
  case engineGrant w => exact ⟨_, rfl, .arbitrate s w⟩
  case payJob => exact ⟨_, rfl, .payJob s⟩
  case reverseJob => exact ⟨_, rfl, .reverseJob s⟩
  case enrolJob => exact ⟨_, rfl, .enrolJob s⟩
  case askStateJob => exact ⟨_, rfl, .askStateJob s⟩
  case answerJob => exact ⟨_, rfl, .answerJob s⟩
  case reversalJob => exact ⟨_, rfl, .reversalJob s⟩
  case repeatJob => exact ⟨_, rfl, .repeatJob s⟩
  case paymentDeadline i => exact ⟨_, rfl, .quiet (.paymentDeadline s i)⟩
  case reversingDeadline i => exact ⟨_, rfl, .quiet (.reversingDeadline s i)⟩
  case logSendDeadline i => exact ⟨_, rfl, .quiet (.logSendDeadline s i)⟩
  case drainSend => exact ⟨_, rfl, .drainSend s⟩
  case holdGrant => exact ⟨_, rfl, .grantHolds s⟩
  case holdLimit p => exact ⟨_, rfl, .holdLimit s p⟩
  case changeSetIdleLimit p => exact ⟨_, rfl, .idleLimit s p⟩
  case probeTimer => exact ⟨_, rfl, .probeTimer s⟩
  case reassemblyLimit b => exact ⟨_, rfl, .quiet (.reassemblyLimit s b)⟩
  case scrubStep w => exact ⟨_, rfl, .quiet (.scrubStep s w)⟩
  case portFrameTransmit p => exact ⟨_, rfl, .quiet (.transmitOrder s p)⟩
  case sendQueueTransmit => exact ⟨_, rfl, .quiet (.transmitEnvelope s)⟩
  case sPortCarrierLost => exact ⟨_, rfl, .quiet (.sCarrierLost s)⟩
  case sPortCarrierReturns => exact ⟨_, rfl, .quiet (.carrierReturns s .s)⟩
  case cPortCarrierLost gone => exact ⟨_, rfl, .quiet (.cCarrierLost s gone)⟩
  case cPortCarrierReturns => exact ⟨_, rfl, .cCarrierReturns s⟩
  case commitGroupWrite r => exact ⟨_, rfl, .quiet (.groupReported s r)⟩
  case ceilingWriteDone => exact ⟨_, rfl, .quiet (.ceilingCompleted s)⟩
  case ceilingWriteFailed => exact ⟨_, rfl, .quiet (.ceilingReportedFailed s)⟩
  case laneStateWrite r => exact ⟨_, rfl, .quiet (.laneStateReported s r)⟩
  case slotStateWrite r => exact ⟨_, rfl, .quiet (.slotStateReported s r)⟩
  case appendWriteDone => exact ⟨_, rfl, .quiet (.appendReported s)⟩
  case appendWriteFailed => exact ⟨_, rfl, .quiet (.appendReportedFailed s)⟩
  case logUpdateWrite r => exact ⟨_, rfl, .quiet (.updateReported s r)⟩
  case logRemovalWrite r => exact ⟨_, rfl, .quiet (.removalReported s r)⟩
  all_goals exact ⟨_, rfl, .receiveFrame s _ _⟩

theorem Grown.tick (s : State) : Grown 0 s s.tick := by
  unfold State.tick
  refine Grown.trans ?_ (.takeNext _ .c)
  refine Grown.trans ?_ (.takeNext _ .s)
  exact .of_core rfl

/-- Every step keeps what the queue of commands does not hold. -/
theorem step_kept {s t : State} (h : step s = .next t) :
    (queuesFit s → queuesFit t) ∧ (holdsExclude s → holdsExclude t) ∧ (storeForm s → storeForm t) := by
  unfold step at h
  split at h
  next c rest _ =>
    obtain ⟨u, hu, kept⟩ := exec_kept c { s with pending := rest }
    cases hu.symm.trans h
    exact ⟨kept.fits, kept.exclude, kept.form⟩
  next =>
    cases h
    have kept := Kept.quiet (.tick s)
    exact ⟨kept.fits, kept.exclude, kept.form⟩

/-- Settles O5: every operation of a command is some growth that its place in the Send Queue covers. -/
theorem stepKeepsQueuesFit : Obligations.StepKeepsQueuesFit := by
  intro s t fits h
  exact (step_kept h).1 fits

/-- Settles O6: a hold is GRANTED only where its test passes, and a job starts only on slots that no hold covers. -/
theorem stepKeepsHoldsExclusive : Obligations.StepKeepsHoldsExclusive := by
  intro s t exclude h
  exact (step_kept h).2.1 exclude

/-- Settles O7: the writes and the decays keep the stored log's form. -/
theorem stepKeepsStoreForm : Obligations.StepKeepsStoreForm := by
  intro s t form h
  exact (step_kept h).2.2 form

/-- Settles O3: command by command. -/
theorem execAnswersNextKeepingQueue : Obligations.ExecAnswersNextKeepingQueue := by
  intro c s
  obtain ⟨t, ht, kept⟩ := exec_kept c s
  exact ⟨t, ht, kept.pending⟩

end Sys2Proof.Machine
end

section
/-! SUPPORT. What the groups of fields keep under the kinds of operation, and what a port makes of a frame of each class (R1 to
R7, R104 to R115). -/

namespace Sys2Proof.Machine

open Sys2Proof.Safety

/-! ## The groups of fields -/

theorem tablesKept_of_tx {s t : State} (h : t.sansTx = s.sansTx) : tablesKept s t :=
  ⟨State.settings_of_tx h, State.standIn_of_tx h, State.slots_of_tx h, State.lanes_of_tx h⟩

theorem workKept_of_tx {s t : State} (h : t.sansTx = s.sansTx) : workKept s t :=
  ⟨State.exchanges_of_tx h, State.log_of_tx h, State.engine_of_tx h⟩

theorem chainKept_of_tx {s t : State} (h : t.sansTx = s.sansTx) : chainKept s t :=
  ⟨State.sendQueue_of_tx h, State.reassembly_of_tx h, State.answerQueue_of_tx h, State.monitor_of_tx h⟩

theorem storeKept_of_tx {s t : State} (h : t.sansTx = s.sansTx) : storeKept s t :=
  ⟨State.store_of_tx h, State.persist_of_tx h⟩

theorem historyKept_of_tx {s t : State} (h : t.sansTx = s.sansTx) : historyKept s t :=
  ⟨State.scrub_of_tx h, State.upsets_of_tx h, State.events_of_tx h, State.device_of_tx h⟩

theorem clocksKept_of_tx {s t : State} (h : t.sansTx = s.sansTx) : clocksKept s t :=
  ⟨State.phase_of_tx h, State.startKind_of_tx h, State.clock_of_tx h, State.servingSince_of_tx h, State.epoch_of_tx h,
    State.pending_of_tx h⟩

theorem tablesKept_of_events {s t : State} (h : t.sansEvents = s.sansEvents) : tablesKept s t :=
  ⟨State.settings_of_events h, State.standIn_of_events h, State.slots_of_events h, State.lanes_of_events h⟩

theorem workKept_of_lanes {s t : State} (h : t.sansLanes = s.sansLanes) : workKept s t :=
  ⟨State.exchanges_of_lanes h, State.log_of_lanes h, State.engine_of_lanes h⟩

theorem chainKept_of_lanes {s t : State} (h : t.sansLanes = s.sansLanes) : chainKept s t :=
  ⟨State.sendQueue_of_lanes h, State.reassembly_of_lanes h, State.answerQueue_of_lanes h, State.monitor_of_lanes h⟩

theorem storeKept_of_events {s t : State} (h : t.sansEvents = s.sansEvents) : storeKept s t :=
  ⟨State.store_of_events h, State.persist_of_events h⟩

theorem clocksKept_of_lanes {s t : State} (h : t.sansLanes = s.sansLanes) : clocksKept s t :=
  ⟨State.phase_of_lanes h, State.startKind_of_lanes h, State.clock_of_lanes h, State.servingSince_of_lanes h,
    State.epoch_of_lanes h, State.pending_of_lanes h⟩

theorem standingTables_of_lanes {s t : State} (h : t.sansLanes = s.sansLanes) : standingTables s t :=
  ⟨State.settings_of_lanes h, State.standIn_of_lanes h, State.slots_of_lanes h⟩

/-! ## The rows that hand over a frame -/

theorem exec_of_controlOf {c : Instr} {p : Port} {f : EthFrame} (h : controlOf c = some (p, f)) (s : State) :
    exec c s = .next (s.receiveFrame p f) := by
  unfold controlOf at h
  split at h <;> cases h <;> rfl

theorem exec_of_frameOf {c : Instr} {p : Port} {f : EthFrame} (h : frameOf c = some (p, f)) (s : State) :
    exec c s = .next (s.receiveFrame p f) := by
  unfold frameOf at h
  split at h
  case h_11 => exact exec_of_controlOf h s
  all_goals cases h; rfl

theorem exec_frameReceived (p : Port) (f : EthFrame) (s : State) :
    exec (.frameReceived p f) s = .next (s.receiveFrame p f) := rfl

theorem exec_laneRow (k : LaneKind) (f : EthFrame) (s : State) : exec (laneRow k f) s = .next (s.receiveFrame .s f) := by
  cases k <;> rfl

/-- Settles O12: the frame passes the MAC and finds the part STARTING. -/
theorem startingDropsFrames : Obligations.StartingDropsFrames := by
  intro c p f s row starting takes
  have notMac : f.etype ≠ Config.macControlType := of_decide_eq_true (Bool.and_eq_true_iff.mp takes).2
  rw [exec_of_frameOf row]
  simp [State.receiveFrame, notMac, takes, starting, countedIn]

/-! ## The Frame Sorter (R2, R3) -/

/-- What becomes of a frame of a class (R2). -/
def State.sortAs (s : State) (p : Port) (f : EthFrame) : FrameClass → State
  | .lane => s.takeLaneFrame f
  | .envelope => s.takeEnvelope f
  | .control => s.takeControl p f
  | .misplaced => s.countMalformed p
  | .other => s.bridge p f

theorem State.receiveFrame_of_classify {s : State} {p : Port} {f : EthFrame} {k : FrameClass} (h : taken s p f)
    (is : s.classify p f = k) : s.receiveFrame p f = (countedIn s p).sortAs p f k := by
  subst is
  rw [State.receiveFrame_of_taken h, State.sort, countedIn, State.classify_countPort]
  cases s.classify p f <;> rfl

theorem State.classify_lane {s : State} {f : EthFrame} (h : f.etype = Config.laneType) : s.classify .s f = .lane := by
  simp [State.classify, h]

theorem State.classify_envelope {s : State} {f : EthFrame} (h : f.etype = Config.chainType) :
    s.classify .c f = .envelope := by
  have notLane : Config.chainType ≠ Config.laneType := by decide
  simp [State.classify, h, notLane]

theorem State.classify_wrongPort {s : State} {p : Port} {f : EthFrame}
    (h : p = .s ∧ f.etype = Config.chainType ∨ p = .c ∧ f.etype = Config.laneType) : s.classify p f = .misplaced := by
  have notLane : Config.chainType ≠ Config.laneType := by decide
  obtain ⟨rfl, etype⟩ | ⟨rfl, etype⟩ := h
  · simp [State.classify, etype, notLane]
  · simp [State.classify, etype]

theorem State.classify_ownOther {s : State} {p : Port} {f : EthFrame} (lane : f.etype ≠ Config.laneType)
    (chain : f.etype ≠ Config.chainType) (control : f.etype ≠ Config.controlType) (own : f.dst = s.settings.station p) :
    s.classify p f = .misplaced := by
  simp [State.classify, lane, chain, control, own]

theorem State.classify_other {s : State} {p : Port} {f : EthFrame} (lane : f.etype ≠ Config.laneType)
    (chain : f.etype ≠ Config.chainType) (other : f.dst ≠ s.settings.station p) : s.classify p f = .other := by
  simp [State.classify, lane, chain, other]

theorem State.receiveLane {s : State} {f : EthFrame} (h : taken s .s f) (etype : f.etype = Config.laneType) :
    s.receiveFrame .s f = (countedIn s .s).takeLaneFrame f :=
  State.receiveFrame_of_classify h (State.classify_lane etype)

theorem State.receiveEnvelope {s : State} {f : EthFrame} (h : taken s .c f) (etype : f.etype = Config.chainType) :
    s.receiveFrame .c f = (countedIn s .c).takeEnvelope f :=
  State.receiveFrame_of_classify h (State.classify_envelope etype)

/-- A bridged frame fits the C-port by its length, and the S-port because the C-port took it. -/
theorem fitsPort_iff (f : EthFrame) (p : Port) : fitsPort f p = true ↔ 14 + f.payload.length + 4 ≤ Config.frameMax p := by
  simp [fitsPort]

theorem State.handBridged_of_fits {s : State} {p : Port} {f : EthFrame}
    (h : fitsPort f p = true ∨ (s.port p).carrier = false ∨ Config.orderCapacity ≤ (s.port p).order.length) :
    s.handBridged p f = s.handFrame p (.bridged f) := if_pos h

theorem State.handBridged_of_long {s : State} {p : Port} {f : EthFrame}
    (h : ¬ (fitsPort f p = true ∨ (s.port p).carrier = false ∨ Config.orderCapacity ≤ (s.port p).order.length)) :
    s.handBridged p f = s := if_neg h

/-- Every frame that a port takes fits the S-port (R186). -/
theorem fitsPort_s_of_taken {s : State} {p : Port} {f : EthFrame} (h : taken s p f) : fitsPort f .s = true := by
  have fits : fitsPort f p = true := (Bool.and_eq_true_iff.mp (Bool.and_eq_true_iff.mp h.2).1).2
  rw [fitsPort_iff] at fits ⊢
  refine fits.trans ?_
  cases p <;> decide

/-- Settles O13: by the class that the Frame Sorter gives the frame. -/
theorem sorterBridgesOthers : Obligations.SorterBridgesOthers := by
  intro p f s htaken
  refine ⟨fun wrong => ?_, fun lane chain control own => ?_, fun lane chain other => ?_⟩
  · rw [exec_frameReceived, State.receiveFrame_of_classify htaken (State.classify_wrongPort wrong)]
    rfl
  · rw [exec_frameReceived, State.receiveFrame_of_classify htaken (State.classify_ownOther lane chain control own)]
    rfl
  · rw [exec_frameReceived, State.receiveFrame_of_classify htaken (State.classify_other lane chain other)]
    unfold State.sortAs
    have settings : (countedIn s p).settings = s.settings := rfl
    have port : (countedIn s p).port p.opposite = s.port p.opposite := State.port_countPort_opposite s p _
    refine ⟨fun off => ?_, fun on u hu => ?_⟩
    · simp [State.bridge, settings, off]
    · have bridged : (countedIn s p).bridge p f = u.handBridged p.opposite f := by
        simp [State.bridge, settings, on, hu]
      have opposite : u.port p.opposite = s.port p.opposite := by
        rw [hu, State.port_countPort_opposite, port]
      dsimp only
      rw [bridged]
      refine ⟨fun short => ?_, fun hs long carrier room => ?_⟩
      · rw [State.handBridged_of_fits]
        rw [opposite]
        cases p with
        | s => exact (short rfl).imp (fun h => (fitsPort_iff f .c).mpr h) id
        | c => exact .inl (fitsPort_s_of_taken htaken)
      · subst hs
        rw [State.handBridged_of_long]
        rw [opposite]
        have misfit : ¬ fitsPort f .c = true := fun h => absurd ((fitsPort_iff f .c).mp h) (by simp [Config.frameMax]; omega)
        have short : ¬ Config.orderCapacity ≤ (s.port .c).order.length := Nat.not_le.mpr room
        exact not_or.mpr ⟨misfit, not_or.mpr ⟨by simp [Port.opposite, carrier], short⟩⟩

/-! ## Lane frames and envelopes that go no further (R6, R7, R104) -/

/-- Settles O16: what the outer checks and the lane resolution make of the frame. -/
theorem unresolvedFrames : Obligations.UnresolvedFrames := by
  intro c f s
  refine ⟨fun row htaken etype => ?_, fun row htaken etype bad => ?_⟩
  · rw [exec_of_frameOf row, State.receiveLane htaken etype]
    refine ⟨fun short => ?_, fun till xchg bad => ?_, fun g good unresolved => ?_⟩
    · simp only [State.takeLaneFrame, short]
    · simp only [State.takeLaneFrame, bad, State.refuseUnresolved]
    · have resolve : (countedIn s .s).resolve g.till = s.resolve g.till := rfl
      simp only [State.takeLaneFrame, good, resolve, unresolved, State.refuseUnresolved]
  · rw [exec_of_frameOf row, State.receiveEnvelope htaken etype]
    simp only [State.takeEnvelope, bad]

/-! ## Envelopes (R105, R109 to R111) -/

theorem exec_answerRow {c : Instr} {f : EthFrame} (h : c = .answerEnvelope f ∨ c = .reversalAck f) (s : State) :
    exec c s = .next (s.receiveFrame .c f) := by
  obtain rfl | rfl := h <;> rfl

theorem State.takeWhole_of_answer {s : State} {e : Envelope} (h : e.kind ≠ .probeEcho) : s.takeWhole e = s.offerAnswer e := by
  unfold State.takeWhole
  split
  next probe => exact absurd probe h
  next => rfl

theorem State.takeEnvelope_whole {s : State} {f : EthFrame} {r : SegmentRead} (read : readEnvelope f = some r)
    (one : r.count = 1) : s.takeEnvelope f = s.takeWhole r.env := by
  simp only [State.takeEnvelope, read, if_pos one]

/-- Settles O17: the envelope is offered to the Answer Queue. -/
theorem wholeAnswerOffered : Obligations.WholeAnswerOffered := by
  intro c f r s row htaken etype read one kind
  have queue : (countedIn s .c).answerQueue = s.answerQueue := rfl
  rw [exec_answerRow row, State.receiveEnvelope htaken etype, State.takeEnvelope_whole read one,
    State.takeWhole_of_answer kind, State.offerAnswer, queue]
  refine ⟨fun room => ?_, fun full => ?_⟩
  · exact congrArg _ (if_pos room)
  · exact congrArg _ (if_neg (Nat.not_lt.mpr full))

/-- The second segment of an envelope of two never belongs to a PROBE-ECHO (R104). -/
theorem readEnvelope_two {f : EthFrame} {r : SegmentRead} (read : readEnvelope f = some r) (two : r.count = 2) :
    r.env.kind ≠ .probeEcho := by
  unfold readEnvelope at read
  split at read
  · exact absurd read (by simp)
  dsimp only at read
  split at read
  swap
  · exact absurd read (by simp)
  split at read
  swap
  · exact absurd read (by simp)
  split at read
  swap
  · exact absurd read (by simp)
  split at read
  next suits =>
    cases read
    dsimp only at two ⊢
    subst two
    unfold segmentSuits at suits
    split at suits
    · exact absurd suits (by simp)
    · simp only [if_neg (show ¬ (2 : Nat) = 1 by omega), if_pos, Bool.and_eq_true] at suits
      exact bne_iff_ne.mp suits.1.2
  · exact absurd read (by simp)

theorem State.takeEnvelope_first {s : State} {f : EthFrame} {r : SegmentRead} (read : readEnvelope f = some r)
    (two : r.count = 2) (first : r.index = 1) : s.takeEnvelope f = s.firstSegment r := by
  simp [State.takeEnvelope, read, two, first]

theorem State.takeEnvelope_second {s : State} {f : EthFrame} {r : SegmentRead} (read : readEnvelope f = some r)
    (two : r.count = 2) (second : r.index = 2) : s.takeEnvelope f = s.secondSegment r := by
  simp [State.takeEnvelope, read, two, second]

theorem State.matchingBuffer_kind {s : State} {e : Envelope} {b : BufferId} {h : HeldSegment}
    (found : s.matchingBuffer e = some (b, h)) : h.env.kind = e.kind := by
  obtain ⟨b', _, hb⟩ := List.exists_of_findSome?_eq_some found
  cases hr : s.reassembly[b'] with
  | none => rw [hr] at hb; exact absurd hb (by simp)
  | some h' =>
    rw [hr] at hb
    dsimp only at hb
    split at hb
    next same => cases hb; exact same.2
    next => exact absurd hb (by simp)

/-- Settles O18: by the buffer that holds the other segment, and the limit of a held one. -/
theorem segmentsReassembled : Obligations.SegmentsReassembled := by
  refine ⟨fun c f r s row htaken etype read two => ?_, fun b s => ?_⟩
  · have buffers : (countedIn s .c).matchingBuffer r.env = s.matchingBuffer r.env := rfl
    have freeOne : (countedIn s .c).freeBuffer = s.freeBuffer := rfl
    have limit : (countedIn s .c).after (countedIn s .c).settings.reassemblyLimit = s.after s.settings.reassemblyLimit := rfl
    rw [exec_answerRow row, State.receiveEnvelope htaken etype]
    refine ⟨fun first => ?_, fun second => ?_⟩
    · rw [State.takeEnvelope_first read two first, State.firstSegment, buffers, freeOne]
      refine ⟨fun b h held => ?_, fun b none free => ?_, fun none full => ?_⟩
      · simp only [held, limit]
      · simp only [none, free, limit]
      · simp only [none, full]
    · rw [State.takeEnvelope_second read two second, State.secondSegment, buffers]
      refine ⟨fun none => ?_, fun b h held => ⟨fun agrees => ?_, fun differs => ?_⟩⟩
      · simp only [none]
      · have kind : h.env.kind ≠ .probeEcho := State.matchingBuffer_kind held ▸ readEnvelope_two read two
        simp only [held, agrees, if_true]
        rw [State.takeWhole_of_answer (e := { h.env with body := h.env.body ++ r.env.body }) kind]
      · simp [held, differs]
  · have ran : exec (.reassemblyLimit b) s = .next (s.reassemblyLimit b) := rfl
    rw [ran, State.reassemblyLimit]
    refine ⟨fun h held serving reached => ?_, fun none => ?_, fun h held early => ?_⟩
    · simp [held, State.due, serving, reached]
    · rw [none]
    · simp [held, State.due, Nat.not_le.mpr early]

/-! ## Probe echoes (R112 to R115) -/

theorem State.restartProbeTimer_of_serving {s : State} (carrier : (s.port .c).carrier = true) (serving : s.phase = .serving) :
    s.restartProbeTimer = s.setMonitor { s.monitor with timer := some (s.after s.settings.probeInterval) } :=
  if_pos ⟨carrier, serving⟩

theorem State.echoValid_iff (s : State) (e : Envelope) :
    s.echoValid e = true ↔ e.tag = Config.tag (s.controlKey .c) .probeIn e.covered ∧ e.seq.toNat / 4194304 = s.epoch ∧
      s.monitor.lastEcho.toNat % 4194304 < e.seq.toNat % 4194304 ∧
      e.seq.toNat % 4194304 ≤ s.monitor.lastProbe.toNat % 4194304 := by
  simp only [State.echoValid, Bool.and_eq_true, decide_eq_true_eq, and_assoc]
  rfl

/-- A monitor that is not DOWN takes a valid envelope quietly (R112). -/
theorem State.validEnvelope_of_live {s : State} (k : EnvelopeKind) (live : s.monitor.state ≠ .down) :
    s.validEnvelope k = (s.setMonitor { s.monitor with state := .up, missed := 0 }).restartProbeTimer := by
  unfold State.validEnvelope
  cases h : s.monitor.state with
  | down => exact absurd h live
  | up => rfl
  | suspect => rfl

/-- A monitor that is DOWN broadcasts its rise and raises CHAIN-UP (R115). -/
theorem State.validEnvelope_of_down {s : State} (k : EnvelopeKind) (down : s.monitor.state = .down) :
    s.validEnvelope k = (((s.setMonitor { s.monitor with state := .up, missed := 0 }).broadcastTills
      (.chainState .up)).raise (.chainUp k)).restartProbeTimer := by
  unfold State.validEnvelope
  rw [down]

/-- Settles O19: by whether the echo is valid, and by the state the monitor was in. -/
theorem probeEchoTaken : Obligations.ProbeEchoTaken := by
  intro f r s htaken etype read one kind
  have ran : exec (.probeEcho f) s = .next (s.receiveFrame .c f) := rfl
  have whole : (countedIn s .c).takeWhole r.env = (countedIn s .c).takeEcho r.env := by
    unfold State.takeWhole
    rw [kind]
  have same : (countedIn s .c).echoValid r.env = s.echoValid r.env := rfl
  have serving : s.phase = .serving := htaken.1
  have carrier : ((countedIn s .c).port .c).carrier = true :=
    (Bool.and_eq_true_iff.mp (Bool.and_eq_true_iff.mp htaken.2).1).1
  rw [ran, State.receiveEnvelope htaken etype, State.takeEnvelope_whole read one, whole, State.takeEcho, same,
    ← State.echoValid_iff]
  refine ⟨fun valid => ?_, fun invalid => ?_⟩
  · rw [if_pos valid]
    refine ⟨fun live => ?_, fun down => ?_⟩
    · refine congrArg _ ((State.validEnvelope_of_live .probeEcho ?_).trans
        (State.restartProbeTimer_of_serving carrier serving))
      exact live
    · refine congrArg _ (State.validEnvelope_of_down .probeEcho ?_)
      exact down
  · rw [if_neg invalid]

end Sys2Proof.Machine
end

section
/-! SUPPORT. The door of a lane (R18 to R22), the control rows (R162 to R165), HOLD and RELEASE with the grant test
(R148 to R152), RESTART (R170) and SET-LANE (R32). -/

namespace Sys2Proof.Machine

open Sys2Proof.Safety

/-! ## The door (R18 to R22) -/

theorem identityPasses_iff (c : LaneConfig) (f : LaneFrame) :
    identityPasses c f.kind f.src = true ↔ stationAgrees c f := by
  unfold identityPasses stationAgrees
  cases c.station with
  | none => simp
  | some a => simp

theorem identityPasses_eq_false_iff (c : LaneConfig) (f : LaneFrame) :
    identityPasses c f.kind f.src = false ↔ ¬ stationAgrees c f := by
  rw [← identityPasses_iff, Bool.not_eq_true]

/-- A state that takes a kind of frame has no reason to refuse it (R21). -/
theorem doorReason_of_takes {st : LaneState} {k : LaneKind} (h : stateTakes st k) : doorReason st k = none := by
  cases st with
  | unused => rfl
  | ready => rfl
  | test => rfl
  | exhausted => exact if_neg h
  | suspended c => exact if_pos h
  | faulted c => exact absurd h (by simp [stateTakes])

/-- The checks that follow the check of FAULTED (R18, R22). -/
theorem doorCheck_of_live {r : LaneRecord} {f : LaneFrame} (h : ∀ c, r.config.state ≠ .faulted c) :
    doorCheck r f = if identityPasses r.config f.kind f.src = false then some .identity
      else if (doorReason r.config.state f.kind).isSome then doorReason r.config.state f.kind
      else if r.mailbox.isSome then some .laneBusy
      else if f.kind = .pay ∧ r.openPayment.isSome then some .laneBusy
      else if r.lastAccepted = some f.xchg then some .duplicate
      else none := by
  unfold doorCheck
  split
  next c hc => exact absurd hc (h c)
  next => cases doorReason r.config.state f.kind <;> rfl

theorem doorCheck_of_faulted {r : LaneRecord} {f : LaneFrame} {c : FaultCause} (h : r.config.state = .faulted c) :
    doorCheck r f = some .faulted := by
  unfold doorCheck
  rw [h]

theorem State.acceptFrame_of_refused {s : State} {l : LaneId} {f : LaneFrame} {reason : TillReason}
    (h : doorCheck (s.lane l) f = some reason) : s.acceptFrame l f = s.refuseAtHand l f reason := by
  unfold State.acceptFrame
  rw [h]

theorem State.acceptFrame_of_passed {s : State} {l : LaneId} {f : LaneFrame} (h : doorCheck (s.lane l) f = none) :
    s.acceptFrame l f = s.modLane l (fun r => { r with mailbox := some f }) := by
  unfold State.acceptFrame
  rw [h]

/-- Settles O15: check by check, in the order of the door. -/
theorem laneFrameAtTheDoor : Obligations.LaneFrameAtTheDoor := by
  intro k f g l s refused htaken etype good resolved hrefused
  have resolve : (countedIn s .s).resolve g.till = s.resolve g.till := rfl
  have lane : (countedIn s .s).lane l = s.lane l := rfl
  have ran : exec (laneRow k f) s = .next ((countedIn s .s).acceptFrame l g) := by
    rw [exec_laneRow, State.receiveLane htaken etype]
    simp only [State.takeLaneFrame, good, resolve, resolved]
  have refuses : ∀ reason, doorCheck (s.lane l) g = some reason →
      exec (laneRow k f) s = .next (refused reason) := by
    intro reason check
    rw [ran, State.acceptFrame_of_refused (lane.symm ▸ check), hrefused]
    rfl
  refine ⟨fun ⟨c, hc⟩ => refuses _ (doorCheck_of_faulted hc), fun live => ?_⟩
  have check := doorCheck_of_live (f := g) live
  refine ⟨fun stranger => ?_, fun agrees => ?_⟩
  · refine refuses _ (check.trans (if_pos ?_))
    rwa [identityPasses_eq_false_iff]
  rw [if_neg (by rw [identityPasses_eq_false_iff]; exact not_not_intro agrees)] at check
  refine ⟨fun exhausted pay => ?_, fun c suspended other => ?_, fun takes => ?_⟩
  · refine refuses _ (check.trans ?_)
    simp [exhausted, pay, doorReason]
  · refine refuses _ (check.trans ?_)
    simp [suspended, other, doorReason]
  rw [doorReason_of_takes takes, if_neg (by simp)] at check
  refine ⟨fun full => ?_, fun empty pay opened => ?_, fun empty free => ?_⟩
  · refine refuses _ (check.trans (if_pos ?_))
    rwa [Option.isSome_iff_ne_none]
  · refine refuses _ (check.trans ?_)
    rw [if_neg (by simp [empty]), if_pos ⟨pay, Option.isSome_iff_ne_none.mpr opened⟩]
  rw [if_neg (by simp [empty]), if_neg (by rintro ⟨pay, opened⟩; simp [free pay] at opened)] at check
  refine ⟨fun again => refuses _ (check.trans (if_pos again)), fun new => ?_⟩
  rw [if_neg new] at check
  rw [ran, State.acceptFrame_of_passed (lane.symm ▸ check)]

/-! ## What acceptance writes (R140, R163, R174) -/

/-- Acceptance writes the port's number, notice address and idle timer. -/
theorem heard_ctl (s : State) (p : Port) (g : ControlFrame) :
    (heard s p g).ctl p = { s.ctl p with
      lastNumber := g.number.toNat
      noticeAddress := some g.src
      changeSet := { (s.ctl p).changeSet with
        idle := if (s.ctl p).changeSet.entries = [] then (s.ctl p).changeSet.idle
          else some (s.after s.settings.idleLimit) } } := by
  have ctl : (countedIn s p).ctl p = s.ctl p := rfl
  unfold heard State.accept
  dsimp only
  rw [ctl, State.ctl_setCtl_same]
  by_cases h : (s.ctl p).changeSet.entries = []
  · rw [if_pos h, if_pos h, State.ctl_setCtl_same]
  · rw [if_neg h, if_neg h, State.restartIdle, State.ctl_setCtl_same, State.ctl_setCtl_same]
    rfl

theorem heard_ctl_opposite (s : State) (p : Port) (g : ControlFrame) :
    (heard s p g).ctl p.opposite = s.ctl p.opposite := by
  have ctl : (countedIn s p).ctl p.opposite = s.ctl p.opposite := rfl
  unfold heard State.accept
  dsimp only
  split
  · rw [State.ctl_setCtl_opposite, ctl]
  · rw [State.restartIdle, State.ctl_setCtl_opposite, State.ctl_setCtl_opposite, ctl]

/-- Acceptance counts the frame and writes the control states, nothing else. -/
theorem heard_eq (s : State) (p : Port) (g : ControlFrame) :
    heard s p g = { countedIn s p with control := (heard s p g).control } := by
  unfold heard State.accept
  dsimp only
  split <;> rfl

/-! ## Numbers, notice addresses and change sets (R137, R163, R174) -/

/-- The ports keep their numbers, notice addresses and change sets. -/
def setsKept (s t : State) : Prop :=
  ∀ q, (t.ctl q).lastNumber = (s.ctl q).lastNumber ∧ (t.ctl q).noticeAddress = (s.ctl q).noticeAddress ∧
    (t.ctl q).changeSet = (s.ctl q).changeSet

theorem setsKept.of_control {s t : State} (h : t.control = s.control) : setsKept s t := by
  intro q
  rw [State.ctl, h]
  exact ⟨rfl, rfl, rfl⟩

theorem setsKept.refl (s : State) : setsKept s s := .of_control rfl

theorem setsKept.trans {s t u : State} (a : setsKept s t) (b : setsKept t u) : setsKept s u := by
  intro q
  obtain ⟨number, address, set⟩ := a q
  obtain ⟨number', address', set'⟩ := b q
  exact ⟨number'.trans number, address'.trans address, set'.trans set⟩

theorem setsKept.foldl {α : Type} (op : State → α → State) (h : ∀ s a, setsKept s (op s a)) (xs : List α) (s : State) :
    setsKept s (xs.foldl op s) := by
  induction xs generalizing s with
  | nil => exact .refl s
  | cons a xs ih => exact (h s a).trans (ih _)

theorem setsKept.of_tables {s t : State} (h : t.sansTables = s.sansTables) : setsKept s t := by
  have k : ∀ u : State, u.sansTables.control = u.sansTx.control := fun _ => rfl
  have same : t.sansTx.control = s.sansTx.control := by rw [← k, h, k]
  intro q
  have ctl : t.sansTx.ctl q = s.sansTx.ctl q := by rw [State.ctl, State.ctl, same]
  rw [State.ctl_sansTx, State.ctl_sansTx] at ctl
  simp only [ControlState.mk.injEq] at ctl
  obtain ⟨number, address, set, _, _⟩ := ctl
  exact ⟨number, address, set⟩

theorem setsKept.of_lanes {s t : State} (h : t.sansLanes = s.sansLanes) : setsKept s t :=
  .of_tables (congrArg eraseTables h)

theorem setsKept.of_tx {s t : State} (h : t.sansTx = s.sansTx) : setsKept s t := .of_lanes (State.sansLanes_of_tx h)

theorem setsKept.setCtl (s : State) (p : Port) (x : ControlState) (number : x.lastNumber = (s.ctl p).lastNumber)
    (address : x.noticeAddress = (s.ctl p).noticeAddress) (set : x.changeSet = (s.ctl p).changeSet) :
    setsKept s (s.setCtl p x) := by
  intro q
  rcases Port.eq_or_opposite p q with rfl | rfl
  · rw [State.ctl_setCtl_same]; exact ⟨number, address, set⟩
  · rw [State.ctl_setCtl_opposite]; exact ⟨rfl, rfl, rfl⟩

theorem setsKept.grantHold (s : State) (p : Port) : setsKept s (s.grantHold p) := by
  unfold State.grantHold
  split
  · split
    next r _ _ =>
      exact (setsKept.setCtl s p { s.ctl p with hold := .granted r (s.after s.settings.holdLimit) } rfl rfl rfl).trans
        (.of_tx (State.sansTx_reply _ _ _ _ _ _ _ _ _))
    · exact .refl s
  · exact .refl s
  · exact .refl s

theorem setsKept.grantHolds (s : State) : setsKept s s.grantHolds := (setsKept.grantHold s .s).trans (.grantHold _ .c)

theorem setsKept.askClear (s : State) (t : AskTable) (first n : Nat) : setsKept s (s.askClear t first n) := by
  have group : ∀ (s : State) k, setsKept s (s.clearGroup k) := by
    intro s k
    unfold State.clearGroup
    split
    · exact .of_control rfl
    · split
      · exact .of_control rfl
      · split
        · exact .of_control rfl
        · split <;> exact .of_control rfl
  have event : ∀ (s : State) k, setsKept s (s.clearEvent k) := by
    intro s k
    unfold State.clearEvent
    split <;> exact .of_control rfl
  have fault : ∀ (s : State) k, setsKept s (s.clearFault k) := by
    intro s k
    unfold State.clearFault
    split <;> exact .of_control rfl
  unfold State.askClear
  dsimp only
  split
  · exact .foldl _ group _ s
  · exact .foldl _ event _ s
  · exact (setsKept.foldl _ fault _ s).trans (.of_control rfl)
  · exact .refl s

theorem setsKept.ask (s : State) (t : AskTable) (first count : Nat) (clear : Bool) :
    setsKept s (s.ask t first count clear).1 := by
  unfold State.ask
  split
  · exact .refl s
  · split
    · exact .refl s
    · dsimp only
      split
      · exact .askClear s t first _
      · exact .refl s

theorem State.sansLanes_setReady (s : State) (l : LaneId) : (s.setReady l).1.sansLanes = s.sansLanes := by
  unfold State.setReady
  split
  · split
    · dsimp only
      rw [State.sansLanes_foundedAdvanceTest, State.sansLanes_bringReady]
    · rfl
  · rfl
  · dsimp only
    rw [State.sansLanes_bringReady]
  · dsimp only
    rw [State.sansLanes_bringReady]
  · rfl
  · rfl

theorem State.sansLanes_setSuspend (s : State) (l : LaneId) : (s.setSuspend l).1.sansLanes = s.sansLanes := by
  unfold State.setSuspend
  split
  all_goals dsimp only
  all_goals rw [State.sansLanes_changeState]

theorem State.sansLanes_setTest (s : State) (l : LaneId) : (s.setTest l).1.sansLanes = s.sansLanes := by
  unfold State.setTest
  split
  · dsimp only
    rw [State.sansLanes_changeState]
  · rfl
  · rfl

theorem State.sansLanes_setUnused (s : State) (l : LaneId) : (s.setUnused l).1.sansLanes = s.sansLanes := by
  unfold State.setUnused
  split
  · rfl
  · split
    · dsimp only
      rw [State.sansLanes_changeState, State.sansLanes_modLane]
    · rfl

theorem State.sansLanes_clearVolatile (s : State) (l : LaneId) : (s.clearVolatile l).1.sansLanes = s.sansLanes := by
  unfold State.clearVolatile
  split
  · dsimp only
    rw [State.sansLanes_modLane]
  · rfl

theorem State.sansLanes_setLaneAs (s : State) (l : LaneId) (a : LaneAction) :
    (s.setLaneAs l a).1.sansLanes = s.sansLanes := by
  cases a with
  | ready => exact s.sansLanes_setReady l
  | suspend => exact s.sansLanes_setSuspend l
  | test => exact s.sansLanes_setTest l
  | unused => exact s.sansLanes_setUnused l
  | clearVolatile => exact s.sansLanes_clearVolatile l

theorem setsKept.setLaneRequest (s : State) (lane : Nat) (a : LaneAction) : setsKept s (s.setLaneRequest lane a).1 := by
  unfold State.setLaneRequest
  split
  · exact .of_lanes (State.sansLanes_setLaneAs s _ a)
  · exact .refl s

theorem State.rewrittenBy_control (s : State) (g : CommitGroup) : (s.rewrittenBy g).control = s.control := by
  have fold : ∀ {α : Type} (pos : α → Position) (xs : List α) (t : State),
      (xs.foldl (fun t x => t.rewritten (pos x)) t).control = t.control := by
    intro α pos xs
    induction xs with
    | nil => exact fun t => rfl
    | cons x xs ih => exact fun t => ih _
  unfold State.rewrittenBy
  dsimp only
  split
  · exact (fold _ _ _).trans (fold _ _ _)
  · exact (fold _ _ _).trans (fold _ _ _)

/-- COMMIT empties its port's set and leaves the other (R146). -/
theorem setsKept.applySet (s : State) (p : Port) (es : List StagedEntry) :
    ∃ t, setsKept s t ∧ s.applySet p es = t.emptySet p := by
  refine ⟨_, ?_, rfl⟩
  have tables : setsKept s ((s.applyTables es).rewrittenBy (commitGroup s es)) :=
    .of_control (State.rewrittenBy_control _ _)
  have dropped := tables.trans (.foldl State.dropCeilings (fun s l => .of_control rfl) (resetLanes s es) _)
  refine ((dropped.trans ?_).trans (.foldl _ (fun s l => .of_lanes (State.sansLanes_requestAdvance s l _))
    (resetLanes s es) _)).trans (.foldl _ (fun s l => .of_lanes (State.sansLanes_foundedAdvanceTest s l))
    (laneEntries es) _)
  unfold State.enqueue
  split
  · exact .of_lanes (State.sansLanes_loseGroup _ _ _)
  · exact .of_lanes (congrArg eraseLanes (State.sansStore_setWaiting _ _))

/-- What a request that was carried out may have made of its port's set: nothing, an empty one, or one whose idle timer has
just started (R137, R140). -/
structure Carries (p : Port) (s t : State) : Prop where
  number : ∀ q, (t.ctl q).lastNumber = (s.ctl q).lastNumber
  address : ∀ q, (t.ctl q).noticeAddress = (s.ctl q).noticeAddress
  other : (t.ctl p.opposite).changeSet = (s.ctl p.opposite).changeSet
  own : (t.ctl p).changeSet = (s.ctl p).changeSet ∨ (t.ctl p).changeSet.entries = [] ∨
    (t.ctl p).changeSet.idle = some (s.after s.settings.idleLimit)

theorem Carries.of_kept {p : Port} {s t : State} (h : setsKept s t) : Carries p s t :=
  ⟨fun q => (h q).1, fun q => (h q).2.1, (h _).2.2, .inl (h p).2.2⟩

/-- What follows a request and keeps the sets changes nothing of this. -/
theorem Carries.then {p : Port} {s t u : State} (a : Carries p s t) (b : setsKept t u) : Carries p s u where
  number q := (b q).1.trans (a.number q)
  address q := (b q).2.1.trans (a.address q)
  other := (b _).2.2.trans a.other
  own := by rw [(b p).2.2]; exact a.own

theorem Carries.emptySet {p : Port} {s t : State} (h : setsKept s t) : Carries p s (t.emptySet p) where
  number q := by
    rcases Port.eq_or_opposite p q with rfl | rfl
    · rw [State.emptySet, State.ctl_setCtl_same]; exact (h _).1
    · rw [State.emptySet, State.ctl_setCtl_opposite]; exact (h _).1
  address q := by
    rcases Port.eq_or_opposite p q with rfl | rfl
    · rw [State.emptySet, State.ctl_setCtl_same]; exact (h _).2.1
    · rw [State.emptySet, State.ctl_setCtl_opposite]; exact (h _).2.1
  other := by rw [State.emptySet, State.ctl_setCtl_opposite]; exact (h _).2.2
  own := .inr (.inl (by rw [State.emptySet_changeSet]; rfl))

theorem Carries.staged (p : Port) (s : State) (c : ChangeSet) :
    Carries p s ((s.setCtl p { s.ctl p with changeSet := c }).restartIdle p) where
  number q := by
    rcases Port.eq_or_opposite p q with rfl | rfl
    · rw [State.restartIdle, State.ctl_setCtl_same, State.ctl_setCtl_same]
    · rw [State.restartIdle, State.ctl_setCtl_opposite, State.ctl_setCtl_opposite]
  address q := by
    rcases Port.eq_or_opposite p q with rfl | rfl
    · rw [State.restartIdle, State.ctl_setCtl_same, State.ctl_setCtl_same]
    · rw [State.restartIdle, State.ctl_setCtl_opposite, State.ctl_setCtl_opposite]
  other := by rw [State.restartIdle, State.ctl_setCtl_opposite, State.ctl_setCtl_opposite]
  own := .inr (.inr (by rw [State.restartIdle, State.ctl_setCtl_same]; rfl))

theorem Carries.carryOut (s : State) (p : Port) (g : ControlFrame) : Carries p s (s.carryOut p g).1 := by
  have still : Carries p s s := .of_kept (.refl s)
  unfold State.carryOut
  split
  · exact still
  · exact .of_kept (.ask s _ _ _ _)
  · unfold State.stageRequest
    dsimp only
    split
    · exact still
    · split
      · exact still
      · split
        · exact still
        · split
          · exact still
          · exact .staged p s _
  · unfold State.commitRequest
    dsimp only
    split
    · exact still
    · split
      · exact still
      · obtain ⟨t, kept, eq⟩ := setsKept.applySet s p (s.ctl p).changeSet.entries
        dsimp only
        rw [eq]
        exact .emptySet kept
  · exact .emptySet (.refl s)
  · unfold State.holdRequest
    dsimp only
    split
    · exact still
    · split
      · exact .of_kept (.setCtl s p _ rfl rfl rfl)
      · exact still
      · exact still
  · exact .of_kept (.setCtl s p _ rfl rfl rfl)
  · exact .of_kept (.setLaneRequest s _ _)
  · exact .of_kept (.setCtl s p _ rfl rfl rfl)

theorem Carries.replyCarried {p : Port} {s : State} {g : ControlFrame} {key : Key} {r : State × Carried}
    (h : Carries p s r.1) : Carries p s (State.replyCarried p g key r) := by
  have replied := h.then (.of_tx (State.sansTx_answer r.1 p g key r.2.answer r.2.restart))
  unfold State.replyCarried
  dsimp only
  split
  · exact replied.then (.grantHolds _)
  · exact replied

/-- Settles O22: the three refusals by their checks; an accepted request, whatever it is, by what carrying it out can do to the
sets. -/
theorem controlFramesRefused : Obligations.ControlFramesRefused := by
  refine ⟨fun c p f s row htaken etype own => ?_, fun c p f g s row haccepted => ?_⟩
  · have control : (countedIn s p).takeControl p f = s.receiveFrame p f :=
      (State.receiveFrame_of_classify htaken (State.classify_control etype own)).symm
    have key : (countedIn s p).controlKey p = s.controlKey p := rfl
    have last : ((countedIn s p).ctl p).lastNumber = (s.ctl p).lastNumber := rfl
    rw [exec_of_controlOf row, ← control]
    refine ⟨fun short => ?_, fun g read bad => ?_, fun g read tag stale => ?_⟩
    · simp only [State.takeControl, short]
    · simp only [State.takeControl, read, key, if_pos bad, refusalOf]
    · simp only [State.takeControl, read, key, last, if_neg (not_not_intro tag), if_pos stale, refusalOf]
  · refine ⟨heard_eq s p g, heard_ctl_opposite s p g, heard_ctl s p g, ?_⟩
    have carried := Carries.replyCarried (g := g) (key := s.controlKey p) (Carries.carryOut (heard s p g) p g)
    rw [exec_of_controlOf row, State.receiveFrame_of_accepted haccepted]
    refine ⟨_, rfl, ?_, ?_, fun opened => ?_, ?_, ?_, ?_⟩
    · rw [carried.number, heard_ctl]
    · rw [carried.address, heard_ctl]
    · have clock : (heard s p g).after (heard s p g).settings.idleLimit = s.after s.settings.idleLimit := by
        rw [heard_eq]; rfl
      rcases carried.own with same | empty | started
      · rw [same, heard_ctl] at opened ⊢
        exact if_neg opened
      · exact absurd empty opened
      · rw [started, clock]; rfl
    · rw [carried.number, heard_ctl_opposite]
    · rw [carried.address, heard_ctl_opposite]
    · rw [carried.other, heard_ctl_opposite]

/-! ## RESTART and unknown requests (R165, R170) -/

/-- Settles O33. -/
theorem restartAndUnknownRequests : Obligations.RestartAndUnknownRequests := by
  intro p f g s haccepted
  have restart : ((heard s p g).ctl p).restart = (s.ctl p).restart := by rw [heard_ctl]
  refine ⟨fun read => ?_, fun read => ?_⟩
  · have ran : exec (.restart p f) s = .next (s.receiveFrame p f) := rfl
    rw [ran, State.receiveFrame_of_accepted haccepted]
    simp [State.carryOut, read, State.replyCarried, State.awaitRestart, restart]
  · have ran : exec (.unknownRequest p f) s = .next (s.receiveFrame p f) := rfl
    rw [ran, State.receiveFrame_of_accepted haccepted]
    simp [State.carryOut, read, State.replyCarried, refusalOf]

/-! ## HOLD, RELEASE and the grant test (R148 to R152) -/

/-- Settles O28: a HOLD by its range and the hold that stands, a RELEASE in any case. -/
theorem holdRequestedAndReleased : Obligations.HoldRequestedAndReleased := by
  refine ⟨fun p f g low high s haccepted read => ?_, fun p f g s haccepted read => ?_⟩
  · have ran : exec (.hold p f) s = .next (State.replyCarried p g (s.controlKey p)
        (((heard s p g).holdRequest p g low high).1, ⟨((heard s p g).holdRequest p g low high).2, false,
          decide (((heard s p g).holdRequest p g low high).2.status = .pending)⟩)) := by
      have run : exec (.hold p f) s = .next (s.receiveFrame p f) := rfl
      rw [run, State.receiveFrame_of_accepted haccepted]
      simp only [State.carryOut, read]
    rw [ran]
    refine ⟨fun bad => ?_, fun top order => ?_⟩
    · simp [State.holdRequest, if_pos bad, State.replyCarried]
    · have good : ¬ (95 < high ∨ high < low) := by omega
      refine ⟨fun none => ?_, fun r pending => ?_, fun r limit granted => ?_⟩
      · simp [State.holdRequest, if_neg good, hold_heard, none, State.replyCarried]
      · simp [State.holdRequest, if_neg good, hold_heard, pending, State.replyCarried]
      · simp [State.holdRequest, if_neg good, hold_heard, granted, State.replyCarried]
  · have ran : exec (.release p f) s = .next (s.receiveFrame p f) := rfl
    rw [ran, State.receiveFrame_of_accepted haccepted]
    simp [State.carryOut, read, State.replyCarried, State.release]

theorem Hold.blocks_eq_false_iff (h : Hold) (r : HoldRequest) :
    h.blocks r = false ↔ ∀ q, h.range = some q → q.overlaps r = false := by
  cases h <;> simp [Hold.blocks, Hold.range]

theorem Hold.blocks_iff (h : Hold) (r : HoldRequest) :
    h.blocks r = true ↔ ∃ q, h.range = some q ∧ q.overlaps r = true := by
  cases h <;> simp [Hold.blocks, Hold.range]

/-- The grant test of a hold that is not PENDING does nothing (R149). -/
theorem State.grantHold_of_settled {s : State} {p : Port} (h : ∀ r, (s.ctl p).hold ≠ .pending r) : s.grantHold p = s := by
  unfold State.grantHold
  split
  next r hr => exact absurd hr (h r)
  · rfl
  · rfl

theorem State.grantHold_of_passed {s : State} {p : Port} {r : HoldRequest} (pending : (s.ctl p).hold = .pending r)
    (unused : s.jobUses r = false) (apart : (s.ctl p.opposite).hold.blocks r = false) :
    s.grantHold p = (s.setCtl p { s.ctl p with hold := .granted r (s.after s.settings.holdLimit) }).reply p r.source
      r.number 5 .granted (.hold true r.low r.high) (s.controlKey p) false := by
  unfold State.grantHold
  rw [pending]
  exact if_pos ⟨unused, apart⟩

theorem State.grantHold_of_failed {s : State} {p : Port} {r : HoldRequest} (pending : (s.ctl p).hold = .pending r)
    (fails : s.jobUses r = true ∨ (s.ctl p.opposite).hold.blocks r = true) : s.grantHold p = s := by
  unfold State.grantHold
  rw [pending]
  refine if_neg ?_
  rintro ⟨unused, apart⟩
  rcases fails with used | blocked
  · exact absurd (used.symm.trans unused) (by simp)
  · exact absurd (blocked.symm.trans apart) (by simp)

/-- The hold of the other port while one is granted. -/
theorem State.grantHold_opposite (s : State) (p : Port) :
    ((s.grantHold p).ctl p.opposite).hold = (s.ctl p.opposite).hold := by
  unfold State.grantHold
  split
  · split
    · rw [State.hold_of_tx (State.sansTx_reply _ _ _ _ _ _ _ _ _), State.ctl_setCtl_opposite]
    · rfl
  · rfl
  · rfl

/-- Only one port's hold is PENDING: the grant test is that port's. -/
theorem State.grantHolds_of_one {s : State} {p : Port} (other : ∀ q, (s.ctl p.opposite).hold ≠ .pending q) :
    s.grantHolds = s.grantHold p := by
  unfold State.grantHolds
  cases p with
  | s =>
    have still : ((s.grantHold .s).ctl .c).hold = (s.ctl .c).hold := State.grantHold_opposite s .s
    exact State.grantHold_of_settled (fun q => by rw [still]; exact other q)
  | c =>
    have first : s.grantHold .s = s := State.grantHold_of_settled other
    rw [first]

theorem exec_holdGrant (s : State) : exec .holdGrant s = .next s.grantHolds := rfl

/-- Settles O29: with one hold PENDING its own test decides; of two that overlap the S-port's is tested first. -/
theorem holdGrantTest : Obligations.HoldGrantTest := by
  refine ⟨fun p r s pending other => ?_, fun a b s first second unused overlap => ?_, fun s none => ?_⟩
  · rw [exec_holdGrant, State.grantHolds_of_one other]
    refine ⟨fun unused apart => ?_, fun fails => ?_⟩
    · refine congrArg _ (State.grantHold_of_passed pending unused ?_)
      rw [Hold.blocks_eq_false_iff, ← grantedRange_eq]
      exact apart
    · refine congrArg _ (State.grantHold_of_failed pending (fails.imp id fun blocked => ?_))
      rw [Hold.blocks_iff, ← grantedRange_eq]
      exact blocked
  · have granted := State.grantHold_of_passed first unused (by
      show (s.ctl .c).hold.blocks a = false
      rw [second]; rfl)
    have holdS : ((s.grantHold .s).ctl .s).hold = .granted a (s.after s.settings.holdLimit) := by
      rw [granted, State.hold_of_tx (State.sansTx_reply _ _ _ _ _ _ _ _ _), State.ctl_setCtl_same]
    have holdC : ((s.grantHold .s).ctl .c).hold = .pending b := (State.grantHold_opposite s .s).trans second
    have stays : s.grantHolds = s.grantHold .s := by
      refine State.grantHold_of_failed holdC (.inr ?_)
      show ((s.grantHold .s).ctl .s).hold.blocks b = true
      rw [holdS]
      exact overlap
    exact ⟨_, exec_holdGrant s, by rw [stays]; exact holdS, by rw [stays]; exact holdC⟩
  · rw [exec_holdGrant, State.grantHolds_of_one (p := .s) (fun q => none _ q)]
    exact congrArg _ (State.grantHold_of_settled (fun r => none .s r))

/-! ## Limits (R140, R152) -/

/-- Settles O30. -/
theorem holdAndSetLimits : Obligations.HoldAndSetLimits := by
  intro p s
  have holdLimit : exec (.holdLimit p) s = .next (s.holdLimit p) := rfl
  have idleLimit : exec (.changeSetIdleLimit p) s = .next (s.idleLimit p) := rfl
  rw [holdLimit, idleLimit]
  refine ⟨fun r limit granted reached => ?_, fun r limit granted early => ?_, fun other => ?_,
    fun time idle reached opened => ?_, fun time idle early => ?_, fun idle => ?_⟩
  · simp only [State.holdLimit, granted, if_pos reached, State.revoke, State.emptySet, State.ctl_setCtl_same,
      State.setCtl_setCtl]
  · simp only [State.holdLimit, granted, if_neg (Nat.not_le.mpr early)]
  · unfold State.holdLimit
    split
    next r limit granted => exact absurd granted (other r limit)
    · rfl
    · rfl
  · simp [State.idleLimit, idle, reached, opened, State.emptySet]
  · simp [State.idleLimit, idle, Nat.not_le.mpr early]
  · simp [State.idleLimit, idle]

end Sys2Proof.Machine
end

section
/-! SUPPORT. The step and reset; what a port takes next (R106), pauses (R1), frames handed and events raised (R4, R173 to
R175). -/

namespace Sys2Proof.Machine

open Sys2Proof.Safety

/-! ## The step and reset -/

/-- Settles O1. -/
theorem stepRunsFront : Obligations.StepRunsFront := fun _ _ => rfl

theorem State.reset_slot (n : SlotId) (h : 2 ≤ n.val) : State.reset.slot n = emptySlot := by
  have h0 : n ≠ (0 : SlotId) := by rintro rfl; exact absurd h (by decide)
  have h1 : n ≠ (1 : SlotId) := by rintro rfl; exact absurd h (by decide)
  have v0 : ¬ 0 = n.val := by omega
  have v1 : ¬ 1 = n.val := by omega
  simp [State.slot, State.reset, factorySlots, v0, v1]

/-- Settles O4: the factory values, table by table. -/
theorem resetIsAFactoryPart : Obligations.ResetIsAFactoryPart := by
  refine ⟨rfl, fun l => ?_, State.reset_slot, fun p => ?_, fun c => ?_, fun p => ?_, rfl, rfl, rfl, rfl, rfl, rfl, rfl, rfl,
    rfl, ?_, fun p => ?_, fun i => ?_, rfl, rfl, ?_, rfl, ?_⟩
  · simp [State.lane, State.reset, LaneConfig.started, factoryLaneConfig, zeroLaneCounters]
  · cases p <;> simp [State.slot, State.reset, factorySlots, controlSlot, factoryControlSlot]
  · simp [State.reset, factoryClass]
  · cases p <;> rfl
  · decide
  · cases p <;> exact ⟨rfl, rfl⟩
  · simp [State.exchange, State.reset]
  · refine ⟨Nat.zero_le _, fun p => ?_, Nat.zero_le _, ?_⟩
    · cases p <;> exact Nat.zero_le _
    · show 1 ≤ Config.persistCapacity
      decide
  · refine ⟨fun a b ha _ => absurd ha
      (by simp [grantedRange_eq, State.ctl, State.reset, resetControl, PerPort.at, Hold.range]),
      fun p r hr => absurd hr ?_⟩
    cases p <;> simp [grantedRange_eq, State.ctl, State.reset, resetControl, PerPort.at, Hold.range]

/-! ## What a port takes next (R106) -/

theorem freePort_iff (s : State) (p : Port) :
    freePort s p ↔ (s.port p).carrier = true ∧ (s.port p).transmitting = none ∧ s.paused p = false := by
  simp [freePort, State.paused]

/-- The holder that a port takes from is the one whose turn it is. -/
theorem nextHolder_iff (s : State) (p : Port) (h : Holder) :
    nextHolder (!(s.port p).order.isEmpty) (s.sendWaits p) (s.port p).lastTaken = some h ↔ holdersTurn s p h := by
  unfold nextHolder holdersTurn State.sendWaits
  cases (s.port p).order <;> cases s.sendQueue <;> cases (s.port p).lastTaken <;> cases p <;> cases h <;> simp

theorem State.takeNext_of_turn {s : State} {p : Port} {h : Holder} (free : freePort s p) (turn : holdersTurn s p h) :
    s.takeNext p = s.setPort p { s.port p with transmitting := some h, lastTaken := h } := by
  unfold State.takeNext
  dsimp only
  rw [if_pos ((freePort_iff s p).mp free), (nextHolder_iff s p h).mpr turn]

theorem State.takeNext_of_idle {s : State} {p : Port} (idle : ¬ freePort s p ∨ ∀ h, ¬ holdersTurn s p h) :
    s.takeNext p = s := by
  unfold State.takeNext
  dsimp only
  by_cases free : freePort s p
  · rw [if_pos ((freePort_iff s p).mp free)]
    cases next : nextHolder (!(s.port p).order.isEmpty) (s.sendWaits p) (s.port p).lastTaken with
    | none => rfl
    | some h => exact absurd ((nextHolder_iff s p h).mp next) ((idle.resolve_left (not_not_intro free)) h)
  · rw [if_neg (fun h => free ((freePort_iff s p).mpr h))]

/-- Taking a frame at one port is no business of the other. -/
theorem freePort_congr {s t : State} {p : Port} (port : t.port p = s.port p) (clock : t.clock = s.clock) :
    freePort t p ↔ freePort s p := by
  unfold freePort
  rw [port, clock]

theorem holdersTurn_congr {s t : State} {p : Port} (port : t.port p = s.port p) (queue : t.sendQueue = s.sendQueue)
    (h : Holder) : holdersTurn t p h ↔ holdersTurn s p h := by
  unfold holdersTurn
  rw [port, queue]

/-- What a free port's turn makes of the port (R106). -/
theorem State.takeNext_spec (s : State) (p : Port) :
    (∀ h, freePort s p → holdersTurn s p h →
      (s.takeNext p).port p = { s.port p with transmitting := some h, lastTaken := h }) ∧
    ((¬ freePort s p ∨ ∀ h, ¬ holdersTurn s p h) → (s.takeNext p).port p = s.port p) := by
  refine ⟨fun h free turn => ?_, fun idle => ?_⟩
  · rw [State.takeNext_of_turn free turn, State.port_setPort_same]
  · rw [State.takeNext_of_idle idle]

/-- Taking the next frame writes the ports alone. -/
theorem State.takeNext_ports (s : State) (p : Port) : s.takeNext p = { s with ports := (s.takeNext p).ports } := by
  rcases s.takeNext_form p with h | ⟨h, e⟩
  · rw [h]
  · rw [e]; rfl

/-- Settles O2: the tick lets the S-port, then the C-port, take its next frame; neither touches the other. -/
theorem idleStepPassesTime : Obligations.IdleStepPassesTime := by
  intro s u empty hu
  have ran : step s = .next ((u.takeNext .s).takeNext .c) := by
    unfold step
    rw [empty, hu]
    rfl
  have only : (u.takeNext .s).takeNext .c = { u with ports := ((u.takeNext .s).takeNext .c).ports } := by
    rw [State.takeNext_ports, State.takeNext_ports u .s]
  refine ⟨_, ran, only, fun p => ?_⟩
  have port : u.port p = s.port p := by rw [hu]; rfl
  rw [← port]
  cases p with
  | s =>
    have other : ((u.takeNext .s).takeNext .c).port .s = (u.takeNext .s).port .s := State.takeNext_opposite _ .c
    rw [other]
    exact State.takeNext_spec u .s
  | c =>
    have before : (u.takeNext .s).port .c = u.port .c := State.takeNext_opposite u .s
    have clock : (u.takeNext .s).clock = u.clock := State.clock_of_tx (u.sansTx_takeNext .s)
    have queue : (u.takeNext .s).sendQueue = u.sendQueue := State.sendQueue_of_tx (u.sansTx_takeNext .s)
    have spec := State.takeNext_spec (u.takeNext .s) .c
    simpa only [before, freePort_congr before clock, holdersTurn_congr before queue] using spec

/-! ## Pauses (R1, R106) -/

@[simp] theorem State.takeNext_pausedUntil (s : State) (p q : Port) :
    ((s.takeNext p).port q).pausedUntil = (s.port q).pausedUntil := by
  rcases Port.eq_or_opposite p q with rfl | rfl
  · obtain ⟨x, y, e⟩ := s.takeNext_port q
    rw [e]
  · rw [State.takeNext_opposite]

@[simp] theorem State.takeNext_control (s : State) (p : Port) : (s.takeNext p).control = s.control := by
  rw [State.takeNext_ports]

theorem pauseTime_pos {quanta : BitVec 16} (h : 0 < quanta.toNat) : 0 < pauseTime quanta := by
  unfold pauseTime
  omega

theorem State.pause_of_carrier {s : State} {p : Port} (quanta : BitVec 16) (carrier : (s.port p).carrier = true) :
    s.pause p quanta = (s.setPort p { s.port p with pausedUntil := s.clock + pauseTime quanta }).takeNext p :=
  if_pos carrier

theorem beNat_pair (a b : Byte) : beNat [a, b] = a.toNat * 256 + b.toNat := by
  simp [beNat]

/-- Two bytes that read as 1 are 1 written in two bytes. -/
theorem beNat_eq_one {x : Bytes} (length : x.length = 2) (one : beNat x = 1) : x = beBytes 2 1 := by
  match x, length with
  | [a, b], _ =>
    rw [beNat_pair] at one
    have ha : a = 0 := BitVec.eq_of_toNat_eq (by simp; omega)
    have hb : b = 1 := BitVec.eq_of_toNat_eq (by simp; omega)
    rw [ha, hb]
    rfl

theorem readPause_of_request {f : EthFrame} {quanta : BitVec 16}
    (h : f.payload.take 4 = beBytes 2 1 ++ beBytes 2 quanta.toNat) : readPause f = some quanta := by
  have payload : f.payload = beBytes 2 1 ++ beBytes 2 quanta.toNat ++ f.payload.drop 4 := by
    rw [← h, List.take_append_drop]
  have code : numField f.payload 0 2 = some (beNat (beBytes 2 1)) :=
    numField_at (a := []) (b := beBytes 2 1) (c := beBytes 2 quanta.toNat ++ f.payload.drop 4)
      (by simpa using payload) rfl (by simp)
  have length : numField f.payload 2 2 = some (beNat (beBytes 2 quanta.toNat)) :=
    numField_at (a := beBytes 2 1) (b := beBytes 2 quanta.toNat) (c := f.payload.drop 4) payload (by simp) (by simp)
  have reads : BitVec.ofNat 16 (beNat (beBytes 2 quanta.toNat)) = quanta := by
    rw [beNat_beBytes_of_lt (by simpa using quanta.isLt), BitVec.ofNat_toNat, BitVec.setWidth_eq]
  rw [readPause, code, if_pos (by decide), length, Option.map_some, reads]

theorem readPause_of_other {f : EthFrame} (h : f.payload.take 2 ≠ beBytes 2 1) : readPause f = none := by
  refine if_neg (fun code => h ?_)
  unfold numField field at code
  split at code
  next long =>
    refine beNat_eq_one (by simp; omega) ?_
    simpa [Config.pauseCode] using code
  · exact absurd code (by simp)

/-- Settles O14: a pause request as a command and as a MAC control frame. -/
theorem pauseHoldsBack : Obligations.PauseHoldsBack := by
  intro p quanta s
  have ran : exec (.pauseFrame p quanta) s = .next (s.pause p quanta) := rfl
  refine ⟨fun carrier => ?_, fun none => ?_, fun c f row etype fits => ?_⟩
  · have tx := s.sansTx_pause p quanta
    refine ⟨_, ran, ?_, ?_, ?_, ?_, fun some => ?_, tablesKept_of_tx tx, workKept_of_tx tx, chainKept_of_tx tx,
      storeKept_of_tx tx, historyKept_of_tx tx, ?_⟩
    all_goals rw [State.pause_of_carrier quanta carrier]
    · simp
    · simp
    · simp
    · simp
    · have paused : s.clock < s.clock + pauseTime quanta := Nat.lt_add_of_pos_right (pauseTime_pos some)
      rw [State.takeNext_of_idle (.inl (fun free => by
        have := free.2.2
        simp only [State.port_setPort_same, State.setPort_clock] at this
        omega))]
      simpa using paused
    · rw [State.takeNext_control, State.setPort_control]
  · rw [ran]
    exact congrArg _ (if_neg (by simp [none]))
  · have fitted : fitsPort f p = true := (fitsPort_iff f p).mpr fits
    have mac : s.receiveFrame p f = s.takeMacControl p f := if_pos ⟨etype, fitted⟩
    rw [exec_of_frameOf row, mac, State.takeMacControl]
    refine ⟨fun request => ?_, fun other => ?_⟩
    · rw [readPause_of_request request]
      rfl
    · rw [readPause_of_other other]

/-! ## A frame handed to a port (R4, R106) -/

/-- Handing a frame writes ports, control states and nothing else, and reads the ports, the clock and the Send Queue. -/
theorem State.takeNext_ports_congr {s t : State} (ports : t.ports = s.ports) (clock : t.clock = s.clock)
    (queue : t.sendQueue = s.sendQueue) (p : Port) : (t.takeNext p).ports = (s.takeNext p).ports := by
  have port : t.port p = s.port p := by rw [State.port, ports]; rfl
  have paused : t.paused p = s.paused p := by rw [State.paused, port, clock]; rfl
  have waits : t.sendWaits p = s.sendWaits p := by cases p <;> simp [State.sendWaits, queue]
  unfold State.takeNext
  dsimp only
  rw [port, paused, waits]
  split
  · split
    · simp only [State.setPort, ports]
    · exact ports
  · exact ports

theorem State.restartLeft_ports (s : State) (p : Port) (gone : Bool) : (s.restartLeft p gone).ports = s.ports := by
  cases gone <;> rfl

theorem State.handFrame_ports_congr {s t : State} (ports : t.ports = s.ports) (clock : t.clock = s.clock)
    (queue : t.sendQueue = s.sendQueue) (p : Port) (f : OutFrame) : (t.handFrame p f).ports = (s.handFrame p f).ports := by
  have port : t.port p = s.port p := by rw [State.port, ports]; rfl
  unfold State.handFrame
  rw [port]
  split
  · rw [State.restartLeft_ports, State.restartLeft_ports, State.countPort, State.countPort, State.setPort, State.setPort,
      ports, port]
  · split
    · rw [State.restartLeft_ports, State.restartLeft_ports, State.countPort, State.countPort, State.setPort, State.setPort,
        ports, port]
    · refine State.takeNext_ports_congr ?_ ?_ ?_ p
      · simp only [State.setPort, ports]
      · exact clock
      · exact queue

theorem State.handTill_ports_congr {s t : State} (ports : t.ports = s.ports) (clock : t.clock = s.clock)
    (queue : t.sendQueue = s.sendQueue) (settings : t.settings = s.settings) (dst : Mac) (till xchg : Nat) (c : TillContent)
    (key : Option Key) : (t.handTill dst till xchg c key).ports = (s.handTill dst till xchg c key).ports := by
  unfold State.handTill
  rw [settings]
  exact State.handFrame_ports_congr ports clock queue _ _

theorem State.handFrame_of_noCarrier {s : State} {p : Port} (f : OutFrame) (h : (s.port p).carrier = false) :
    (s.handFrame p f).port p = { s.port p with counters := { (s.port p).counters with
      noCarrier := satInc Config.count32Max (s.port p).counters.noCarrier } } := by
  unfold State.handFrame
  rw [if_pos h, State.port_restartLeft, State.port_countPort_same]

theorem State.handFrame_of_full {s : State} {p : Port} (f : OutFrame) (carrier : (s.port p).carrier = true)
    (full : Config.orderCapacity ≤ (s.port p).order.length) :
    (s.handFrame p f).port p = { s.port p with counters := { (s.port p).counters with
      fullOrder := satInc Config.count32Max (s.port p).counters.fullOrder } } := by
  unfold State.handFrame
  rw [if_neg (by simp [carrier]), if_pos full, State.port_restartLeft, State.port_countPort_same]

theorem State.handFrame_of_room {s : State} {p : Port} (f : OutFrame) (carrier : (s.port p).carrier = true)
    (room : (s.port p).order.length < Config.orderCapacity) :
    s.handFrame p f = (s.setPort p { s.port p with order := (s.port p).order ++ [f] }).takeNext p := by
  unfold State.handFrame
  rw [if_neg (by simp [carrier]), if_neg (Nat.not_le.mpr room)]

/-! ## An event raised (R173 to R175) -/

theorem State.raise_events (s : State) (d : EventDetails) :
    (s.raise d).events = s.events.set d.kind.number ⟨true, satInc 255 s.events[d.kind.number].count⟩ := by
  have fold : ∀ (k : Nat) (ps : List Port) (t : State),
      (ps.foldl (fun u p => u.handFrame p (u.notice p d k)) t).events = t.events :=
    fun k ps t => State.events_of_tx (State.sansEvents_notices d k ps t)
  unfold State.raise
  dsimp only
  split
  · rfl
  · split
    · rw [fold]; rfl
    · rfl

/-- A notice is formed from what handing a frame leaves as it was. -/
theorem State.notice_of_tx {s t : State} (h : t.sansTx = s.sansTx) (p : Port) (d : EventDetails) (count : Nat) :
    t.notice p d count = s.notice p d count := by
  have address : (t.ctl p).noticeAddress = (s.ctl p).noticeAddress := (setsKept.of_tx h p).2.1
  have slot : t.slot (controlSlot p) = s.slot (controlSlot p) := by
    simp only [State.slot, State.slots_of_tx h]
  have key : t.controlKey p = s.controlKey p := by
    simp only [State.controlKey, slot]
  have seconds : t.seconds = s.seconds := by
    simp only [State.seconds, State.clock_of_tx h, State.servingSince_of_tx h]
  simp only [State.notice, address, key, seconds, State.settings_of_tx h]

/-- The two ports that an event's notice may go to, each at most once. -/
theorem State.raise_of_enabled {s : State} {d : EventDetails} (serving : s.phase = .serving)
    (enabled : s.settings.notices[d.kind.number].enabled = true) :
    s.raise d = (destinationPorts s.settings.notices[d.kind.number].destination).foldl
      (fun u p => u.handFrame p (s.notice p d (satInc 255 s.events[d.kind.number].count))) (s.latchEvent d.kind.number) := by
  have count : (s.latchEvent d.kind.number).events[d.kind.number].count = satInc 255 s.events[d.kind.number].count := by
    simp [State.latchEvent, Config.count8Max]
  have fold : ∀ (ps : List Port) (t : State), t.sansTx = (s.latchEvent d.kind.number).sansTx →
      ps.foldl (fun u p => u.handFrame p (u.notice p d (satInc 255 s.events[d.kind.number].count))) t =
        ps.foldl (fun u p => u.handFrame p (s.notice p d (satInc 255 s.events[d.kind.number].count))) t := by
    intro ps
    induction ps with
    | nil => exact fun _ _ => rfl
    | cons p ps ih =>
      intro t ht
      have same : t.notice p d (satInc 255 s.events[d.kind.number].count) =
          s.notice p d (satInc 255 s.events[d.kind.number].count) := State.notice_of_tx ht p d _
      rw [List.foldl_cons, List.foldl_cons, same]
      exact ih _ ((State.sansTx_handFrame _ _ _).trans ht)
  unfold State.raise
  dsimp only
  rw [serving]
  dsimp only
  rw [if_pos enabled, count]
  exact fold _ _ rfl

theorem State.raise_of_disabled {s : State} {d : EventDetails} (serving : s.phase = .serving)
    (disabled : s.settings.notices[d.kind.number].enabled = false) : s.raise d = s.latchEvent d.kind.number := by
  unfold State.raise
  dsimp only
  rw [serving]
  exact if_neg (fun enabled => absurd (disabled.symm.trans enabled) (by simp))

theorem State.raise_of_starting {s : State} {d : EventDetails} (starting : s.phase = .starting) :
    s.raise d = { s.latchEvent d.kind.number with startCount := s.startCount + 1 } := by
  unfold State.raise
  dsimp only
  rw [starting]
  rfl

/-- One frame handed to each of the ports a destination names. -/
theorem State.handEach_spec (s : State) (dst : Destination) (f : Port → OutFrame) (p : Port) :
    (p ∉ destinationPorts dst →
      ((destinationPorts dst).foldl (fun u q => u.handFrame q (f q)) s).port p = s.port p) ∧
    (p ∈ destinationPorts dst → (s.port p).carrier = true → (s.port p).order.length < Config.orderCapacity →
      (((destinationPorts dst).foldl (fun u q => u.handFrame q (f q)) s).port p).order = (s.port p).order ++ [f p]) := by
  have toC : ∀ t : State, ((t.handFrame .s (f .s)).port .c) = t.port .c := fun t => State.handFrame_opposite t .s _
  have toS : ∀ t : State, ((t.handFrame .c (f .c)).port .s) = t.port .s := fun t => State.handFrame_opposite t .c _
  cases dst <;> cases p <;> simp only [destinationPorts, List.foldl_cons, List.foldl_nil]
  case shop.s => exact ⟨by simp, fun _ => State.handFrame_order s .s _⟩
  case shop.c => exact ⟨fun _ => toC s, by simp⟩
  case chain.s => exact ⟨fun _ => toS s, by simp⟩
  case chain.c => exact ⟨by simp, fun _ => State.handFrame_order s .c _⟩
  case both.s =>
    refine ⟨by simp, fun _ carrier room => ?_⟩
    rw [toS, State.handFrame_order s .s _ carrier room]
  case both.c =>
    refine ⟨by simp, fun _ carrier room => ?_⟩
    rw [State.handFrame_order _ .c _ (by rw [toC]; exact carrier) (by rw [toC]; exact room), toC]

/-- Settles O21: the three ways a frame handed can go, and the phase and the notice setting that an event finds. -/
theorem framesHandedAndEventsRaised : Obligations.FramesHandedAndEventsRaised := by
  refine ⟨fun p f s => ?_, fun d s => ?_⟩
  · have tx := s.sansTx_handFrame p f
    refine ⟨s.handFrame_opposite p f, State.handFrame_of_noCarrier f, State.handFrame_of_full f, fun carrier room => ?_,
      tablesKept_of_tx tx, workKept_of_tx tx, chainKept_of_tx tx, storeKept_of_tx tx, historyKept_of_tx tx,
      clocksKept_of_tx tx⟩
    rw [State.handFrame_of_room f carrier room]
    simp
  · have kept := s.sansEvents_raise d
    have onLanes : (s.raise d).sansLanes = s.sansLanes := congrArg (fun u => eraseLanes (eraseStore u)) kept
    refine ⟨s.raise_events d, tablesKept_of_events kept, workKept_of_lanes onLanes, chainKept_of_lanes onLanes,
      storeKept_of_events kept, clocksKept_of_lanes onLanes, State.scrub_of_events kept, State.device_of_events kept,
      fun starting => ?_, fun serving => ?_, fun serving disabled => ?_, fun serving enabled p => ?_⟩
    · rw [State.raise_of_starting starting]
      exact ⟨rfl, rfl⟩
    · cases enabled : s.settings.notices[d.kind.number].enabled with
      | false => rw [State.raise_of_disabled serving enabled]; rfl
      | true =>
        rw [State.raise_of_enabled serving enabled]
        have fold : ∀ (ps : List Port) (t : State), (ps.foldl (fun u p => u.handFrame p
            (s.notice p d (satInc 255 s.events[d.kind.number].count))) t).startCount = t.startCount := by
          intro ps
          induction ps with
          | nil => exact fun _ => rfl
          | cons p ps ih =>
            intro t
            exact (ih _).trans (State.startCount_of_tx (State.sansTx_handFrame _ _ _))
        exact fold _ _
    · rw [State.raise_of_disabled serving disabled]
      rfl
    · rw [State.raise_of_enabled serving enabled]
      exact State.handEach_spec (s.latchEvent d.kind.number) _ _ p

end Sys2Proof.Machine
end

section
/-! SUPPORT. Frames read back as the fields they were formed from (R186, 13.1.1, 13.2, 13.3.1). -/

namespace Sys2Proof.Machine

open Sys2Proof.Safety

/-! ## Lane frames (13.1.1) -/

theorem beNat_byte (x : Byte) : beNat [x] = x.toNat := by
  simp [beNat]

/-- The number in a field that stands behind some bytes and before others. -/
theorem numField_is {x a b c : Bytes} {o k n : Nat} (hx : x = a ++ b ++ c) (ho : a.length = o) (hk : b.length = k)
    (hn : beNat b = n) : numField x o k = some n := by
  rw [numField_at hx ho hk, hn]

theorem readLaneKind_code (k : LaneKind) : readLaneKind k.code.toNat = some k := by
  cases k <;> rfl

/-- The reverse target of a frame that suits its kind is 0 exactly where it is absent. -/
theorem targetSuits_of {kind : LaneKind} {target : Option Nat}
    (present : kind = .reverse → ∃ n, target = some n ∧ 0 < n ∧ n < 65536) (absent : kind ≠ .reverse → target = none) :
    targetSuits kind (target.getD 0) = true ∧ target.getD 0 < 65536 ∧
      (if target.getD 0 = 0 then none else some (target.getD 0)) = target := by
  by_cases h : kind = .reverse
  · obtain ⟨n, rfl, pos, lt⟩ := present h
    subst h
    have ne : n ≠ 0 := by omega
    simp [targetSuits, ne, lt]
  · rw [absent h]
    refine ⟨?_, by simp, rfl⟩
    cases kind <;> first | rfl | exact absurd rfl h

theorem readLaneFrame_laneBytes (dst src : Mac) (kind : LaneKind) {till xchg : Nat} (target : Option Nat) (body : Bytes)
    (tag : Tag) (htill : 0 < till ∧ till < 65536) (hxchg : 0 < xchg ∧ xchg < 65536) (hbody : body.length ≤ 2048)
    (htarget : targetSuits kind (target.getD 0) = true) (hsmall : target.getD 0 < 65536)
    (hback : (if target.getD 0 = 0 then none else some (target.getD 0)) = target) :
    readLaneFrame ⟨dst, src, Config.laneType, laneBytes kind till xchg target body tag⟩ =
      .good ⟨src, kind, till, xchg, target, body, tag⟩ := by
  have f0 : numField (laneBytes kind till xchg target body tag) 0 2 = some till :=
    numField_is (a := []) (b := beBytes 2 till) (c := beBytes 2 xchg ++ [kind.code] ++ beBytes 2 (target.getD 0) ++
      beBytes 2 body.length ++ body ++ beBytes 8 tag.toNat) (by simp [laneBytes]) rfl (by simp)
      (by rw [beNat_beBytes_of_lt (by omega)])
  have f2 : numField (laneBytes kind till xchg target body tag) 2 2 = some xchg :=
    numField_is (a := beBytes 2 till) (b := beBytes 2 xchg) (c := [kind.code] ++ beBytes 2 (target.getD 0) ++
      beBytes 2 body.length ++ body ++ beBytes 8 tag.toNat) (by simp [laneBytes]) (by simp) (by simp)
      (by rw [beNat_beBytes_of_lt (by omega)])
  have f4 : numField (laneBytes kind till xchg target body tag) 4 1 = some kind.code.toNat :=
    numField_is (a := beBytes 2 till ++ beBytes 2 xchg) (b := [kind.code]) (c := beBytes 2 (target.getD 0) ++
      beBytes 2 body.length ++ body ++ beBytes 8 tag.toNat) (by simp [laneBytes]) (by simp) rfl
      (by rw [beNat_byte])
  have f5 : numField (laneBytes kind till xchg target body tag) 5 2 = some (target.getD 0) :=
    numField_is (a := beBytes 2 till ++ beBytes 2 xchg ++ [kind.code]) (b := beBytes 2 (target.getD 0))
      (c := beBytes 2 body.length ++ body ++ beBytes 8 tag.toNat) (by simp [laneBytes]) (by simp) (by simp)
      (by rw [beNat_beBytes_of_lt (by omega)])
  have f7 : numField (laneBytes kind till xchg target body tag) 7 2 = some body.length :=
    numField_is (a := beBytes 2 till ++ beBytes 2 xchg ++ [kind.code] ++ beBytes 2 (target.getD 0))
      (b := beBytes 2 body.length) (c := body ++ beBytes 8 tag.toNat) (by simp [laneBytes]) (by simp) (by simp)
      (by rw [beNat_beBytes_of_lt (by omega)])
  have f9 : field (laneBytes kind till xchg target body tag) 9 body.length = some body :=
    field_at (a := beBytes 2 till ++ beBytes 2 xchg ++ [kind.code] ++ beBytes 2 (target.getD 0) ++ beBytes 2 body.length)
      (b := body) (c := beBytes 8 tag.toNat) (by simp [laneBytes]) (by simp) rfl
  have ft : numField (laneBytes kind till xchg target body tag) (9 + body.length) 8 = some (beNat (beBytes 8 tag.toNat)) :=
    numField_at (a := beBytes 2 till ++ beBytes 2 xchg ++ [kind.code] ++ beBytes 2 (target.getD 0) ++
      beBytes 2 body.length ++ body) (b := beBytes 8 tag.toNat) (c := []) (by simp [laneBytes]) (by simp; omega) (by simp)
  have length : (laneBytes kind till xchg target body tag).length = 9 + body.length + 8 := by
    simp [laneBytes]
    omega
  have good : ¬ (till = 0 ∨ xchg = 0 ∨ Config.bodyMax < body.length ∨
      (laneBytes kind till xchg target body tag).length ≠ 9 + body.length + 8 ∨
      targetSuits kind (target.getD 0) = false) := by
    rintro (zero | zero | long | wrong | unsuited)
    · omega
    · omega
    · simp only [Config.bodyMax] at long
      omega
    · exact wrong length
    · exact absurd (htarget.symm.trans unsuited) (by simp)
  simp only [readLaneFrame, f0, f2, f4, f5, f7, f9, ft, readLaneKind_code, if_neg good, hback, ofNat_beNat_beBytes8]

/-! ## Envelopes (13.2) -/

theorem readInboundKind_code {k : EnvelopeKind} (h : k = .answer ∨ k = .reversalAck ∨ k = .probeEcho) :
    readInboundKind k.code.toNat = some k := by
  rcases h with rfl | rfl | rfl <;> rfl

theorem readOrigin_code (o : Origin) : readOrigin o.code.toNat = some o := by
  cases o <;> rfl

/-- What stands before the body in a segment (13.2). -/
def Envelope.head (e : Envelope) (index count : Nat) : Bytes :=
  [e.kind.code] ++ beBytes 8 e.identity.toNat ++ beBytes 4 e.seq.toNat ++ beBytes 4 e.orig.toNat ++
    beBytes 4 e.counter ++ [e.origin.code, BitVec.ofNat 8 index, BitVec.ofNat 8 count] ++ beBytes 2 e.body.length

theorem Envelope.segment_eq (e : Envelope) (index count : Nat) (part : Bytes) :
    e.segment index count part = e.head index count ++ (part ++ beBytes 8 e.tag.toNat) := by
  simp [Envelope.segment, Envelope.head]

theorem readEnvelope_segment (dst src : Mac) {e : Envelope} {index count : Nat} {part : Bytes}
    (kind : e.kind = .answer ∨ e.kind = .reversalAck ∨ e.kind = .probeEcho) (counter : e.counter < 4294967296)
    (body : e.body.length ≤ 2048) (hindex : index < 256) (hcount : count < 256)
    (suits : segmentSuits e.kind index count e.body.length part.length = true) :
    readEnvelope ⟨dst, src, Config.chainType, e.segment index count part⟩ =
      some ⟨{ e with body := part }, index, count, e.body.length⟩ := by
  have h0 : numField (e.head index count) 0 1 = some e.kind.code.toNat :=
    numField_is (a := []) (b := [e.kind.code]) (c := beBytes 8 e.identity.toNat ++ beBytes 4 e.seq.toNat ++
      beBytes 4 e.orig.toNat ++ beBytes 4 e.counter ++ [e.origin.code, BitVec.ofNat 8 index, BitVec.ofNat 8 count] ++
      beBytes 2 e.body.length) (by simp [Envelope.head]) rfl rfl
      (by rw [beNat_byte])
  have h1 : numField (e.head index count) 1 8 = some (beNat (beBytes 8 e.identity.toNat)) :=
    numField_at (a := [e.kind.code]) (b := beBytes 8 e.identity.toNat) (c := beBytes 4 e.seq.toNat ++
      beBytes 4 e.orig.toNat ++ beBytes 4 e.counter ++ [e.origin.code, BitVec.ofNat 8 index, BitVec.ofNat 8 count] ++
      beBytes 2 e.body.length) (by simp [Envelope.head]) rfl (by simp)
  have h9 : numField (e.head index count) 9 4 = some (beNat (beBytes 4 e.seq.toNat)) :=
    numField_at (a := [e.kind.code] ++ beBytes 8 e.identity.toNat) (b := beBytes 4 e.seq.toNat)
      (c := beBytes 4 e.orig.toNat ++ beBytes 4 e.counter ++ [e.origin.code, BitVec.ofNat 8 index, BitVec.ofNat 8 count] ++
      beBytes 2 e.body.length) (by simp [Envelope.head]) (by simp) (by simp)
  have h13 : numField (e.head index count) 13 4 = some (beNat (beBytes 4 e.orig.toNat)) :=
    numField_at (a := [e.kind.code] ++ beBytes 8 e.identity.toNat ++ beBytes 4 e.seq.toNat) (b := beBytes 4 e.orig.toNat)
      (c := beBytes 4 e.counter ++ [e.origin.code, BitVec.ofNat 8 index, BitVec.ofNat 8 count] ++
      beBytes 2 e.body.length) (by simp [Envelope.head]) (by simp) (by simp)
  have h17 : numField (e.head index count) 17 4 = some e.counter :=
    numField_is (a := [e.kind.code] ++ beBytes 8 e.identity.toNat ++ beBytes 4 e.seq.toNat ++ beBytes 4 e.orig.toNat)
      (b := beBytes 4 e.counter) (c := [e.origin.code, BitVec.ofNat 8 index, BitVec.ofNat 8 count] ++
      beBytes 2 e.body.length) (by simp [Envelope.head]) (by simp) (by simp)
      (by rw [beNat_beBytes_of_lt (by omega)])
  have h21 : numField (e.head index count) 21 1 = some e.origin.code.toNat :=
    numField_is (a := [e.kind.code] ++ beBytes 8 e.identity.toNat ++ beBytes 4 e.seq.toNat ++ beBytes 4 e.orig.toNat ++
      beBytes 4 e.counter) (b := [e.origin.code]) (c := [BitVec.ofNat 8 index, BitVec.ofNat 8 count] ++
      beBytes 2 e.body.length) (by simp [Envelope.head]) (by simp) rfl
      (by rw [beNat_byte])
  have h22 : numField (e.head index count) 22 1 = some index :=
    numField_is (a := [e.kind.code] ++ beBytes 8 e.identity.toNat ++ beBytes 4 e.seq.toNat ++ beBytes 4 e.orig.toNat ++
      beBytes 4 e.counter ++ [e.origin.code]) (b := [BitVec.ofNat 8 index]) (c := [BitVec.ofNat 8 count] ++
      beBytes 2 e.body.length) (by simp [Envelope.head]) (by simp) rfl
      (by rw [beNat_byte, BitVec.toNat_ofNat, Nat.mod_eq_of_lt hindex])
  have h23 : numField (e.head index count) 23 1 = some count :=
    numField_is (a := [e.kind.code] ++ beBytes 8 e.identity.toNat ++ beBytes 4 e.seq.toNat ++ beBytes 4 e.orig.toNat ++
      beBytes 4 e.counter ++ [e.origin.code, BitVec.ofNat 8 index]) (b := [BitVec.ofNat 8 count])
      (c := beBytes 2 e.body.length) (by simp [Envelope.head]) (by simp) rfl
      (by rw [beNat_byte, BitVec.toNat_ofNat, Nat.mod_eq_of_lt hcount])
  have h24 : numField (e.head index count) 24 2 = some e.body.length :=
    numField_is (a := [e.kind.code] ++ beBytes 8 e.identity.toNat ++ beBytes 4 e.seq.toNat ++ beBytes 4 e.orig.toNat ++
      beBytes 4 e.counter ++ [e.origin.code, BitVec.ofNat 8 index, BitVec.ofNat 8 count]) (b := beBytes 2 e.body.length)
      (c := []) (by simp [Envelope.head]) (by simp) (by simp)
      (by rw [beNat_beBytes_of_lt (by omega)])
  have length : (e.head index count).length = 26 := by simp [Envelope.head]
  rw [Envelope.segment_eq, readEnvelope_append length h0 h1 h9 h13 h17 h21 h22 h23 h24 (readInboundKind_code kind)
    (readOrigin_code e.origin) suits, ofNat_beNat_beBytes8, ofNat_beNat_beBytes4, ofNat_beNat_beBytes4]

/-! ## Control frames (13.3.1) -/

theorem readControl_controlFields (dst src : Mac) (cls request : Byte) (number : ControlNumber) (args : Bytes) (tag : Tag)
    (small : args.length < 65536) :
    readControl ⟨dst, src, Config.controlType, controlFields cls number request args ++ beBytes 8 tag.toNat⟩ =
      some ⟨src, cls.toNat, number, request, some args,
        controlTagInput src (controlFields cls number request args), tag⟩ := by
  have length : (controlFields cls number request args).length = 8 + args.length := by
    simp [controlFields]
    omega
  have h0 : numField (controlFields cls number request args) 0 1 = some cls.toNat :=
    numField_is (a := []) (b := [cls]) (c := beBytes 4 number.toNat ++ [request] ++ beBytes 2 args.length ++ args)
      (by simp [controlFields]) rfl rfl
      (by rw [beNat_byte])
  have h1 : numField (controlFields cls number request args) 1 4 = some (beNat (beBytes 4 number.toNat)) :=
    numField_at (a := [cls]) (b := beBytes 4 number.toNat) (c := [request] ++ beBytes 2 args.length ++ args)
      (by simp [controlFields]) rfl (by simp)
  have h5 : numField (controlFields cls number request args) 5 1 = some request.toNat :=
    numField_is (a := [cls] ++ beBytes 4 number.toNat) (b := [request]) (c := beBytes 2 args.length ++ args)
      (by simp [controlFields]) (by simp) rfl
      (by rw [beNat_byte])
  have h6 : numField (controlFields cls number request args) 6 2 = some args.length :=
    numField_is (a := [cls] ++ beBytes 4 number.toNat ++ [request]) (b := beBytes 2 args.length) (c := args)
      (by simp [controlFields]) (by simp) (by simp)
      (by rw [beNat_beBytes_of_lt (by omega)])
  have h8 : field (controlFields cls number request args) 8 args.length = some args :=
    field_at (a := [cls] ++ beBytes 4 number.toNat ++ [request] ++ beBytes 2 args.length) (b := args) (c := [])
      (by simp [controlFields]) (by simp) rfl
  rw [readControl_append (by omega) h0 h1 h5 (args := some args) (by simp [h6, h8, length]), ofNat_beNat_beBytes4]
  simp

/-- Settles O20. -/
theorem framesReadBack : Obligations.FramesReadBack := by
  refine ⟨fun dst src kind till xchg target body tag ht ht' hx hx' hb present absent => ?_,
    fun dst src e kind counter => ⟨fun short => ?_, fun notProbe long short => ⟨?_, ?_⟩⟩,
    fun dst src cls request number args tag small => readControl_controlFields dst src cls request number args tag small⟩
  · obtain ⟨suits, small, back⟩ := targetSuits_of present absent
    exact readLaneFrame_laneBytes dst src kind target body tag ⟨ht, ht'⟩ ⟨hx, hx'⟩ hb suits small back
  · refine readEnvelope_segment dst src kind counter (by omega) (by omega) (by omega) ?_
    simp [segmentSuits, Config.bodyMax, Config.segmentMax, short]
    omega
  · refine readEnvelope_segment dst src kind counter short (by omega) (by omega) ?_
    have whole : min 1216 e.body.length = 1216 := by omega
    simp [segmentSuits, Config.bodyMax, Config.segmentMax, notProbe, long, short, whole]
  · refine readEnvelope_segment dst src kind counter short (by omega) (by omega) ?_
    simp [segmentSuits, Config.bodyMax, Config.segmentMax, notProbe, long, short]

end Sys2Proof.Machine
end

section
/-! SUPPORT. A lane that enters a state (R15, R24) and SET-LANE by its state (R32). -/

namespace Sys2Proof.Machine

open Sys2Proof.Safety

/-! ## Where a write finds room (R179) -/

/-- A queue with room takes the write: the queue and the store change, nothing else. -/
theorem State.replaceOrAppend_of_room {s : State} (stop hit : Write → Bool) (new : Write) (failed : State → State)
    (room : s.persist.full = false) : ∃ ws, s.replaceOrAppend stop hit new failed = s.setWaiting ws := by
  unfold State.replaceOrAppend
  split
  · exact ⟨_, rfl⟩
  · exact ⟨_, if_neg (by simp [room])⟩

theorem State.setWaiting_ports (s : State) (ws : List Write) : (s.setWaiting ws).ports = s.ports := by
  obtain ⟨q, t, h⟩ := s.setWaiting_form ws
  rw [h]

theorem State.queueLaneState_ports {s : State} (l : LaneId) (room : s.persist.full = false) :
    (s.queueLaneState l).ports = s.ports := by
  obtain ⟨ws, h⟩ := State.replaceOrAppend_of_room (Write.touchesLane l) (Write.isLaneState l)
    (.laneState l (s.lane l).config.state) (fun t => t.writeFailed .laneState (.lane l)) room
  rw [State.queueLaneState, h, State.setWaiting_ports]

theorem State.mem_queueLaneState {s : State} (l : LaneId) (room : s.persist.full = false) :
    .laneState l (s.lane l).config.state ∈ (s.queueLaneState l).persist.unwritten :=
  State.mem_replaceOrAppend _ _ _ _ _ room

/-! ## The keys of a lane -/

/-- A key of a lane is read from its record and the slots. -/
theorem State.linkKey_congr {s t : State} {l : LaneId} (config : (t.lane l).config = (s.lane l).config)
    (slots : t.slots = s.slots) : t.linkKey l = s.linkKey l := by
  have slot : ∀ n, t.slot n = s.slot n := fun n => by rw [State.slot, slots]; rfl
  simp only [State.linkKey, config, slot]

theorem State.baseKey_congr {s t : State} (slots : t.slots = s.slots) (n : SlotId) (gen : Nat) :
    t.baseKey n gen = s.baseKey n gen := by
  have slot : ∀ n, t.slot n = s.slot n := fun n => by rw [State.slot, slots]; rfl
  simp only [State.baseKey, slot]

theorem State.laneBaseKey_congr {s t : State} {l : LaneId} (config : (t.lane l).config = (s.lane l).config)
    (slots : t.slots = s.slots) : t.laneBaseKey l = s.laneBaseKey l := by
  simp only [State.laneBaseKey, config, State.baseKey_congr slots]

theorem State.handKey_congr {s t : State} {l : LaneId} (config : (t.lane l).config = (s.lane l).config)
    (slots : t.slots = s.slots) (upsets : t.upsets = s.upsets) : t.handKey l = s.handKey l := by
  have unreadable : ∀ p, t.unreadable p = s.unreadable p := fun p => by rw [State.unreadable, upsets]; rfl
  simp only [State.handKey, State.linkKey_congr config slots, unreadable]

/-! ## Entering a state (R15, R24) -/

/-- What stands before the mailbox is looked at: the state is the new one, and the event, if any, has been raised. -/
def State.entering (s : State) (l : LaneId) (st : LaneState) (event : Option EventDetails) : State :=
  event.elim (s.setLane l { s.lane l with config := { (s.lane l).config with state := st } })
    (fun d => (s.setLane l { s.lane l with config := { (s.lane l).config with state := st } }).raise d)

theorem State.changeState_eq (s : State) (l : LaneId) (st : LaneState) (event : Option EventDetails) :
    s.changeState l st event = ((s.entering l st event).clearMailbox l).queueLaneState l := by
  cases event <;> rfl

theorem State.entering_lane_same (s : State) (l : LaneId) (st : LaneState) (event : Option EventDetails) :
    (s.entering l st event).lane l = { s.lane l with config := { (s.lane l).config with state := st } } := by
  cases event with
  | none => exact State.lane_setLane_same _ _ _
  | some d =>
    rw [State.entering, Option.elim_some, State.raise_lane, State.lane_setLane_same]

theorem State.entering_persist (s : State) (l : LaneId) (st : LaneState) (event : Option EventDetails) :
    (s.entering l st event).persist = s.persist := by
  cases event with
  | none => rfl
  | some d => exact State.raise_persist _ d

/-- A mailbox frame that the new state takes, or none, is left alone. -/
theorem State.clearMailbox_of_taken {s : State} {l : LaneId}
    (h : (s.lane l).mailbox.bind (fun f => doorReason (s.lane l).config.state f.kind) = none) : s.clearMailbox l = s := by
  unfold State.clearMailbox
  cases hm : (s.lane l).mailbox with
  | none => rfl
  | some f =>
    rw [hm] at h
    have none : doorReason (s.lane l).config.state f.kind = none := h
    dsimp only
    rw [none]

theorem State.clearMailbox_of_refused {s : State} {l : LaneId} {f : LaneFrame} {reason : TillReason}
    (mailbox : (s.lane l).mailbox = some f) (refuses : doorReason (s.lane l).config.state f.kind = some reason) :
    s.clearMailbox l = (s.modLane l (fun r => { r with mailbox := none })).refuseAtHand l f reason := by
  unfold State.clearMailbox
  rw [mailbox]
  dsimp only
  rw [refuses]

theorem State.refuseAtHand_persist (s : State) (l : LaneId) (f : LaneFrame) (r : TillReason) :
    (s.refuseAtHand l f r).persist = s.persist := by
  rw [State.refuseAtHand, State.countRefusal, State.modLane_persist, State.persist_of_tx (s.sansTx_replyInHand _ _ _ _)]

theorem State.clearMailbox_persist (s : State) (l : LaneId) : (s.clearMailbox l).persist = s.persist := by
  unfold State.clearMailbox
  split
  · rfl
  · split
    · rw [State.refuseAtHand_persist, State.modLane_persist]
    · rfl

/-- The reply that empties a mailbox, as it is handed to the S-port. -/
theorem State.refuseAtHand_ports_of_emptied {s : State} {l : LaneId} (f : LaneFrame) (reason : TillReason) :
    ((s.modLane l (fun r => { r with mailbox := none })).refuseAtHand l f reason).ports =
      (s.handTill f.src ((s.lane l).config.till.getD f.till) f.xchg (.refused reason) (s.handKey l)).ports := by
  have lane : (s.modLane l (fun r => { r with mailbox := none })).lane l = { s.lane l with mailbox := none } :=
    State.lane_modLane_same _ _ _
  have key : (s.modLane l (fun r => { r with mailbox := none })).handKey l = s.handKey l :=
    State.handKey_congr (by rw [lane]) rfl rfl
  rw [State.refuseAtHand, State.countRefusal, State.modLane_ports, State.replyInHand, key, lane]
  exact State.handTill_ports_congr (State.modLane_ports _ _ _) (State.modLane_clock _ _ _) (State.modLane_sendQueue _ _ _)
    (State.modLane_settings _ _ _) _ _ _ _ _

/-- A state that does not take a kind of frame has the reason of the state (R21). -/
theorem doorReason_of_refused {st : LaneState} {k : LaneKind} {reason : TillReason} (used : st ≠ .unused)
    (refuses : ¬ stateTakes st k) (exhausted : st = .exhausted → reason = .exhausted)
    (suspended : (∃ c, st = .suspended c) → reason = .suspended) (faulted : (∃ c, st = .faulted c) → reason = .faulted) :
    doorReason st k = some reason := by
  cases st with
  | unused => exact absurd rfl used
  | ready => exact absurd trivial refuses
  | test => exact absurd trivial refuses
  | exhausted => rw [exhausted rfl]; exact if_pos (not_not.mp refuses)
  | suspended c => rw [suspended ⟨c, rfl⟩]; exact if_neg refuses
  | faulted c => rw [faulted ⟨c, rfl⟩]; rfl

/-- Settles O34: the mailbox by whether the new state takes its frame; the write finds room. -/
theorem stateEntryEmptiesTheMailbox : Obligations.StateEntryEmptiesTheMailbox := by
  intro l st event s t u ht hu used room
  have entered : u = s.entering l st event := by
    rw [hu]
    cases event <;> rfl
  have lane : t.lane l = (s.lane l).entered st := by rw [ht, State.lane_changeState, if_pos rfl]
  have before : u.lane l = { s.lane l with config := { (s.lane l).config with state := st } } := by
    rw [entered, State.entering_lane_same]
  have still : (u.clearMailbox l).persist.full = false := by
    rw [State.clearMailbox_persist, entered, State.entering_persist, room]
  have queued : t = (u.clearMailbox l).queueLaneState l := by rw [ht, entered, State.changeState_eq]
  have ports : t.ports = (u.clearMailbox l).ports := by rw [queued, State.queueLaneState_ports l still]
  have kept : t.sansLanes = s.sansLanes := by rw [ht]; exact State.sansLanes_changeState _ _ _ _
  refine ⟨by rw [lane, LaneRecord.entered_config], fun k hk => by rw [ht, State.lane_changeState, if_neg hk], ?_,
    workKept_of_lanes kept, chainKept_of_lanes kept, standingTables_of_lanes kept, fun f mailbox takes => ?_,
    fun f reason mailbox refuses exhausted suspended faulted => ?_, fun empty => ?_⟩
  · have mem := State.mem_queueLaneState l still
    have state : ((u.clearMailbox l).lane l).config.state = st := by
      rw [State.lane_clearMailbox, if_pos rfl, LaneRecord.entered_config, before]
    rw [state, ← queued] at mem
    exact mem
  · have taken : (s.lane l).mailbox.bind (fun f => doorReason st f.kind) = none := by
      rw [mailbox]; exact doorReason_of_takes takes
    rw [lane, LaneRecord.entered_of_taken _ _ taken, ports, State.clearMailbox_of_taken (by rw [before]; exact taken)]
    exact ⟨rfl, rfl⟩
  · have reads := doorReason_of_refused used refuses exhausted suspended faulted
    refine ⟨?_, ?_⟩
    · rw [lane]
      simp [LaneRecord.entered, mailbox, reads]
    · have mailboxU : (u.lane l).mailbox = some f := by rw [before]; exact mailbox
      have refusesU : doorReason (u.lane l).config.state f.kind = some reason := by rw [before]; exact reads
      have till : (u.lane l).config.till = (s.lane l).config.till := by rw [before]
      rw [ports, State.clearMailbox_of_refused mailboxU refusesU, State.refuseAtHand_ports_of_emptied, till]
  · have taken : (s.lane l).mailbox.bind (fun f => doorReason st f.kind) = none := by rw [empty]; rfl
    rw [lane, LaneRecord.entered_of_taken _ _ taken, ports, State.clearMailbox_of_taken (by rw [before]; exact taken)]
    exact ⟨empty, rfl⟩

/-! ## SET-LANE (R32) -/

theorem State.laneComplete_congr {s t : State} (lanes : t.lanes = s.lanes) (slots : t.slots = s.slots) (l : LaneId) :
    t.laneComplete l = s.laneComplete l := by
  have slot : ∀ n, t.slot n = s.slot n := fun n => by rw [State.slot, slots]; rfl
  have active : ∀ n u, t.activeAs n u = s.activeAs n u := fun n u => by cases n <;> simp [State.activeAs, slot]
  simp only [State.laneComplete, State.lane_of_lanes_eq lanes, active, slot, State.otherLane]

/-- READY, or EXHAUSTED where the counter has passed the payment limit (R32). -/
theorem State.bringReady_eq (s : State) (l : LaneId) : s.bringReady l =
    if 4194047 < (s.lane l).counter then (s.modLane l (fun r => { r with tagFailures := 0 })).changeState l .exhausted
      (some (.laneExhausted l (s.lane l).counter))
    else (s.modLane l (fun r => { r with tagFailures := 0 })).changeState l .ready none := by
  unfold State.bringReady
  dsimp only
  rw [State.lane_modLane_same]
  simp only [LaneRecord.spentForPayments, decide_eq_true_eq]
  rfl

/-- An accepted SET-LANE READY, on the lane as it is. -/
theorem exec_setLaneReady {s : State} {p : Port} {f : EthFrame} {g : ControlFrame} {l : LaneId} (h : accepted s p f g)
    (read : g.read = some (.setLane l.val .ready)) :
    exec (.setLaneReady p f) s = .next (((heard s p g).setReady l).1.answer p g (s.controlKey p)
      ⟨((heard s p g).setReady l).2, .none⟩ false) := congrArg _ (State.receiveFrame_setLane h read)

theorem setReady_acts (p : Port) (f : EthFrame) (g : ControlFrame) (l : LaneId) (s ready : State) (h : accepted s p f g)
    (read : g.read = some (.setLane l.val .ready)) (hready : ready = (heard s p g).bringReady l) :
    (((s.lane l).config.state = .ready ∨ (s.lane l).config.state = .exhausted) →
      exec (.setLaneReady p f) s = .next ((heard s p g).answer p g (s.controlKey p) ⟨.done, .none⟩ false)) ∧
    (((s.lane l).config.state = .test ∨ ∃ c, (s.lane l).config.state = .suspended c) →
      exec (.setLaneReady p f) s = .next (ready.answer p g (s.controlKey p) ⟨.done, .none⟩ false)) ∧
    ((s.lane l).config.state = .unused → s.laneComplete l = true → exec (.setLaneReady p f) s =
      .next ((ready.foundedAdvanceTest l).answer p g (s.controlKey p) ⟨.done, .none⟩ false)) ∧
    ((s.lane l).config.state = .unused → s.laneComplete l = false → exec (.setLaneReady p f) s =
      .next ((heard s p g).answer p g (s.controlKey p) ⟨.refused .badReference, .none⟩ false)) ∧
    ((∃ c, (s.lane l).config.state = .faulted c) → exec (.setLaneReady p f) s =
      .next ((heard s p g).answer p g (s.controlKey p) ⟨.refused .state, .none⟩ false)) := by
  have kept := sansControl_heard s p g
  have complete : (heard s p g).laneComplete l = s.laneComplete l :=
    State.laneComplete_congr (State.lanes_of_control kept) (State.slots_of_control kept) l
  rw [exec_setLaneReady h read]
  unfold State.setReady
  rw [lane_heard, complete, hready]
  refine ⟨?_, ?_, fun unused whole => ?_, fun unused part => ?_, ?_⟩
  · rintro (state | state) <;> rw [state]
  · rintro (state | ⟨c, state⟩) <;> rw [state]
  · rw [unused]
    simp only [whole, if_true]
  · rw [unused]
    simp [part]
  · rintro ⟨c, state⟩
    rw [state]

/-- The advance test of a lane that leaves UNUSED, by where its advance could be found (R52; log 20). -/
theorem State.foundedAdvanceTest_cases (s : State) (l : LaneId) :
    (((s.lane l).wantsAdvance = false ∨ s.store.founds (s.advanceWrite l) = true) →
      s.foundedAdvanceTest l = s.advanceTest l) ∧
    ((s.lane l).wantsAdvance = true → s.store.founds (s.advanceWrite l) = false →
      ((∃ w ∈ s.persist.unwritten, w.touchesLane l = true) → s.foundedAdvanceTest l = s.requestAdvance l (joinBehind l)) ∧
      (s.persist.full = true → s.foundedAdvanceTest l = (s.modLane l (fun r => { r with
        advancePending := true })).ceilingFailed l) ∧
      ((∀ w ∈ s.persist.unwritten, w.touchesLane l = false) → s.persist.full = false → s.foundedAdvanceTest l = s)) := by
  refine ⟨?_, fun wants lost => ?_⟩
  · rintro (still | found)
    · simp [State.foundedAdvanceTest, State.advanceTest, still]
    · exact State.foundedAdvanceTest_of_founds s l found
  · unfold State.foundedAdvanceTest
    rw [if_pos wants, lost, if_neg (by simp)]
    refine ⟨fun waits => if_pos ?_, fun full => ?_, fun none room => if_neg ?_⟩
    · rw [Bool.or_eq_true, List.any_eq_true]
      exact .inr waits
    · rw [if_pos (by simp [full]), State.requestAdvance_of_full s l _ full]
    · rw [Bool.or_eq_true, List.any_eq_true, room]
      rintro (full | ⟨w, hw, touches⟩)
      · exact absurd full (by simp)
      · exact absurd ((none w hw).symm.trans touches) (by simp)

theorem setSuspend_acts (s : State) (l : LaneId) :
    (((s.lane l).config.state = .ready ∨ (s.lane l).config.state = .test ∨ (s.lane l).config.state = .exhausted ∨
      (s.lane l).config.state = .suspended .tagFailures) →
        s.setSuspend l = (s.changeState l (.suspended .control) none, .done)) ∧
    ((s.lane l).config.state = .suspended .control → s.setSuspend l = (s, .done)) ∧
    (((s.lane l).config.state = .unused ∨ ∃ c, (s.lane l).config.state = .faulted c) →
      s.setSuspend l = (s, .refused .state)) := by
  unfold State.setSuspend
  refine ⟨?_, fun state => by rw [state], ?_⟩
  · rintro (state | state | state | state) <;> rw [state]
  · rintro (state | ⟨c, state⟩) <;> rw [state]

theorem setTest_acts (s : State) (l : LaneId) :
    ((s.lane l).config.state = .ready → s.setTest l = (s.changeState l .test none, .done)) ∧
    ((s.lane l).config.state = .test → s.setTest l = (s, .done)) ∧
    ((s.lane l).config.state ≠ .ready → (s.lane l).config.state ≠ .test → s.setTest l = (s, .refused .state)) := by
  unfold State.setTest
  refine ⟨fun state => by rw [state], fun state => by rw [state], fun notReady notTest => ?_⟩
  split
  next state => exact absurd state notReady
  next state => exact absurd state notTest
  · rfl

theorem setUnused_acts (s : State) (l : LaneId) :
    ((s.lane l).config.state = .unused → s.setUnused l = (s, .done)) ∧
    ((s.lane l).config.state ≠ .unused → (s.laneIdle l = true → s.setUnused l = ((s.modLane l (fun r => { r with
        recent := [], lastAccepted := none, tagFailures := 0 })).changeState l .unused none, .done)) ∧
      (s.laneIdle l = false → s.setUnused l = (s, .refused .conflict))) := by
  unfold State.setUnused
  refine ⟨fun state => by rw [state], fun used => ?_⟩
  split
  next state => exact absurd state used
  · exact ⟨fun idle => if_pos idle, fun busy => if_neg (by simp [busy])⟩

/-- A lane above 47, in any of the five rows (R169). -/
theorem exec_setLaneRow_beyond {s : State} {p : Port} {f : EthFrame} {g : ControlFrame} {lane : Nat} {a : LaneAction}
    (h : accepted s p f g) (read : g.read = some (.setLane lane a)) (beyond : 48 ≤ lane) :
    exec (setLaneRow a p f) s =
      .next ((heard s p g).answer p g (s.controlKey p) ⟨.refused .malformed, .none⟩ false) := by
  have row : exec (setLaneRow a p f) s = .next (s.receiveFrame p f) := by cases a <;> rfl
  rw [row, State.receiveFrame_of_accepted h]
  simp [State.carryOut, read, State.replyCarried, State.setLaneRequest, Nat.not_lt.mpr beyond, refusal]

/-- Settles O31: action by action, by the state of the lane. -/
theorem setLaneActs : Obligations.SetLaneActs := by
  refine ⟨fun p f g l s ready h read hready => ?_, fun p f g l a s reply h read hreply => ?_,
    fun p f g lane a s h read beyond => exec_setLaneRow_beyond h read beyond⟩
  · have brought : ready = (heard s p g).bringReady l := by rw [hready, State.bringReady_eq, lane_heard]
    obtain ⟨stands, rises, whole, part, faulted⟩ := setReady_acts p f g l s ready h read brought
    exact ⟨stands, rises, fun unused complete =>
      ⟨_, whole unused complete, ready.foundedAdvanceTest_cases l⟩, part, faulted⟩
  · have receive := State.receiveFrame_setLane h read
    refine ⟨?_, ?_, ?_⟩
    · rintro rfl
      have ran : exec (.setLaneSuspend p f) s = .next (s.receiveFrame p f) := rfl
      obtain ⟨acts, stands, refused⟩ := setSuspend_acts (heard s p g) l
      rw [lane_heard] at acts stands refused
      rw [ran, receive, State.setLaneAs, hreply, hreply, hreply]
      refine ⟨fun state => ?_, fun state => ?_, fun state => ?_⟩
      · rw [acts state]
      · rw [stands state]
      · rw [refused state]
    · rintro rfl
      have ran : exec (.setLaneTest p f) s = .next (s.receiveFrame p f) := rfl
      obtain ⟨acts, stands, refused⟩ := setTest_acts (heard s p g) l
      rw [lane_heard] at acts stands refused
      rw [ran, receive, State.setLaneAs, hreply, hreply, hreply]
      refine ⟨fun state => ?_, fun state => ?_, fun notReady notTest => ?_⟩
      · rw [acts state]
      · rw [stands state]
      · rw [refused notReady notTest]
    · rintro rfl
      have ran : exec (.setLaneUnused p f) s = .next (s.receiveFrame p f) := rfl
      obtain ⟨stands, acts⟩ := setUnused_acts (heard s p g) l
      rw [lane_heard, laneIdle_heard] at acts
      rw [lane_heard] at stands
      rw [ran, receive, State.setLaneAs, hreply, hreply, hreply]
      refine ⟨fun state => ?_, fun used => ⟨fun idle => ?_, fun busy => ?_⟩⟩
      · rw [stands state]
      · rw [(acts used).1 idle]
      · rw [(acts used).2 busy]

end Sys2Proof.Machine
end

section
/-! SUPPORT. The records of the Persistent Store under a write that begins or ends (R178 to R180), and the end of a write. -/

namespace Sys2Proof.Machine

open Sys2Proof.Safety

/-! ## Records that read alike -/

theorem sameRecord_refl (a : PersistentStore) (x : RecordName) : sameRecord a a x := by
  cases x <;> rfl

theorem sameRecord_trans {a b c : PersistentStore} {x : RecordName} (h : sameRecord a b x) (k : sameRecord b c x) :
    sameRecord a c x := by
  cases x <;> exact Eq.trans k h

/-- All contents are present as they were exactly where every record reads alike. -/
theorem presentKept_iff (a b : PersistentStore) : presentKept a b ↔ ∀ x, sameRecord a b x := by
  constructor
  · rintro ⟨settings, slots, lanes, ceilings, classes, places, epoch⟩ x
    cases x with
    | settings => exact settings
    | slot n => exact slots n
    | lane l => exact lanes l
    | ceiling l => exact ceilings l
    | standIn c => exact classes c
    | logPlace p => exact places p
    | epoch => exact epoch
  · intro h
    exact ⟨h .settings, fun n => h (.slot n), fun l => h (.lane l), fun l => h (.ceiling l), fun c => h (.standIn c),
      fun p => h (.logPlace p), h .epoch⟩

/-! ## One record written -/

theorem sameRecord_modSlot {t : PersistentStore} {n : SlotId} (f : Stored SlotRecord → Stored SlotRecord) {x : RecordName}
    (h : x ≠ .slot n) : sameRecord t (t.modSlot n f) x := by
  cases x with
  | slot m =>
    have ne : n.val ≠ m.val := fun e => h (by rw [Fin.ext e])
    simp [sameRecord, PersistentStore.modSlot, Vector.getElem_set_ne, ne]
  | _ => rfl

theorem sameRecord_modLane {t : PersistentStore} {l : LaneId} (f : Stored LaneConfig → Stored LaneConfig) {x : RecordName}
    (h : x ≠ .lane l) : sameRecord t (t.modLane l f) x := by
  cases x with
  | lane m =>
    have ne : l.val ≠ m.val := fun e => h (by rw [Fin.ext e])
    simp [sameRecord, PersistentStore.modLane, Vector.getElem_set_ne, ne]
  | _ => rfl

theorem sameRecord_modCeiling {t : PersistentStore} {l : LaneId}
    (f : Stored (Option CeilingRecord) → Stored (Option CeilingRecord)) {x : RecordName} (h : x ≠ .ceiling l) :
    sameRecord t (t.modCeiling l f) x := by
  cases x with
  | ceiling m =>
    have ne : l.val ≠ m.val := fun e => h (by rw [Fin.ext e])
    simp [sameRecord, PersistentStore.modCeiling, Vector.getElem_set_ne, ne]
  | _ => rfl

theorem sameRecord_modClass {t : PersistentStore} {c : CardClass} (f : Stored ClassRecord → Stored ClassRecord)
    {x : RecordName} (h : x ≠ .standIn c) : sameRecord t (t.modClass c f) x := by
  cases x with
  | standIn m =>
    have ne : c.val ≠ m.val := fun e => h (by rw [Fin.ext e])
    simp [sameRecord, PersistentStore.modClass, Vector.getElem_set_ne, ne]
  | _ => rfl

theorem sameRecord_modPlace {t : PersistentStore} {p : PlaceId}
    (f : Stored (Option LogEntry) → Stored (Option LogEntry)) {x : RecordName} (h : x ≠ .logPlace p) :
    sameRecord t (t.modPlace p f) x := by
  cases x with
  | logPlace q =>
    have ne : q ≠ p := fun e => h (by rw [e])
    exact congrArg Stored.read (logGet_logPut_ne _ ne)
  | _ => rfl

@[simp] theorem PersistentStore.modSlot_same (t : PersistentStore) (n : SlotId) (f : Stored SlotRecord → Stored SlotRecord) :
    (t.modSlot n f).slots[n] = f t.slots[n] := by
  simp [PersistentStore.modSlot]

@[simp] theorem PersistentStore.modLane_same (t : PersistentStore) (l : LaneId) (f : Stored LaneConfig → Stored LaneConfig) :
    (t.modLane l f).lanes[l] = f t.lanes[l] := by
  simp [PersistentStore.modLane]

@[simp] theorem PersistentStore.modCeiling_same (t : PersistentStore) (l : LaneId)
    (f : Stored (Option CeilingRecord) → Stored (Option CeilingRecord)) :
    (t.modCeiling l f).ceilings[l] = f t.ceilings[l] := by
  simp [PersistentStore.modCeiling]

@[simp] theorem PersistentStore.modClass_same (t : PersistentStore) (c : CardClass)
    (f : Stored ClassRecord → Stored ClassRecord) : (t.modClass c f).standIn[c] = f t.standIn[c] := by
  simp [PersistentStore.modClass]

theorem PersistentStore.modPlace_same {t : PersistentStore} (p : PlaceId)
    (f : Stored (Option LogEntry) → Stored (Option LogEntry)) (form : logForm t.log = true) :
    logGet (t.modPlace p f).log p = f (logGet t.log p) := logGet_logPut_same p _ form

/-- A write that begins changes no record's present contents: slot by slot, lane by lane and so on. -/
theorem sameRecord_modSlot_begin (t : PersistentStore) (n : SlotId) (x : RecordName) :
    sameRecord t (t.modSlot n .begin) x := by
  by_cases h : x = .slot n
  · subst h
    rw [sameRecord, PersistentStore.modSlot_same, Stored.read_begin]
  · exact sameRecord_modSlot _ h

theorem sameRecord_modLane_begin (t : PersistentStore) (l : LaneId) (x : RecordName) :
    sameRecord t (t.modLane l .begin) x := by
  by_cases h : x = .lane l
  · subst h
    rw [sameRecord, PersistentStore.modLane_same, Stored.read_begin]
  · exact sameRecord_modLane _ h

theorem sameRecord_modCeiling_begin (t : PersistentStore) (l : LaneId) (x : RecordName) :
    sameRecord t (t.modCeiling l .begin) x := by
  by_cases h : x = .ceiling l
  · subst h
    rw [sameRecord, PersistentStore.modCeiling_same, Stored.read_begin]
  · exact sameRecord_modCeiling _ h

theorem sameRecord_modClass_begin (t : PersistentStore) (c : CardClass) (x : RecordName) :
    sameRecord t (t.modClass c .begin) x := by
  by_cases h : x = .standIn c
  · subst h
    rw [sameRecord, PersistentStore.modClass_same, Stored.read_begin]
  · exact sameRecord_modClass _ h

theorem sameRecord_modPlace_begin {t : PersistentStore} (p : PlaceId) (form : logForm t.log = true) (x : RecordName) :
    sameRecord t (t.modPlace p .begin) x := by
  by_cases h : x = .logPlace p
  · subst h
    rw [sameRecord, PersistentStore.modPlace_same p _ form, Stored.read_begin]
  · exact sameRecord_modPlace _ h

/-! ## A list of records written -/

theorem sameRecord_foldl {α : Type} {op : PersistentStore → α → PersistentStore} {x : RecordName} (xs : List α)
    (keeps : ∀ t, ∀ a ∈ xs, sameRecord t (op t a) x) (t : PersistentStore) : sameRecord t (xs.foldl op t) x := by
  induction xs generalizing t with
  | nil => exact sameRecord_refl t x
  | cons a xs ih =>
    exact sameRecord_trans (keeps t a (List.mem_cons_self ..)) (ih (fun t b hb => keeps t b (List.mem_cons_of_mem _ hb)) _)

/-- Of records written once each, every one reads as it was written. -/
theorem foldl_reads {κ ν : Type} {op : PersistentStore → κ × ν → PersistentStore} (reads : PersistentStore → κ → ν → Prop)
    (sets : ∀ t x, reads (op t x) x.1 x.2) (keeps : ∀ t x k v, k ≠ x.1 → reads t k v → reads (op t x) k v)
    {xs : List (κ × ν)} (once : (xs.map Prod.fst).Nodup) {k : κ} {v : ν} (mem : (k, v) ∈ xs) (t : PersistentStore) :
    reads (xs.foldl op t) k v := by
  have stays : ∀ (ys : List (κ × ν)) (t : PersistentStore), k ∉ ys.map Prod.fst → reads t k v → reads (ys.foldl op t) k v := by
    intro ys
    induction ys with
    | nil => exact fun t _ h => h
    | cons y ys ih =>
      intro t fresh h
      rw [List.map_cons, List.mem_cons, not_or] at fresh
      exact ih _ fresh.2 (keeps t y k v fresh.1 h)
  induction xs generalizing t with
  | nil => exact absurd mem (by simp)
  | cons x xs ih =>
    rw [List.map_cons, List.nodup_cons] at once
    rcases List.mem_cons.mp mem with rfl | mem
    · exact stays xs _ once.1 (sets t _)
    · exact ih once.2 mem _

/-! ## Commit groups -/

/-- The settings block of a group, then its slots, its lanes and its classes: a record of none of these reads as before. -/
theorem sameRecord_onStore {g : CommitGroup} {settings : SettingsBlock → Stored SettingsBlock → Stored SettingsBlock}
    {slots : SlotRecord → Stored SlotRecord → Stored SlotRecord} {lanes : LaneConfig → Stored LaneConfig → Stored LaneConfig}
    {classes : ClassRecord → Stored ClassRecord → Stored ClassRecord} {x : RecordName} (t : PersistentStore)
    (hs : ∀ b u, g.settings = some b → sameRecord u { u with settings := settings b u.settings } x)
    (hn : ∀ y ∈ g.slots, ∀ u : PersistentStore, sameRecord u (u.modSlot y.1 (slots y.2)) x)
    (hl : ∀ y ∈ g.lanes, ∀ u : PersistentStore, sameRecord u (u.modLane y.1 (lanes y.2)) x)
    (hc : ∀ y ∈ g.classes, ∀ u : PersistentStore, sameRecord u (u.modClass y.1 (classes y.2)) x) :
    sameRecord t (g.onStore t settings slots lanes classes) x := by
  unfold CommitGroup.onStore
  dsimp only
  refine sameRecord_trans ?_ (sameRecord_foldl g.classes (fun u y hy => hc y hy u) _)
  refine sameRecord_trans ?_ (sameRecord_foldl g.lanes (fun u y hy => hl y hy u) _)
  refine sameRecord_trans ?_ (sameRecord_foldl g.slots (fun u y hy => hn y hy u) _)
  split
  next b hb => exact hs b t hb
  · exact sameRecord_refl t x

/-- A write that begins leaves every record's present contents (R178). -/
theorem Write.sameRecord_beginOn (w : Write) {t : PersistentStore} (x : RecordName)
    (form : (∀ p, x ≠ .logPlace p) ∨ logForm t.log = true) : sameRecord t (w.beginOn t) x := by
  have place : ∀ p, sameRecord t (t.modPlace p .begin) x := by
    intro p
    rcases form with other | form
    · exact sameRecord_modPlace _ (other p)
    · exact sameRecord_modPlace_begin p form x
  cases w with
  | group g =>
    refine sameRecord_onStore t (fun b u _ => ?_) (fun y _ u => sameRecord_modSlot_begin u y.1 x)
      (fun y _ u => sameRecord_modLane_begin u y.1 x) (fun y _ u => sameRecord_modClass_begin u y.1 x)
    cases x with
    | settings => exact Stored.read_begin _
    | _ => rfl
  | ceiling l base gen target stale => exact sameRecord_modCeiling_begin t l x
  | laneState l st => exact sameRecord_modLane_begin t l x
  | slotState n r => exact sameRecord_modSlot_begin t n x
  | append e src till => exact place e.place
  | update e => exact place e.place
  | removal p serial c => exact place p
  | epoch n =>
    cases x with
    | epoch => exact Stored.read_begin _
    | _ => rfl

/-- A write that completes leaves every record that is not its own (R178, R180). -/
theorem Write.sameRecord_completeOn (w : Write) (image : Option LaneConfig) (t : PersistentStore) {x : RecordName}
    (other : x ∉ recordsOf w) : sameRecord t (w.completeOn image t) x := by
  cases w with
  | group g =>
    simp only [recordsOf, List.mem_append, List.mem_map, not_or, not_exists, not_and] at other
    obtain ⟨⟨⟨settings, slots⟩, lanes⟩, classes⟩ := other
    refine sameRecord_onStore t (fun b u hb => ?_) (fun y hy u => sameRecord_modSlot _ (fun e => slots y hy e.symm))
      (fun y hy u => sameRecord_modLane _ (fun e => lanes y hy e.symm))
      (fun y hy u => sameRecord_modClass _ (fun e => classes y hy e.symm))
    cases x with
    | settings => exact absurd rfl (settings b (by simp [hb]))
    | _ => rfl
  | ceiling l base gen target stale => exact sameRecord_modCeiling _ (by simpa [recordsOf] using other)
  | laneState l st => exact sameRecord_modLane _ (by simpa [recordsOf] using other)
  | slotState n r => exact sameRecord_modSlot _ (by simpa [recordsOf] using other)
  | append e src till => exact sameRecord_modPlace _ (by simpa [recordsOf] using other)
  | update e => exact sameRecord_modPlace _ (by simpa [recordsOf] using other)
  | removal p serial c => exact sameRecord_modPlace _ (by simpa [recordsOf] using other)
  | epoch n =>
    cases x with
    | epoch => exact absurd (by simp [recordsOf]) other
    | _ => rfl

/-- A group that completes makes its settings block, every slot, every lane and every class present (R180). -/
theorem CommitGroup.completeOn_reads (g : CommitGroup) (image : Option LaneConfig) (t : PersistentStore)
    (slotsOnce : (g.slots.map Prod.fst).Nodup) (lanesOnce : (g.lanes.map Prod.fst).Nodup)
    (classesOnce : (g.classes.map Prod.fst).Nodup) :
    (∀ b, g.settings = some b → ((Write.group g).completeOn image t).settings.read = some b) ∧
    (∀ n r, (n, r) ∈ g.slots → ((Write.group g).completeOn image t).slots[n].read = some r) ∧
    (∀ l c, (l, c) ∈ g.lanes → ((Write.group g).completeOn image t).lanes[l].read = some c) ∧
    (∀ k r, (k, r) ∈ g.classes → ((Write.group g).completeOn image t).standIn[k].read = some r) := by
  have slot : ∀ (u : PersistentStore) n r, (n, r) ∈ g.slots →
      (g.slots.foldl (fun t x => t.modSlot x.1 (fun y => y.complete x.2)) u).slots[n].read = some r := by
    intro u n r mem
    refine foldl_reads (fun t k v => t.slots[k].read = some v) (fun t x => ?_) (fun t x k v ne h => ?_) slotsOnce mem u
    · rw [PersistentStore.modSlot_same, Stored.read_complete]
    · exact (sameRecord_modSlot (x := .slot k) _ (by simpa using ne)).trans h
  have lane : ∀ (u : PersistentStore) l c, (l, c) ∈ g.lanes →
      (g.lanes.foldl (fun t x => t.modLane x.1 (fun y => y.complete x.2)) u).lanes[l].read = some c := by
    intro u l c mem
    refine foldl_reads (fun t k v => t.lanes[k].read = some v) (fun t x => ?_) (fun t x k v ne h => ?_) lanesOnce mem u
    · rw [PersistentStore.modLane_same, Stored.read_complete]
    · exact (sameRecord_modLane (x := .lane k) _ (by simpa using ne)).trans h
  have standIn : ∀ (u : PersistentStore) k r, (k, r) ∈ g.classes →
      (g.classes.foldl (fun t x => t.modClass x.1 (fun y => y.complete x.2)) u).standIn[k].read = some r := by
    intro u k r mem
    refine foldl_reads (fun t k v => t.standIn[k].read = some v) (fun t x => ?_) (fun t x k v ne h => ?_) classesOnce mem u
    · rw [PersistentStore.modClass_same, Stored.read_complete]
    · exact (sameRecord_modClass (x := .standIn k) _ (by simpa using ne)).trans h
  have pastSlots : ∀ (u : PersistentStore) (x : RecordName), (∀ n, x ≠ .slot n) → sameRecord u
      (g.slots.foldl (fun t y => t.modSlot y.1 (fun z => z.complete y.2)) u) x := fun u x h =>
    sameRecord_foldl g.slots (fun t y _ => sameRecord_modSlot _ (h y.1)) u
  have pastLanes : ∀ (u : PersistentStore) (x : RecordName), (∀ l, x ≠ .lane l) → sameRecord u
      (g.lanes.foldl (fun t y => t.modLane y.1 (fun z => z.complete y.2)) u) x := fun u x h =>
    sameRecord_foldl g.lanes (fun t y _ => sameRecord_modLane _ (h y.1)) u
  have pastClasses : ∀ (u : PersistentStore) (x : RecordName), (∀ k, x ≠ .standIn k) → sameRecord u
      (g.classes.foldl (fun t y => t.modClass y.1 (fun z => z.complete y.2)) u) x := fun u x h =>
    sameRecord_foldl g.classes (fun t y _ => sameRecord_modClass _ (h y.1)) u
  unfold Write.completeOn CommitGroup.onStore
  dsimp only
  refine ⟨fun b hb => ?_, fun n r mem => ?_, fun l c mem => ?_, fun k r mem => standIn _ k r mem⟩
  · rw [hb]
    exact (pastClasses _ .settings (by simp)).trans ((pastLanes _ .settings (by simp)).trans
      ((pastSlots _ .settings (by simp)).trans (Stored.read_complete _ b)))
  · exact (pastClasses _ (.slot n) (by simp)).trans ((pastLanes _ (.slot n) (by simp)).trans (slot _ n r mem))
  · exact (pastClasses _ (.lane l) (by simp)).trans (lane _ l c mem)

/-! ## The end of a write (R178 to R181) -/

/-- The store as the write that ended leaves it, before the next one begins. -/
def State.storeAfter (s : State) (w : Write) : WriteResult → PersistentStore
  | .completed => w.completeOn s.persist.image s.store
  | .failed => s.store

/-- With nothing waiting, a write that ends leaves the queue empty. -/
theorem State.endWrite_of_last {s : State} (w : Write) (r : WriteResult) (h : s.persist.waiting = []) :
    s.endWrite w r = { s with persist := ⟨none, [], none⟩, store := s.storeAfter w r } := by
  unfold State.endWrite State.pump
  dsimp only
  rw [h]
  cases r <;> rfl

/-- Otherwise the first that waits begins. -/
theorem State.endWrite_of_next {s : State} (w : Write) (r : WriteResult) {next : Write} {rest : List Write}
    (h : s.persist.waiting = next :: rest) :
    s.endWrite w r = { s with
      persist := ⟨some next, rest, next.imageOn (s.storeAfter w r)⟩
      store := next.beginOn (s.storeAfter w r) } := by
  unfold State.endWrite State.pump
  dsimp only
  rw [h]
  cases r <;> rfl

/-- The next write that begins leaves every record as the ended one left it. -/
theorem State.sameRecord_endWrite (s : State) (w : Write) (r : WriteResult) (x : RecordName)
    (form : (∀ p, x ≠ .logPlace p) ∨ logForm (s.storeAfter w r).log = true) :
    sameRecord (s.storeAfter w r) (s.endWrite w r).store x := by
  cases h : s.persist.waiting with
  | nil => rw [State.endWrite_of_last w r h]; exact sameRecord_refl _ x
  | cons next rest => rw [State.endWrite_of_next w r h]; exact next.sameRecord_beginOn x form

theorem State.storeAfter_form (s : State) (w : Write) (r : WriteResult) (form : storeForm s) :
    logForm (s.storeAfter w r).log = true := by
  cases r with
  | completed => exact w.completeOn_form _ _ form
  | failed => exact form

theorem State.endWrite_image {s : State} (w : Write) (r : WriteResult) :
    (∀ l st, s.persist.waiting.head? = some (.laneState l st) → (s.endWrite w r).persist.image =
      ((s.endWrite w r).store.lanes[l].read).map (fun c => { c with state := st })) ∧
    ((∀ l st, s.persist.waiting.head? ≠ some (.laneState l st)) → (s.endWrite w r).persist.image = none) := by
  cases h : s.persist.waiting with
  | nil =>
    rw [State.endWrite_of_last w r h]
    exact ⟨fun l st head => absurd head (by simp), fun _ => rfl⟩
  | cons next rest =>
    have kept : ∀ x, (∀ p, x ≠ .logPlace p) → sameRecord (s.storeAfter w r) (s.endWrite w r).store x := fun x hx =>
      s.sameRecord_endWrite w r x (.inl hx)
    have image : (s.endWrite w r).persist.image = next.imageOn (s.storeAfter w r) := by
      rw [State.endWrite_of_next w r h]
    refine ⟨fun l st head => ?_, fun other => ?_⟩
    · have is : next = .laneState l st := by simpa using head
      have read : (s.endWrite w r).store.lanes[l].read = (s.storeAfter w r).lanes[l].read := kept (.lane l) (by simp)
      rw [image, is, read]
      rfl
    · rw [image]
      cases next with
      | laneState l st => exact absurd rfl (other l st)
      | _ => rfl

/-- Settles O58: the store as the write left it, then the next write that begins, which no record's present contents show. -/
theorem writeEnds : Obligations.WriteEnds := by
  intro w s current form
  have after : ∀ r x, sameRecord (s.storeAfter w r) (s.endWrite w r).store x := fun r x =>
    s.sameRecord_endWrite w r x (.inr (s.storeAfter_form w r form))
  have done : ∀ x, sameRecord (w.completeOn s.persist.image s.store) (s.endWrite w .completed).store x := after .completed
  refine ⟨fun r t ht => ?_, ?_, fun g hw slots lanes classes => ?_, fun l base gen target stale hw => ?_,
    fun l st hw => ⟨fun c image => ?_, fun image => ?_⟩, fun n r hw => ?_, fun e src till hw => ?_, fun e hw => ?_,
    fun p serial c hw => ?_, fun n hw => ?_⟩
  · subst ht
    obtain ⟨images, others⟩ := State.endWrite_image (s := s) w r
    obtain ⟨q, d, only⟩ := s.endWrite_form w r
    have queue : (s.endWrite w r).persist.current = s.persist.waiting.head? ∧
        (s.endWrite w r).persist.waiting = s.persist.waiting.tail := by
      cases h : s.persist.waiting with
      | nil => rw [State.endWrite_of_last w r h]; exact ⟨rfl, rfl⟩
      | cons next rest => rw [State.endWrite_of_next w r h]; exact ⟨rfl, rfl⟩
    refine ⟨queue.1, queue.2, images, others, fun x other => ?_, ?_, ?_, ?_, ?_, ?_, ?_, ?_⟩
    · refine sameRecord_trans ?_ (after r x)
      cases r with
      | completed => exact w.sameRecord_completeOn _ _ other
      | failed => exact sameRecord_refl _ x
    all_goals rw [only]
    · exact ⟨rfl, rfl, rfl, rfl⟩
    · exact ⟨rfl, rfl, rfl⟩
    · exact ⟨rfl, rfl, rfl, rfl⟩
    · exact ⟨rfl, rfl, rfl, rfl⟩
    · exact ⟨rfl, rfl, rfl, rfl, rfl, rfl⟩
  · rw [presentKept_iff]
    exact after .failed
  · subst hw
    obtain ⟨settings, slot, lane, standIn⟩ := g.completeOn_reads s.persist.image s.store slots lanes classes
    exact ⟨fun b hb => (done .settings).trans (settings b hb), fun n r mem => (done (.slot n)).trans (slot n r mem),
      fun l c mem => (done (.lane l)).trans (lane l c mem), fun k r mem => (done (.standIn k)).trans (standIn k r mem)⟩
  · subst hw
    refine (done (.ceiling l)).trans ?_
    rw [Write.completeOn, PersistentStore.modCeiling_same, Stored.read_complete]
  · subst hw
    refine (done (.lane l)).trans ?_
    rw [Write.completeOn, PersistentStore.modLane_same, image, completeLaneState_read]
  · subst hw
    refine (done (.lane l)).trans ?_
    rw [Write.completeOn, PersistentStore.modLane_same, image]
    rfl
  · subst hw
    refine (done (.slot n)).trans ?_
    rw [Write.completeOn, PersistentStore.modSlot_same, Stored.read_complete]
  · subst hw
    refine (done (.logPlace e.place)).trans ?_
    rw [Write.completeOn, PersistentStore.modPlace_same _ _ form, Stored.read_complete]
  · subst hw
    refine (done (.logPlace e.place)).trans ?_
    rw [Write.completeOn, PersistentStore.modPlace_same _ _ form, Stored.read_complete]
  · subst hw
    refine (done (.logPlace p)).trans ?_
    rw [Write.completeOn, PersistentStore.modPlace_same _ _ form, Stored.read_complete]
  · subst hw
    refine (done .epoch).trans ?_
    rw [Write.completeOn, Stored.read_complete]

end Sys2Proof.Machine
end

section
/-! SUPPORT. The reports of the Persist Queue (R52, R53, R124 to R126, R180, R181). -/

namespace Sys2Proof.Machine

open Sys2Proof.Safety

/-! ## A commit group that fails -/

theorem State.endWrite_withLanes (s : State) (d : Vector LaneRecord 48) (w : Write) (r : WriteResult) :
    State.endWrite { s with lanes := d } w r = { s.endWrite w r with lanes := d } := by
  cases h : s.persist.waiting with
  | nil => rw [State.endWrite_of_last w r (s := { s with lanes := d }) h, State.endWrite_of_last w r h]; rfl
  | cons next rest => rw [State.endWrite_of_next w r (s := { s with lanes := d }) h, State.endWrite_of_next w r h]; rfl

/-- The advances withdrawn while a group is written: their writes leave those that wait, and the group stays. -/
theorem State.withdrawAdvances (g : CommitGroup) (ls : List LaneId) (s : State) (h : s.persist.current = some (.group g)) :
    ls.foldl State.withdrawAdvance s = { s with
      lanes := (ls.foldl State.withdrawAdvance s).lanes
      persist := { s.persist with waiting := s.persist.waiting.filter (fun w => ls.all (fun l => !w.isCeilingOf l)) } } := by
  induction ls generalizing s with
  | nil => simp
  | cons l ls ih =>
    have current : (s.withdrawAdvance l).persist.current = some (.group g) := by
      rw [State.withdrawAdvance, State.modLane_persist, State.dropCeilings, h]
      rfl
    rw [List.foldl_cons, ih _ current]
    simp only [State.withdrawAdvance, State.dropCeilings, State.modLane, State.setLane, h, Option.map_some, Write.stale,
      List.filter_filter, List.all_cons, Bool.and_comm]

theorem State.withdrawAdvance_lane (s : State) (k l : LaneId) :
    (s.withdrawAdvance k).lane l =
      { s.lane l with advancePending := if l = k then false else (s.lane l).advancePending } := by
  unfold State.withdrawAdvance
  by_cases e : l = k
  · subst e
    rw [State.lane_modLane_same, if_pos rfl]
    rfl
  · rw [State.lane_modLane_ne _ _ e, if_neg e]
    rfl

theorem State.withdrawAdvances_lane (ls : List LaneId) (s : State) (l : LaneId) :
    (ls.foldl State.withdrawAdvance s).lane l =
      { s.lane l with advancePending := if l ∈ ls then false else (s.lane l).advancePending } := by
  induction ls generalizing s with
  | nil => simp
  | cons k ls ih =>
    rw [List.foldl_cons, ih, State.withdrawAdvance_lane]
    by_cases e : l = k <;> simp [e]

theorem State.lastCommitWritten_iff (s : State) (l : LaneId) :
    s.lastCommitWritten l = true ↔ (s.lane l).lostCommit = none ∧ ∀ w ∈ s.persist.waiting, w.touchesLane l = false := by
  simp [State.lastCommitWritten]

theorem CommitGroup.keepLost_only (g : CommitGroup) (last : LaneId → Bool) (l : LaneId) (r : LaneRecord) :
    g.keepLost last l r = { r with lostCommit := (g.keepLost last l r).lostCommit } := by
  unfold CommitGroup.keepLost
  split <;> rfl

/-- What a failed group leaves of a lane. -/
theorem State.groupFailed_lane (s : State) (g : CommitGroup) (l : LaneId) :
    (s.groupFailed g).lane l = g.keepLost s.lastCommitWritten l { s.lane l with
      advancePending := if l ∈ s.persist.standOn g s.store then false else (s.lane l).advancePending } := by
  unfold State.groupFailed
  rw [State.loseGroup_lane, ← State.withdrawAdvances_lane]
  congr 1
  obtain ⟨q, d, e⟩ := ((s.persist.standOn g s.store).foldl State.withdrawAdvance s).endWrite_form (.group g) .failed
  rw [e]
  rfl

/-- But for the lanes, a failed group is a group's write that ends without the advances that stand on it. -/
theorem State.groupFailed_eq (s : State) (g : CommitGroup) (h : s.persist.current = some (.group g)) :
    s.groupFailed g = (({ s with
      lanes := (s.groupFailed g).lanes
      persist := { s.persist with waiting := s.persist.waiting.filter (fun w =>
        (s.persist.standOn g s.store).all (fun l => !w.isCeilingOf l)) } } : State).endWrite (.group g) .failed).raise
      (.persistFail .write (some .commitGroup) (some (.tables g.tables))) := by
  unfold State.groupFailed State.loseGroup State.writeFailed
  rw [State.raise_lanes, State.withdrawAdvances g _ s h]
  generalize ((s.persist.standOn g s.store).foldl State.withdrawAdvance s).lanes = d
  generalize s.persist.waiting.filter (fun w => (s.persist.standOn g s.store).all (fun l => !w.isCeilingOf l)) = ws
  rw [State.endWrite_withLanes { s with persist := { s.persist with waiting := ws } } d]
  dsimp only
  rw [← State.endWrite_withLanes { s with persist := { s.persist with waiting := ws } }]

/-- Settles O59: the group's advances withdrawn and its lanes; the others as the commands are defined. -/
theorem writesReported : Obligations.WritesReported := by
  refine ⟨fun s => ⟨fun g hg => ⟨?_, fun lost hl => ⟨s.groupFailed g, ?_, ?_, fun l => ?_, fun l hm => ?_, fun l hm => ?_,
    fun l c hc hn hw => ?_, fun l hno => ?_⟩⟩, fun l st h => ⟨?_, ?_⟩, fun n x h => ⟨?_, ?_⟩, fun e h => ⟨?_, ?_⟩,
    fun p serial c h => ⟨?_, ?_⟩⟩, fun t l base gen target stale => ⟨fun c hc => ?_, fun hn => ?_⟩,
    fun l base gen target s => ⟨fun h => ⟨?_, ?_⟩, fun h => ⟨?_, ?_⟩⟩⟩
  · simp only [exec, execCommitGroupWrite, State.groupReported, hg]
  · simp only [exec, execCommitGroupWrite, State.groupReported, hg]
  · subst hl
    exact s.groupFailed_eq g hg
  · rw [State.groupFailed_lane, CommitGroup.keepLost_only]
  · subst hl
    rw [State.groupFailed_lane, CommitGroup.keepLost_only]
    exact if_pos hm
  · subst hl
    rw [State.groupFailed_lane, CommitGroup.keepLost_only]
    exact if_neg hm
  · rw [State.groupFailed_lane, CommitGroup.keepLost_of_last _ _ _ _ c ((s.lastCommitWritten_iff l).mpr ⟨hn, hw⟩) hc]
  · rw [State.groupFailed_lane, CommitGroup.keepLost_of_later]
    by_cases last : s.lastCommitWritten l = true
    · obtain ⟨hn, hw⟩ := (s.lastCommitWritten_iff l).mp last
      rcases hno with none | some | ⟨w, hm, touches⟩
      · exact .inr none
      · exact absurd hn some
      · rw [hw w hm] at touches
        exact absurd touches (by decide)
    · exact .inl (by simpa using last)
  · simp only [exec, execLaneStateWrite, State.laneStateReported, h]
  · simp only [exec, execLaneStateWrite, State.laneStateReported, h]
    rfl
  · simp only [exec, execSlotStateWrite, State.slotStateReported, h]
  · simp only [exec, execSlotStateWrite, State.slotStateReported, h]
    rfl
  · simp only [exec, execLogUpdateWrite, State.updateReported, h]
  · simp only [exec, execLogUpdateWrite, State.updateReported, h]
    rfl
  · simp only [exec, execLogRemovalWrite, State.removalReported, h]
  · simp only [exec, execLogRemovalWrite, State.removalReported, h]
    rfl
  · simp only [PersistentStore.founds, hc, Bool.and_eq_true, decide_eq_true_eq, and_assoc]
  · simp only [PersistentStore.founds, hn]
  · simp only [exec, execCeilingWriteDone, State.ceilingCompleted, h]
    rfl
  · simp only [exec, execCeilingWriteFailed, State.ceilingReportedFailed, h]
    rfl
  · simp only [exec, execCeilingWriteDone, State.ceilingCompleted, h]
    rfl
  · simp only [exec, execCeilingWriteFailed, State.ceilingReportedFailed, h]
    rfl

/-! ## An append that is reported (R124, R125) -/

theorem State.endWrite_logEntry (s : State) (w : Write) (r : WriteResult) (serial : Nat) :
    (s.endWrite w r).logEntry serial = s.logEntry serial := by
  obtain ⟨q, d, e⟩ := s.endWrite_form w r
  rw [e]
  rfl

theorem cancelsOf_of_none {serial : Nat} {ws : List Write} (h : ∀ w ∈ ws, w.isRemovalOf serial = false) :
    cancelsOf serial ws = [] := by
  induction ws with
  | nil => rfl
  | cons w ws ih =>
    have rest := ih (fun x hx => h x (List.mem_cons_of_mem _ hx))
    have this := h w (List.mem_cons_self ..)
    cases w with
    | removal q n c =>
      have ne : n ≠ serial := by simpa [Write.isRemovalOf] using this
      simp only [cancelsOf, List.filterMap_cons, if_neg ne]
      exact rest
    | _ => exact rest

theorem cancelsOf_append (serial : Nat) (ws vs : List Write) :
    cancelsOf serial (ws ++ vs) = cancelsOf serial ws ++ cancelsOf serial vs := List.filterMap_append

theorem filter_removals_of_none {serial : Nat} {ws : List Write} (h : ∀ w ∈ ws, w.isRemovalOf serial = false) :
    ws.filter (fun w => !w.isRemovalOf serial) = ws :=
  List.filter_eq_self.mpr (fun w hw => by rw [h w hw]; rfl)

theorem State.dropRemovals_of_none {s : State} {serial : Nat} (h : ∀ w ∈ s.persist.waiting, w.isRemovalOf serial = false) :
    s.dropRemovals serial = s := by
  unfold State.dropRemovals
  rw [filter_removals_of_none h]

theorem State.exec_appendWriteFailed {s : State} {e : LogEntry} {src : Option Mac} {till : Nat}
    (h : s.persist.current = some (.append e src till)) :
    exec .appendWriteFailed s = .next (((s.dropRemovals e.serial).endWrite (.append e src till) .failed).appendFailed e
      src till (cancelsOf e.serial s.persist.waiting)) := by
  simp only [exec, execAppendWriteFailed, State.appendReportedFailed, h]

theorem State.exec_appendWriteDone {s : State} {e : LogEntry} {src : Option Mac} {till : Nat}
    (h : s.persist.current = some (.append e src till)) :
    exec .appendWriteDone s = .next ((s.endWrite (.append e src till) .completed).appendDone e) := by
  simp only [exec, execAppendWriteDone, State.appendReported, h]

theorem State.dropAppended_of_some {s : State} {e x : LogEntry} (h : s.logEntry e.serial = some x) :
    s.dropAppended e = (s.unlog e.serial).dropItem e.lane (.log e.place) := by
  simp only [State.dropAppended, h]

theorem State.dropAppended_of_none {s : State} {e : LogEntry} (h : s.logEntry e.serial = none) : s.dropAppended e = s := by
  simp only [State.dropAppended, h]

/-- Settles O60: the entry in the log is the one that stood there before the write ended; a removal that waited for it
gives its reply. -/
theorem appendWritesReported : Obligations.AppendWritesReported := by
  intro e src till s u current
  refine ⟨fun done => ?_, fun x found noRemoval failed => ?_, fun before behind q c gone payment waits others failed => ?_⟩
  · have entry : u.logEntry e.serial = s.logEntry e.serial := by
      rw [done]
      exact s.endWrite_logEntry _ _ _
    rw [State.exec_appendWriteDone current, ← done]
    refine ⟨fun x found => ?_, fun gone => ?_⟩
    · rw [← entry] at found
      constructor <;> intro kind <;> simp only [State.appendDone, found, kind]
    · rw [← entry] at gone
      constructor <;> intro kind <;> simp only [State.appendDone, gone, kind]
  · have entry := (s.endWrite_logEntry (.append e src till) .failed e.serial).trans found
    rw [State.exec_appendWriteFailed current, cancelsOf_of_none noRemoval, State.dropRemovals_of_none noRemoval]
    constructor <;> intro kind <;>
      simp only [State.appendFailed, State.dropAppended_of_some entry, kind, failed, State.writeFailed, List.foldl_nil]
  · have mine : ∀ w, w ∈ before ∨ w ∈ behind → w.isRemovalOf e.serial = false := fun w hw =>
      others w (List.mem_append.mpr hw)
    have replies : cancelsOf e.serial s.persist.waiting = [c] := by
      rw [waits, cancelsOf_append, cancelsOf_of_none (fun w hw => mine w (.inl hw)), List.nil_append]
      refine (cancelsOf_append e.serial [Write.removal q e.serial (some c)] behind).trans ?_
      rw [cancelsOf_of_none (fun w hw => mine w (.inr hw))]
      simp [cancelsOf]
    have dropped : s.dropRemovals e.serial = { s with persist := { s.persist with waiting := before ++ behind } } := by
      unfold State.dropRemovals
      rw [waits, List.filter_append, List.filter_cons_of_neg (by simp [Write.isRemovalOf]),
        filter_removals_of_none (fun w hw => mine w (.inl hw)), filter_removals_of_none (fun w hw => mine w (.inr hw))]
    rw [State.exec_appendWriteFailed current, replies, dropped]
    have absent : State.logEntry (State.endWrite { s with persist := { s.persist with waiting := before ++ behind } }
        (.append e src till) .failed) e.serial = none := (State.endWrite_logEntry _ _ _ _).trans gone
    rw [State.appendFailed, State.dropAppended_of_none absent]
    simp only [payment, State.writeFailed, ← failed, List.foldl_cons, List.foldl_nil]

end Sys2Proof.Machine
end

section
/-! SUPPORT. Deadlines and the drain (R84, R85, R127, R128, R131), and the monitor's timer (R112 to R115). -/

namespace Sys2Proof.Machine

open Sys2Proof.Safety

/-! ## Whether a time is reached -/

theorem State.due_iff (s : State) (t : Nat) : s.due t = true ↔ s.phase = .serving ∧ t ≤ s.clock := by
  simp [State.due]

theorem State.due_of_early {s : State} {t : Nat} (h : s.clock < t) : s.due t = false := by
  simp [State.due, h]

/-- Settles O49. -/
theorem paymentTimesOut : Obligations.PaymentTimesOut := by
  intro i s
  refine ⟨fun e found serving late payment awaiting => ⟨s.reversalDue i e .timeout, ?_, rfl⟩, fun e found no => ?_,
    fun free => ?_⟩
  · have due : s.due e.deadline = true := (s.due_iff _).mpr ⟨serving, late⟩
    simp only [exec, execPaymentDeadline, State.paymentDeadline, found, due, payment, awaiting, and_self, if_true]
    rfl
  · have not : ¬ (s.due e.deadline = true ∧ e.kind = .payment ∧ e.state = .awaiting) := by
      rintro ⟨due, payment, awaiting⟩
      have late := ((s.due_iff _).mp due).2
      rcases no with other | other | early
      · exact other payment
      · exact other awaiting
      · omega
    simp only [exec, execPaymentDeadline, State.paymentDeadline, found, if_neg not]
  · simp only [exec, execPaymentDeadline, State.paymentDeadline, free]

/-- A marked entry in REVERSING is eligible where its lane's base slot is not held and the lane has a value (R62). -/
theorem State.reversalEligible_of_repeatDue {s : State} {e : Exchange} (reversing : e.state = .reversing)
    (mark : e.repeatDue = true) (free : s.heldOpt (s.lane e.lane).config.base = false)
    (value : (s.lane e.lane).hasValue = true ∨ (s.lane e.lane).config.state = .faulted .ceiling) :
    s.reversalEligible e = true := by
  rcases value with value | value <;> simp [State.reversalEligible, reversing, free, value, mark]

/-- Settles O50. -/
theorem reversingDeadlineMarks : Obligations.ReversingDeadlineMarks := by
  intro i s
  refine ⟨fun e found serving late reversing => ⟨?_, fun free value => ?_⟩, fun e found no => ?_, fun free => ?_⟩
  · have due : s.due e.deadline = true := (s.due_iff _).mpr ⟨serving, late⟩
    simp only [exec, execReversingDeadline, State.reversingDeadline, found, due, reversing, and_self, if_true]
  · refine State.reversalEligible_of_repeatDue (e := { e with repeatDue := true }) reversing rfl ?_ value
    exact free
  · simp only [exec, execReversingDeadline, State.reversingDeadline, found]
    split
    next h =>
      obtain ⟨due, reversing⟩ := h
      have late := ((s.due_iff _).mp due).2
      rcases no with other | early | mark
      · exact absurd reversing other
      · omega
      · have same : { e with repeatDue := true } = e := by rw [← mark]
        rw [same, ← found, State.setExchange_exchange]
    · rfl
  · simp only [exec, execReversingDeadline, State.reversingDeadline, free]

/-! ## Writes of a log entry, at a queue with room -/

/-- A queue with room takes an update: the queue and the store change, nothing else. -/
theorem State.queueUpdate_of_room {s : State} (e : LogEntry) (room : s.persist.full = false) :
    ∃ q d, s.queueUpdate e = { s with persist := q, store := d } ∧ .update e ∈ q.unwritten := by
  obtain ⟨ws, h⟩ := State.replaceOrAppend_of_room (fun _ => false) (Write.isUpdateOf e.serial) (.update e)
    (fun t => t.writeFailed .update (.logPlace e.place)) room
  obtain ⟨q, d, form⟩ := s.setWaiting_form ws
  have is : s.queueUpdate e = { s with persist := q, store := d } := h.trans form
  refine ⟨q, d, is, ?_⟩
  have mem : .update e ∈ (s.queueUpdate e).persist.unwritten := State.mem_replaceOrAppend _ _ _ _ _ room
  rwa [is] at mem

theorem State.queueRemoval_of_room {s : State} (e : LogEntry) (c : Option CancelReply) (room : s.persist.full = false) :
    ∃ q d, s.queueRemoval e c = { s with persist := q, store := d } ∧ .removal e.place e.serial c ∈ q.unwritten := by
  obtain ⟨ws, h⟩ := State.replaceOrAppend_of_room (fun _ => false) (Write.isUpdateOf e.serial)
    (.removal e.place e.serial c) (fun t => t.removalFailed e.place c) room
  obtain ⟨q, d, form⟩ := s.setWaiting_form ws
  have is : s.queueRemoval e c = { s with persist := q, store := d } := h.trans form
  refine ⟨q, d, is, ?_⟩
  have mem : .removal e.place e.serial c ∈ (s.queueRemoval e c).persist.unwritten := State.mem_replaceOrAppend _ _ _ _ _ room
  rwa [is] at mem

/-- An envelope placed writes the ports and the Send Queue, which it joins where the C-port has carrier (R107). -/
theorem State.placeEnvelope_form (s : State) (e : Envelope) : ∃ ps, s.placeEnvelope e = { s with
    ports := ps
    sendQueue := if (s.port .c).carrier = true then s.sendQueue ++ [e] else s.sendQueue } := by
  unfold State.placeEnvelope
  cases carrier : (s.port .c).carrier with
  | false => exact ⟨_, rfl⟩
  | true =>
    rcases State.takeNext_form { s with sendQueue := s.sendQueue ++ [e] } .c with h | ⟨_, h⟩
    · exact ⟨s.ports, h⟩
    · exact ⟨_, h⟩

/-! ## The drain (R127, R128) -/

theorem find?_of_split {α : Type} {p : α → Bool} {older younger : List α} {e : α} (none : ∀ x ∈ older, p x = false)
    (is : p e = true) : (older ++ e :: younger).find? p = some e := by
  rw [List.find?_append, List.find?_eq_none.mpr (fun x hx => by simp [none x hx]), List.find?_cons_of_pos is]
  rfl

theorem State.oldestQueued_of_split {s : State} {older younger : List LogEntry} {e : LogEntry}
    (log : s.log = older ++ e :: younger) (older_not : ∀ x ∈ older, x.state ≠ .queued) (is : e.state = .queued) :
    s.oldestQueued = some e := by
  unfold State.oldestQueued
  rw [log]
  exact find?_of_split (fun x hx => decide_eq_false (older_not x hx)) (decide_eq_true is)

/-- An entry put back into the log in its position (R128, R131). -/
theorem State.relog_of_split {s : State} {older younger : List LogEntry} {e new : LogEntry}
    (log : s.log = older ++ e :: younger) (own : ∀ x ∈ older ++ younger, x.serial ≠ e.serial)
    (same : new.serial = e.serial) : (s.relog new).log = older ++ new :: younger := by
  have stay : ∀ xs : List LogEntry, (∀ x ∈ xs, x.serial ≠ e.serial) →
      xs.map (fun x => if x.serial = new.serial then new else x) = xs := by
    intro xs h
    refine (List.map_congr_left (fun x hx => ?_)).trans (List.map_id xs)
    exact if_neg (by rw [same]; exact h x hx)
  rw [State.relog, log, List.map_append, List.map_cons, stay older (fun x hx => own x (List.mem_append_left _ hx)),
    stay younger (fun x hx => own x (List.mem_append_right _ hx)), if_pos same.symm]

/-- A reversal counted, or not, writes the lanes alone (R36). -/
theorem State.countReversal_if (s : State) (l : LaneId) (counts : Bool) : ∃ ls,
    (if counts = true then s.countReversal l else s) = { s with lanes := ls } ∧
    ∀ k : LaneId, ls[k].counter = (s.lane k).counter ∧ ls[k].counters.reversals =
      if k = l ∧ counts = true then satInc Config.count32Max (s.lane k).counters.reversals
      else (s.lane k).counters.reversals := by
  cases counts with
  | false => exact ⟨s.lanes, rfl, fun k => ⟨rfl, by simp [State.lane]⟩⟩
  | true =>
    refine ⟨_, rfl, fun k => ?_⟩
    change ((s.countReversal l).lane k).counter = _ ∧ ((s.countReversal l).lane k).counters.reversals = _
    rw [State.countReversal, State.lane_modLane]
    by_cases e : k = l
    · subst e
      simp
    · simp [e]

theorem State.drain_spec {s : State} {e : LogEntry} {i : EntryId} {older younger : List LogEntry}
    (log : s.log = older ++ e :: younger) (own : ∀ x ∈ older ++ younger, x.serial ≠ e.serial)
    (room : s.persist.full = false) :
    (s.drain e i).exchange i = some { s.logSendEntry e with stamp := s.nextStamp } ∧ otherEntries s (s.drain e i) i ∧
    (s.drain e i).log = older ++ { e with state := .sent, sentBefore := true } :: younger ∧
    .update { e with state := .sent, sentBefore := true } ∈ (s.drain e i).persist.unwritten ∧
    ((s.port .c).carrier = true → (s.drain e i).sendQueue = s.sendQueue ++ [e.message]) ∧
    (∀ l, ((s.drain e i).lane l).counter = (s.lane l).counter ∧ ((s.drain e i).lane l).counters.reversals =
      if l = e.lane ∧ e.kind = .reversal ∧ e.sentBefore = false then
        satInc Config.count32Max (s.lane l).counters.reversals else (s.lane l).counters.reversals) ∧
    (s.drain e i).engine = s.engine ∧ (s.drain e i).answerQueue = s.answerQueue ∧ (s.drain e i).monitor = s.monitor := by
  obtain ⟨q, d, queued, mem⟩ := State.queueUpdate_of_room
    (s := (s.allocate i (s.logSendEntry e)).relog { e with state := .sent, sentBefore := true })
    { e with state := .sent, sentBefore := true } room
  obtain ⟨ls, counted, lanes⟩ := State.countReversal_if (((s.allocate i (s.logSendEntry e)).relog
    { e with state := .sent, sentBefore := true }).queueUpdate { e with state := .sent, sentBefore := true }) e.lane
    (decide (e.kind = .reversal ∧ e.sentBefore = false))
  have logged : ((s.allocate i (s.logSendEntry e)).relog { e with state := .sent, sentBefore := true }).log =
      older ++ { e with state := .sent, sentBefore := true } :: younger := State.relog_of_split log own rfl
  have entry := s.exchange_setExchange_same i (some { s.logSendEntry e with stamp := s.nextStamp })
  have others : otherEntries s (s.setExchange i (some { s.logSendEntry e with stamp := s.nextStamp })) i := fun j ne =>
    s.exchange_setExchange_ne _ ne
  rw [queued] at counted lanes
  simp only [decide_eq_true_eq] at counted lanes
  unfold State.drain
  dsimp only
  rw [queued, counted]
  obtain ⟨ps, placed⟩ := State.placeEnvelope_form { ((s.allocate i (s.logSendEntry e)).relog
    { e with state := .sent, sentBefore := true }) with persist := q, store := d, lanes := ls } e.message
  rw [placed]
  exact ⟨entry, others, logged, mem, fun carrier => if_pos carrier, lanes, rfl, rfl, rfl⟩

theorem State.drainTest_of_passed {s : State} {e : LogEntry} {i : EntryId} (oldest : s.oldestQueued = some e)
    (free : s.freeEntry = some i) (up : s.monitor.state = .up) (window : s.logSent < 8) (reserve : 16 < s.freeEntries)
    (place : s.sendPlaceFree = true) (written : e.written = true) : s.drainTest = some (e, i) := by
  simp only [State.drainTest, oldest, free]
  exact if_pos ⟨up, window, reserve, place, written⟩

theorem State.drainTest_eq_some {s : State} {e : LogEntry} {i : EntryId} (h : s.drainTest = some (e, i)) :
    s.oldestQueued = some e ∧ s.monitor.state = .up ∧ s.logSent < 8 ∧ 16 < s.freeEntries ∧ s.sendPlaceFree = true ∧
      e.written = true := by
  unfold State.drainTest at h
  split at h
  next x j oldest free =>
    split at h
    next passed =>
      obtain ⟨up, window, reserve, place, written⟩ := passed
      simp only [Option.some.injEq, Prod.mk.injEq] at h
      obtain ⟨rfl, rfl⟩ := h
      exact ⟨oldest, up, window, reserve, place, written⟩
    · exact absurd h (by simp)
  · exact absurd h (by simp)

/-- Settles O51: the drain's test, and the steps of a sending one after another. -/
theorem drainSendsTheOldest : Obligations.DrainSendsTheOldest := by
  refine ⟨fun e older younger i s serving log older_not queued written own free up window reserve place room => ?_,
    fun s no => ?_⟩
  · have oldest := State.oldestQueued_of_split log older_not queued
    have test := State.drainTest_of_passed oldest free up window reserve place written
    refine ⟨s.drain e i, ?_, State.drain_spec log own room⟩
    simp only [exec, execDrainSend, State.drainSend, serving, if_true, test]
  · simp only [exec, execDrainSend, State.drainSend]
    split
    next serving =>
      cases test : s.drainTest with
      | none => rfl
      | some x =>
        exfalso
        obtain ⟨oldest, up, window, reserve, place, written⟩ := State.drainTest_eq_some (e := x.1) (i := x.2) test
        rcases no with starting | notUp | sent | few | noPlace | noneQueued | ⟨older, e, younger, log, older_not, queued, not⟩
        · exact absurd (serving.symm.trans starting) (by decide)
        · exact notUp up
        · omega
        · omega
        · exact absurd (place.symm.trans noPlace) (by decide)
        · exact absurd (List.find?_some oldest) (by simp [noneQueued _ (List.mem_of_find?_eq_some oldest)])
        · have is : e = x.1 := Option.some.inj ((State.oldestQueued_of_split log older_not queued).symm.trans oldest)
          rw [is, written] at not
          exact absurd not (by decide)
    · rfl

@[simp] theorem State.raise_exchange (s : State) (d : EventDetails) (i : EntryId) :
    (s.raise d).exchange i = s.exchange i := by
  rw [State.exchange, State.raise_exchanges]
  rfl

/-! ## The deadline of a LOG-SEND entry (R131) -/

/-- Settles O52: the repeat count below 4, and at 4. -/
theorem logSendTimesOut : Obligations.LogSendTimesOut := by
  intro i x p e s found kind ref stands
  have entry : (s.free i).exchange i = none := s.exchange_setExchange_same i none
  have others : otherEntries s (s.free i) i := fun j ne => s.exchange_setExchange_ne none ne
  have logRef : x.logRef.bind s.logAt = some e := by rw [ref]; exact stands
  refine ⟨fun early => ?_, fun serving late room => ?_⟩
  · simp only [exec, execLogSendDeadline, State.logSendDeadline, found, State.due_of_early early]
    rfl
  have runs : exec (.logSendDeadline i) s = .next (s.logSendTimesOut i x) := by
    have due : s.due x.deadline = true := (s.due_iff _).mpr ⟨serving, late⟩
    simp only [exec, execLogSendDeadline, State.logSendDeadline, found, due, kind, and_self, if_true]
  rw [runs]
  refine ⟨fun below => ⟨_, rfl, ?_⟩, fun last => ⟨_, rfl, ?_⟩⟩
  · obtain ⟨q, d, queued, mem⟩ := State.queueUpdate_of_room
      (s := (s.free i).relog { e with state := .queued, repeatCount := e.repeatCount + 1 })
      { e with state := .queued, repeatCount := e.repeatCount + 1 } room
    have is : s.logSendTimesOut i x = ((s.free i).relog { e with
        state := .queued, repeatCount := e.repeatCount + 1 }).queueUpdate { e with
          state := .queued, repeatCount := e.repeatCount + 1 } := by
      rw [State.logSendTimesOut, logRef]
      exact if_neg (Nat.not_le.mpr (Nat.succ_lt_succ below))
    rw [is, queued]
    exact ⟨entry, others, rfl, rfl, mem, ⟨rfl, rfl, rfl, rfl⟩, rfl⟩
  · obtain ⟨q, d, queued, mem⟩ := State.queueRemoval_of_room (s := (s.free i).unlog e.serial) e none room
    have is : s.logSendTimesOut i x = ((((s.free i).unlog e.serial).queueRemoval e none).dropItem e.lane
        (.log e.place)).raise (.logEntryAbandoned ⟨some e.lane, some e.kind, some e.seq, e.orig, some e.xchg⟩) := by
      rw [State.logSendTimesOut, logRef]
      exact if_pos (Nat.succ_le_succ last)
    rw [is, queued]
    set b := State.dropItem { (s.free i).unlog e.serial with persist := q, store := d } e.lane (.log e.place) with hb
    refine ⟨?_, fun j ne => ?_, State.raise_log b _, ?_, ?_, fun k ne => ?_, ?_, ?_⟩
    · rw [State.raise_exchange]
      exact entry
    · rw [State.raise_exchange]
      exact others j ne
    · rw [State.raise_persist]
      exact mem
    · rw [State.raise_lane]
      exact State.lane_modLane_same _ _ _
    · rw [State.raise_lane]
      exact State.lane_modLane_ne _ _ ne
    · rw [State.raise_events]
      simp [EventDetails.kind, EventKind.number]
    · have kept := chainKept_of_lanes (congrArg (fun u => eraseLanes (eraseStore u)) (b.sansEvents_raise
        (.logEntryAbandoned ⟨some e.lane, some e.kind, some e.seq, e.orig, some e.xchg⟩)))
      exact kept

end Sys2Proof.Machine
end

section
/-! SUPPORT. The monitor's timer (R112 to R115), carrier (R4, R106, R107) and transmission (R4, R106 to R108). -/

namespace Sys2Proof.Machine

open Sys2Proof.Safety

/-! ## A probe that is missed (R112) -/

/-- The monitor after a timer that expires. -/
def State.monitorMissed (s : State) : Monitor :=
  let n := satInc Config.count8Max s.monitor.missed
  match s.monitor.state with
  | .up => if s.settings.missLimit ≤ 1 then { s.monitor with state := .down, missed := 1 }
    else { s.monitor with state := .suspect, missed := 1 }
  | .suspect => if s.settings.missLimit ≤ n then { s.monitor with state := .down, missed := n }
    else { s.monitor with missed := n }
  | .down => { s.monitor with missed := n }

theorem State.sansEvents_passDown (s : State) (missed : Nat) (cause : DownCause) : (s.passDown missed cause).sansEvents =
    (s.setMonitor { s.monitor with state := .down, missed := missed }).sansEvents := by
  unfold State.passDown
  dsimp only
  split
  · exact (State.sansEvents_raise _ _).trans (State.sansEvents_of_tx (State.sansTx_handTill _ _ _ _ _ _))
  · exact State.sansEvents_raise _ _
  · rfl

/-- But for the ports and what events write, a missed probe writes the monitor. -/
theorem State.sansEvents_missProbe (s : State) : s.missProbe.sansEvents = (s.setMonitor s.monitorMissed).sansEvents := by
  unfold State.missProbe State.monitorMissed
  dsimp only
  cases s.monitor.state with
  | down => rfl
  | _ =>
    dsimp only
    split
    · exact s.sansEvents_passDown _ _
    · rfl

theorem State.sansMonitor_missProbe (s : State) : s.missProbe.sansMonitor = s.sansMonitor :=
  (State.sansMonitor_of_events s.sansEvents_missProbe).trans (s.sansMonitor_setMonitor _)

theorem State.passDown_carrier (s : State) (missed : Nat) (cause : DownCause) (p : Port) :
    ((s.passDown missed cause).port p).carrier = (s.port p).carrier := by
  unfold State.passDown
  dsimp only
  split
  · rw [State.raise_carrier, State.broadcastTills, State.handTill, State.handFrame_carrier]
    rfl
  · rw [State.raise_carrier]
    rfl
  · rfl

theorem State.missProbe_carrier (s : State) (p : Port) : (s.missProbe.port p).carrier = (s.port p).carrier := by
  unfold State.missProbe
  dsimp only
  cases s.monitor.state with
  | down => rfl
  | _ =>
    dsimp only
    split
    · exact s.passDown_carrier _ _ _
    · rfl

/-- A passage into DOWN from another state latches CHAIN-DOWN (R115). -/
theorem State.passDown_latched {s : State} (missed : Nat) (cause : DownCause) (live : s.monitor.state ≠ .down) :
    (s.passDown missed cause).events[0].latched = true := by
  unfold State.passDown
  dsimp only
  split
  · rw [State.raise_events]
    simp [EventDetails.kind, EventKind.number]
  · rw [State.raise_events]
    simp [EventDetails.kind, EventKind.number]
  next down => exact absurd down live

theorem State.missProbe_latched {s : State} (live : s.monitor.state ≠ .down) (down : s.monitorMissed.state = .down) :
    s.missProbe.events[0].latched = true := by
  unfold State.monitorMissed at down
  unfold State.missProbe
  dsimp only at down ⊢
  cases h : s.monitor.state with
  | up =>
    rw [h] at down
    dsimp only at down ⊢
    split
    · exact State.passDown_latched _ _ live
    next low => rw [if_neg low] at down; exact absurd down (by simp)
  | suspect =>
    rw [h] at down
    dsimp only at down ⊢
    split
    · exact State.passDown_latched _ _ live
    next low => rw [if_neg low] at down; exact absurd down (by simp)
  | down => exact absurd h live

/-! ## A probe that is sent (R113) -/

theorem State.sendPlaceFree_congr {s t : State} (queue : t.sendQueue = s.sendQueue) (engine : t.engine = s.engine) :
    t.sendPlaceFree = s.sendPlaceFree := by
  have reserved : t.reserved = s.reserved := by rw [State.reserved, engine]; rfl
  rw [State.sendPlaceFree, queue, reserved]
  rfl

theorem State.controlKey_congr {s t : State} (slots : t.slots = s.slots) (p : Port) : t.controlKey p = s.controlKey p := by
  have slot : t.slot (controlSlot p) = s.slot (controlSlot p) := by simp only [State.slot, slots]
  simp only [State.controlKey, slot]

theorem State.probe_congr {s t : State} (slots : t.slots = s.slots) (n : ChainSeq) : t.probe n = s.probe n := by
  simp only [State.probe, State.controlKey_congr slots]

/-- The number of the next probe (R113): the epoch, and the count after the last. -/
def State.nextProbe (s : State) : ChainSeq :=
  epochNumber s.epoch (if 4194303 ≤ s.monitor.lastProbe.toNat % 4194304 then 1
    else s.monitor.lastProbe.toNat % 4194304 + 1)

theorem State.sendProbe_of_full {s : State} (full : s.sendPlaceFree = false) : s.sendProbe = s :=
  if_neg (by simp [full])

theorem State.placeEnvelope_of_carrier {s : State} (e : Envelope) (carrier : (s.port .c).carrier = true) :
    ∃ ps, s.placeEnvelope e = { s with ports := ps, sendQueue := s.sendQueue ++ [e] } := by
  obtain ⟨ps, placed⟩ := s.placeEnvelope_form e
  exact ⟨ps, by rw [placed, if_pos carrier]⟩

theorem State.placeEnvelope_setMonitor {s : State} (m : Monitor) (e : Envelope) (carrier : (s.port .c).carrier = true) :
    ((s.setMonitor m).placeEnvelope e).monitor = m ∧ ((s.setMonitor m).placeEnvelope e).sendQueue = s.sendQueue ++ [e] ∧
    ((s.setMonitor m).placeEnvelope e).events = s.events := by
  obtain ⟨ps, placed⟩ := State.placeEnvelope_of_carrier (s := s.setMonitor m) e carrier
  rw [placed]
  exact ⟨rfl, rfl, rfl⟩

theorem State.port_setMonitor (s : State) (m : Monitor) (p : Port) : (s.setMonitor m).port p = s.port p := rfl

theorem State.placeEnvelope_carrier (s : State) (e : Envelope) (p : Port) :
    ((s.placeEnvelope e).port p).carrier = (s.port p).carrier := by
  unfold State.placeEnvelope
  split
  · rcases Port.eq_or_opposite .c p with h | h
    · rw [h, State.port_countPort_same]
    · rw [h, State.port_countPort_opposite]
  · rw [State.takeNext_carrier]
    rfl

theorem State.sendProbe_carrier (s : State) (p : Port) : (s.sendProbe.port p).carrier = (s.port p).carrier := by
  unfold State.sendProbe
  split
  · dsimp only
    rw [State.placeEnvelope_carrier, State.port_setMonitor]
  · rfl

theorem State.nextProbe_congr {s t : State} (epoch : t.epoch = s.epoch)
    (last : t.monitor.lastProbe = s.monitor.lastProbe) : t.nextProbe = s.nextProbe := by
  rw [State.nextProbe, epoch, last]
  rfl

/-- The model's number of the next probe, with its names for the widths. -/
theorem State.nextProbe_eq (s : State) : s.nextProbe = epochNumber s.epoch
    (if decide (Config.counterMax ≤ probeCount s.monitor.lastProbe) = true then 1
      else probeCount s.monitor.lastProbe + 1) := by
  have widths : Config.counterMax = 4194303 ∧ Config.runningNumbers = 4194304 := ⟨rfl, rfl⟩
  rw [State.nextProbe, probeCount, widths.1, widths.2]
  by_cases h : 4194303 ≤ s.monitor.lastProbe.toNat % 4194304
  · rw [if_pos h, if_pos (decide_eq_true h)]
  · rw [if_neg h, if_neg (by rw [decide_eq_true_iff]; exact h)]

/-- The monitor once a probe is sent. -/
def Monitor.probed (m : Monitor) (n echo : ChainSeq) : Monitor := { m with lastProbe := n, lastEcho := echo }

theorem Monitor.probed_fields (m : Monitor) (n echo : ChainSeq) : (m.probed n echo).state = m.state ∧
    (m.probed n echo).missed = m.missed ∧ (m.probed n echo).lastProbe = n := ⟨rfl, rfl, rfl⟩

theorem State.sendProbe_of_room {s : State} (free : s.sendPlaceFree = true) (carrier : (s.port .c).carrier = true) :
    (∃ echo, s.sendProbe.monitor = s.monitor.probed s.nextProbe echo) ∧
    s.sendProbe.sendQueue = s.sendQueue ++ [s.probe s.nextProbe] ∧ s.sendProbe.events = s.events := by
  unfold State.sendProbe
  rw [if_pos free]
  dsimp only
  rw [← State.nextProbe_eq]
  obtain ⟨monitor, queue, events⟩ := State.placeEnvelope_setMonitor (s.monitor.probed s.nextProbe
    (if decide (Config.counterMax ≤ probeCount s.monitor.lastProbe) = true then 0 else s.monitor.lastEcho))
    (s.probe s.nextProbe) carrier
  exact ⟨⟨_, monitor⟩, queue, events⟩

theorem State.monitorMissed_lastProbe (s : State) : s.monitorMissed.lastProbe = s.monitor.lastProbe := by
  unfold State.monitorMissed
  dsimp only
  cases s.monitor.state with
  | down => rfl
  | _ => dsimp only; split <;> rfl

/-- A missed probe, then the next one sent where a place is free. -/
theorem State.sendProbe_missProbe {s : State} (carrier : (s.port .c).carrier = true) :
    s.missProbe.sendProbe.monitor.state = s.monitorMissed.state ∧
    s.missProbe.sendProbe.monitor.missed = s.monitorMissed.missed ∧
    s.missProbe.sendProbe.events = s.missProbe.events ∧
    (s.sendPlaceFree = false → s.missProbe.sendProbe.sendQueue = s.sendQueue ∧
      s.missProbe.sendProbe.monitor.lastProbe = s.monitor.lastProbe) ∧
    (s.sendPlaceFree = true → s.missProbe.sendProbe.sendQueue = s.sendQueue ++
        [s.probe s.missProbe.sendProbe.monitor.lastProbe] ∧
      s.missProbe.sendProbe.monitor.lastProbe = s.nextProbe) := by
  have tx := s.sansEvents_missProbe
  have only := s.sansMonitor_missProbe
  have monitor : s.missProbe.monitor = s.monitorMissed := State.monitor_of_events tx
  have queue : s.missProbe.sendQueue = s.sendQueue :=
    (State.sendQueue_of_events tx).trans (State.setMonitor_sendQueue s s.monitorMissed)
  have place : s.missProbe.sendPlaceFree = s.sendPlaceFree := State.sendPlaceFree_congr queue (State.engine_of_monitor only)
  have number : s.missProbe.nextProbe = s.nextProbe :=
    State.nextProbe_congr (State.epoch_of_monitor only) ((congrArg Monitor.lastProbe monitor).trans
      s.monitorMissed_lastProbe)
  cases free : s.sendPlaceFree with
  | false =>
    rw [State.sendProbe_of_full (place.trans free), monitor]
    exact ⟨rfl, rfl, rfl, fun _ => ⟨queue, s.monitorMissed_lastProbe⟩, fun h => absurd h (by decide)⟩
  | true =>
    obtain ⟨⟨echo, probed⟩, sent, events⟩ := State.sendProbe_of_room (place.trans free)
      ((s.missProbe_carrier .c).trans carrier)
    obtain ⟨state, missed, last⟩ := s.monitorMissed.probed_fields s.nextProbe echo
    rw [number, monitor] at probed
    rw [number, queue, State.probe_congr (State.slots_of_monitor only)] at sent
    rw [probed, last]
    exact ⟨state, missed, events, fun h => absurd h (by decide), fun _ => ⟨sent, rfl⟩⟩

/-- Settles O53: the probe missed, then the next one sent where a place is free, then the timer. -/
theorem probeTimerExpires : Obligations.ProbeTimerExpires := by
  intro s
  refine ⟨fun time runs serving late carrier => ?_, fun time runs early => ?_, fun stopped => ?_⟩
  case refine_2 => simp [exec, execProbeTimer, State.probeTimer, runs, State.due_of_early early]
  case refine_3 => simp only [exec, execProbeTimer, State.probeTimer, stopped]
  have due : s.due time = true := (s.due_iff _).mpr ⟨serving, late⟩
  have ran : exec .probeTimer s = .next s.probeExpired := by
    simp only [exec, execProbeTimer, State.probeTimer, runs, due, if_true]
  have tx := s.sansEvents_missProbe
  have only := s.sansMonitor_missProbe
  have onSend := (s.missProbe.sansMonitor_sendProbe).trans only
  have wire : (s.missProbe.port .c).carrier = true := (s.missProbe_carrier .c).trans carrier
  have expired : s.probeExpired = s.missProbe.sendProbe.setMonitor { s.missProbe.sendProbe.monitor with
      timer := some (s.after s.settings.probeInterval) } := by
    have clock := State.clock_of_monitor onSend
    have settings := State.settings_of_monitor onSend
    refine (State.restartProbeTimer_of_serving ((State.sendProbe_carrier _ .c).trans wire)
      ((State.phase_of_monitor onSend).trans serving)).trans ?_
    rw [State.after, clock, settings]
    rfl
  obtain ⟨state, missed, events, full, free⟩ := s.sendProbe_missProbe carrier
  rw [ran, expired]
  generalize s.missProbe.sendProbe = p at onSend state missed events full free
  have kept : (p.setMonitor { p.monitor with timer := some (s.after s.settings.probeInterval) }).sansMonitor =
      s.sansMonitor := onSend
  refine ⟨_, rfl, rfl, fun up => ?_, fun suspect => ?_, fun down => ?_, fun live down => ?_, full, free,
    ⟨State.settings_of_monitor kept, State.standIn_of_monitor kept, State.slots_of_monitor kept,
      State.lanes_of_monitor kept⟩,
    ⟨State.exchanges_of_monitor kept, State.log_of_monitor kept, State.engine_of_monitor kept⟩,
    State.answerQueue_of_monitor kept⟩
  · refine ⟨missed.trans ?_, state.trans ?_⟩ <;> simp only [State.monitorMissed, up] <;> split <;> rfl
  · refine ⟨missed.trans ?_, state.trans ?_⟩
    · simp only [State.monitorMissed, suspect]
      split <;> rfl
    · simp only [State.monitorMissed, suspect]
      split
      · exact (if_pos ‹_›).symm
      · exact (if_neg ‹_›).symm
  · refine ⟨missed.trans ?_, state.trans ?_⟩ <;> simp only [State.monitorMissed, down]
    rfl
  · exact (congrArg (fun v => v[0].latched) events).trans (State.missProbe_latched live (state.symm.trans down))

end Sys2Proof.Machine
end

section
/-! SUPPORT. Transmission (R4, R106 to R108) and carrier (R4, R106, R107, R112, R113). -/

namespace Sys2Proof.Machine

open Sys2Proof.Safety

/-! ## Transmission -/

theorem State.ctl_restartLeft_same (s : State) (p : Port) (gone : Bool) :
    ((s.restartLeft p gone).ctl p).restart = if gone = true then .left else (s.ctl p).restart := by
  cases gone with
  | false => rfl
  | true => simp [State.restartLeft]

/-- A port that has finished the first frame of its order, before it takes the next. -/
def State.orderSent (s : State) (p : Port) (f : OutFrame) (rest : List OutFrame) : State :=
  State.restartLeft { (s.takeNext p).setPort p { (s.takeNext p).port p with
    order := rest
    transmitting := none
    counters := { ((s.takeNext p).port p).counters with
      framesOut := satInc Config.count32Max ((s.takeNext p).port p).counters.framesOut } } with
    wire := s.wire ++ [(p, f.bytes)] } p f.isRestart

theorem State.transmitOrder_of_order {s : State} {p : Port} {f : OutFrame} {rest : List OutFrame}
    (turn : ((s.takeNext p).port p).transmitting = some .order) (order : (s.port p).order = f :: rest) :
    s.transmitOrder p = (s.orderSent p f rest).takeNext p := by
  have order' : ((s.takeNext p).port p).order = f :: rest := (s.takeNext_order p p).trans order
  have wire : (s.takeNext p).wire = s.wire := State.wire_of_tx (s.sansTx_takeNext p)
  unfold State.transmitOrder
  simp only [turn, order', State.setPort_wire, wire]
  rfl

theorem State.transmitOrder_of_other {s : State} {p : Port}
    (turn : ((s.takeNext p).port p).transmitting ≠ some .order) : s.transmitOrder p = s := by
  unfold State.transmitOrder
  dsimp only
  split
  next h _ => exact absurd h turn
  · rfl

/-- But for the ports and the trace, a frame sent writes what handing one may. -/
theorem State.sansTx_orderSent (s : State) (p : Port) (f : OutFrame) (rest : List OutFrame) :
    (s.orderSent p f rest).sansTx = { s with wire := s.wire ++ [(p, f.bytes)] }.sansTx := by
  unfold State.orderSent
  rw [State.sansTx_restartLeft]
  have := congrArg (fun u : State => { u with wire := s.wire ++ [(p, f.bytes)] }) (s.sansTx_takeNext p)
  exact this

/-- The C-port once it has finished the oldest envelope, before it takes its next frame. -/
def State.envelopeSent (s : State) (e : Envelope) (rest : List Envelope) : State :=
  { (s.takeNext .c).setPort .c { (s.takeNext .c).port .c with
      transmitting := none
      counters := { ((s.takeNext .c).port .c).counters with
        framesOut := satAdd Config.count32Max ((s.takeNext .c).port .c).counters.framesOut e.frames } } with
    sendQueue := rest
    wire := s.wire ++ s.envelopeWire e }

theorem State.transmitEnvelope_of_queue {s : State} {e : Envelope} {rest : List Envelope}
    (turn : ((s.takeNext .c).port .c).transmitting = some .sendQueue) (queue : s.sendQueue = e :: rest) :
    s.transmitEnvelope = (s.envelopeSent e rest).takeNext .c := by
  have queue' : (s.takeNext .c).sendQueue = e :: rest := (State.sendQueue_of_tx (s.sansTx_takeNext .c)).trans queue
  have wire : (s.takeNext .c).wire = s.wire := State.wire_of_tx (s.sansTx_takeNext .c)
  have settings : (s.takeNext .c).settings = s.settings := State.settings_of_tx (s.sansTx_takeNext .c)
  unfold State.transmitEnvelope
  simp only [turn, queue', State.setPort_wire, wire, State.envelopeWire, settings]
  rfl

theorem State.transmitEnvelope_of_other {s : State} (turn : ((s.takeNext .c).port .c).transmitting ≠ some .sendQueue) :
    s.transmitEnvelope = s := by
  unfold State.transmitEnvelope
  dsimp only
  split
  next h _ => exact absurd h turn
  · rfl

theorem State.envelopeSent_form (s : State) (e : Envelope) (rest : List Envelope) : s.envelopeSent e rest = { s with
    ports := (s.envelopeSent e rest).ports, sendQueue := rest, wire := s.wire ++ s.envelopeWire e } := by
  unfold State.envelopeSent
  rw [State.takeNext_ports]
  rfl

/-- Settles O56: the frame sent, then what the free port takes next. -/
theorem transmissionFinishes : Obligations.TransmissionFinishes := by
  refine ⟨fun p s => ⟨fun h => State.takeNext_of_turn, State.takeNext_of_idle⟩, fun p f rest s turn order => ?_,
    fun p s turn => congrArg Host.Outcome.next (State.transmitOrder_of_other turn), fun e rest s turn queue => ?_,
    fun s turn => congrArg Host.Outcome.next (State.transmitEnvelope_of_other turn)⟩
  · have tx : ((s.orderSent p f rest).takeNext p).sansTx = { s with wire := s.wire ++ [(p, f.bytes)] }.sansTx :=
      (State.sansTx_takeNext _ _).trans (s.sansTx_orderSent p f rest)
    have port : (s.orderSent p f rest).port p = { (s.takeNext p).port p with
        order := rest
        transmitting := none
        counters := { ((s.takeNext p).port p).counters with
          framesOut := satInc Config.count32Max ((s.takeNext p).port p).counters.framesOut } } := by
      rw [State.orderSent, State.port_restartLeft]
      exact State.port_setPort_same _ _ _
    have other : (s.orderSent p f rest).port p.opposite = s.port p.opposite := by
      rw [State.orderSent, State.port_restartLeft]
      exact (State.port_setPort_opposite _ _ _).trans (s.takeNext_opposite p)
    have ran : exec (.portFrameTransmit p) s = .next ((s.orderSent p f rest).takeNext p) := by
      simp only [exec, execPortFrameTransmit, State.transmitOrder_of_order turn order]
    have tables : tablesKept { s with wire := s.wire ++ [(p, f.bytes)] } _ := tablesKept_of_tx tx
    have work : workKept { s with wire := s.wire ++ [(p, f.bytes)] } _ := workKept_of_tx tx
    have chain : chainKept { s with wire := s.wire ++ [(p, f.bytes)] } _ := chainKept_of_tx tx
    have store : storeKept { s with wire := s.wire ++ [(p, f.bytes)] } _ := storeKept_of_tx tx
    have history : historyKept { s with wire := s.wire ++ [(p, f.bytes)] } _ := historyKept_of_tx tx
    refine ⟨_, ran, ?_, ⟨_, rfl, ?_, ?_⟩, ?_, ?_, ?_, ?_, tables, work, chain, store, history⟩
    · rw [State.takeNext_order, port]
    · rw [port]
    · rw [port]
    · rw [State.takeNext_counters, port, State.takeNext_counters]
    · exact State.wire_of_tx tx
    · rw [State.takeNext_opposite, other]
    · rw [State.ctl, State.takeNext_control]
      refine (State.ctl_restartLeft_same _ p _).trans ?_
      refine congrArg (fun x => if f.isRestart = true then RestartReply.left else x) ?_
      exact congrArg (fun c => (PerPort.at c p).restart) (s.takeNext_control p)
  · have port : (s.envelopeSent e rest).port .c = { (s.takeNext .c).port .c with
        transmitting := none
        counters := { ((s.takeNext .c).port .c).counters with
          framesOut := satAdd Config.count32Max ((s.takeNext .c).port .c).counters.framesOut e.frames } } := by
      rw [State.envelopeSent]
      exact State.port_setPort_same (s.takeNext .c) .c _
    have other : (s.envelopeSent e rest).port .s = s.port .s := by
      rw [State.envelopeSent]
      exact (State.port_setPort_opposite (s.takeNext .c) .c _).trans (s.takeNext_opposite .c)
    have only : (s.envelopeSent e rest).takeNext .c = { s with
        ports := ((s.envelopeSent e rest).takeNext .c).ports, sendQueue := rest, wire := s.wire ++ s.envelopeWire e } := by
      rw [State.takeNext_ports, s.envelopeSent_form]
    have ran : exec .sendQueueTransmit s = .next ((s.envelopeSent e rest).takeNext .c) := by
      simp only [exec, execSendQueueTransmit, State.transmitEnvelope_of_queue turn queue]
    have kept : tablesKept s ((s.envelopeSent e rest).takeNext .c) ∧ workKept s ((s.envelopeSent e rest).takeNext .c) ∧
        storeKept s ((s.envelopeSent e rest).takeNext .c) ∧ historyKept s ((s.envelopeSent e rest).takeNext .c) ∧
        ((s.envelopeSent e rest).takeNext .c).answerQueue = s.answerQueue ∧
        ((s.envelopeSent e rest).takeNext .c).monitor = s.monitor := by
      rw [only]
      exact ⟨⟨rfl, rfl, rfl, rfl⟩, ⟨rfl, rfl, rfl⟩, ⟨rfl, rfl⟩, ⟨rfl, rfl, rfl, rfl⟩, rfl, rfl⟩
    refine ⟨_, ran, ?_, ⟨_, rfl, ?_, ?_⟩, ?_, ?_, ?_, ?_, ?_, kept⟩
    · rw [only]
    · rw [port]
    · rw [port]
    · rw [State.takeNext_counters, port, State.takeNext_counters]
      rfl
    · rw [only]
      rfl
    · rw [State.takeNext_order, port, State.takeNext_order]
    · exact (State.takeNext_opposite _ .c).trans other
    · rw [only]

end Sys2Proof.Machine
end

section
/-! SUPPORT. Carrier that comes and goes (R4, R106, R107, R112, R113). -/

namespace Sys2Proof.Machine

open Sys2Proof.Safety

/-! ## An order only grows, and a port without carrier counts -/

theorem State.handFrame_order_prefix (s : State) (p q : Port) (f : OutFrame) :
    (s.port q).order <+: ((s.handFrame p f).port q).order := by
  rcases Port.eq_or_opposite p q with e | e
  · subst e
    by_cases carrier : (s.port q).carrier = true
    · by_cases room : (s.port q).order.length < Config.orderCapacity
      · rw [s.handFrame_order q f carrier room]
        exact List.prefix_append _ _
      · rw [State.handFrame_of_full f carrier (Nat.not_lt.mp room)]
    · rw [State.handFrame_of_noCarrier f (by simpa using carrier)]
  · rw [e, State.handFrame_opposite]

theorem State.raise_order_prefix (s : State) (d : EventDetails) (q : Port) :
    (s.port q).order <+: ((s.raise d).port q).order :=
  State.raise_ports_keep (fun x => (s.port q).order <+: (x.at q).order)
    (fun t p f ht => ht.trans (t.handFrame_order_prefix p q f)) s d List.prefix_rfl

/-- A notice handed to the C-port without carrier is counted as dropped, and nothing else changes there (R4, R174). -/
theorem State.raise_port_noCarrier {s : State} (d : EventDetails) (down : (s.port .c).carrier = false) :
    (s.raise d).port .c = if s.phase = .serving ∧ s.settings.notices[d.kind.number].enabled = true ∧
        s.settings.notices[d.kind.number].destination ≠ .shop then
      { s.port .c with counters := { (s.port .c).counters with
        noCarrier := satInc Config.count32Max (s.port .c).counters.noCarrier } }
    else s.port .c := by
  cases serving : s.phase with
  | starting =>
    rw [State.raise_of_starting serving, if_neg (by simp)]
    rfl
  | serving =>
    cases enabled : s.settings.notices[d.kind.number].enabled with
    | false =>
      rw [State.raise_of_disabled serving enabled, if_neg (by simp)]
      rfl
    | true =>
      rw [State.raise_of_enabled serving enabled]
      have toS : ∀ (t : State) (f : OutFrame), (t.handFrame .s f).port .c = t.port .c := fun t f =>
        State.handFrame_opposite t .s f
      cases destination : s.settings.notices[d.kind.number].destination with
      | shop =>
        rw [if_neg (by simp), destinationPorts, List.foldl_cons, List.foldl_nil, toS]
        rfl
      | chain =>
        rw [if_pos (by simp), destinationPorts, List.foldl_cons, List.foldl_nil,
          State.handFrame_of_noCarrier _ (by exact down)]
        rfl
      | both =>
        rw [if_pos (by simp), destinationPorts, List.foldl_cons, List.foldl_cons, List.foldl_nil,
          State.handFrame_of_noCarrier _ (by rw [toS]; exact down), toS]
        rfl

/-! ## The holders emptied for want of carrier -/

theorem State.sansTx_dropOrder (s : State) (p : Port) : (s.dropOrder p).sansTx = s.sansTx :=
  (State.sansTx_restartLeft _ _ _).trans (State.sansTx_setPort _ _ _)

theorem State.dropOrder_port (s : State) (p : Port) : (s.dropOrder p).port p = { s.port p with
    carrier := false, order := [], transmitting := none, counters := { (s.port p).counters with
      noCarrier := satAdd Config.count32Max (s.port p).counters.noCarrier (s.port p).order.length } } := by
  unfold State.dropOrder
  rw [State.port_restartLeft]
  exact State.port_setPort_same _ _ _

theorem State.dropOrder_opposite (s : State) (p : Port) : (s.dropOrder p).port p.opposite = s.port p.opposite := by
  unfold State.dropOrder
  rw [State.port_restartLeft]
  exact State.port_setPort_opposite _ _ _

/-- The first segment that had left when the Send Queue was emptied (R107). -/
def State.segmentLeft (s : State) (gone : Bool) : List (Port × Bytes) :=
  if gone then (s.sendQueue.head?.elim [] s.envelopeWire).take 1 else []

/-- Whether the first of two segments had left: one was on its way, and the command says it is gone. -/
theorem State.segmentsInFlight_iff (s : State) : s.segmentsInFlight = true ↔
    (s.port .c).transmitting = some .sendQueue ∧ ∃ e rest, s.sendQueue = e :: rest ∧ 1216 < e.body.length := by
  unfold State.segmentsInFlight
  cases queue : s.sendQueue with
  | nil => simp
  | cons e rest =>
    have two : e.frames = 2 ↔ 1216 < e.body.length := by
      unfold Envelope.frames
      by_cases long : 1216 < e.body.length
      · simp only [long, iff_true]
        exact if_pos long
      · simp only [long, iff_false]
        exact fun h => absurd ((if_neg long).symm.trans h) (by decide)
    simp [two]

theorem State.segmentLeft_of_two {s : State} {e : Envelope} {rest : List Envelope} (queue : s.sendQueue = e :: rest)
    (long : 1216 < e.body.length) : s.segmentLeft true = [(.c, ethernetBytes Config.gatewayStation s.settings.cStation
      Config.chainType (e.segment 1 2 (e.body.take 1216)))] := by
  have payloads : e.payloads = [e.segment 1 2 (e.body.take 1216), e.segment 2 2 (e.body.drop 1216)] := if_pos long
  simp [State.segmentLeft, queue, State.envelopeWire, payloads]

theorem State.dropSendQueue_form (s : State) (gone : Bool) : s.dropSendQueue gone = { s with
    ports := (s.dropSendQueue gone).ports, sendQueue := [], wire := s.wire ++ s.segmentLeft gone } := rfl

theorem State.dropSendQueue_port (s : State) (gone : Bool) : (s.dropSendQueue gone).port .c = { s.port .c with
    counters := { (s.port .c).counters with
      framesOut := satAdd Config.count32Max (s.port .c).counters.framesOut (s.segmentLeft gone).length
      noCarrier := satAdd Config.count32Max (s.port .c).counters.noCarrier
        ((s.sendQueue.map Envelope.frames).sum - (s.segmentLeft gone).length) } } :=
  State.port_countPort_same _ _ _

/-! ## The monitor that falls (R112, R115) -/

/-- The monitor has fallen, and the tills of one that was UP are told, before CHAIN-DOWN is raised. -/
def State.fallTold (s : State) (missed : Nat) : State :=
  let t := s.setMonitor { s.monitor with state := .down, missed := missed }
  if s.monitor.state = .up then t.broadcastTills (.chainState .down) else t

theorem State.passDown_of_down {s : State} (missed : Nat) (cause : DownCause) (down : s.monitor.state = .down) :
    s.passDown missed cause = s.setMonitor { s.monitor with state := .down, missed := missed } := by
  unfold State.passDown
  rw [down]

theorem State.passDown_of_live {s : State} (missed : Nat) (cause : DownCause) (live : s.monitor.state ≠ .down) :
    s.passDown missed cause = (s.fallTold missed).raise (.chainDown cause) := by
  unfold State.passDown State.fallTold
  cases h : s.monitor.state with
  | down => exact absurd h live
  | up => rfl
  | suspect => rfl

theorem State.sansTx_fallTold (s : State) (missed : Nat) :
    (s.fallTold missed).sansTx = (s.setMonitor { s.monitor with state := .down, missed := missed }).sansTx := by
  unfold State.fallTold
  dsimp only
  split
  · exact State.sansTx_handTill _ _ _ _ _ _
  · rfl

theorem State.fallTold_port (s : State) (missed : Nat) : (s.fallTold missed).port .c = s.port .c := by
  unfold State.fallTold
  dsimp only
  split
  · exact (State.handFrame_opposite _ .s _).trans (s.port_setMonitor _ .c)
  · exact s.port_setMonitor _ .c

/-- The tills are told at an S-port with room (R11, R115). -/
theorem State.fallTold_order {s : State} (missed : Nat) (up : s.monitor.state = .up) (carrier : (s.port .s).carrier = true)
    (room : (s.port .s).order.length < Config.orderCapacity) : ((s.fallTold missed).port .s).order = (s.port .s).order ++
      [.till (makeTill Config.broadcast s.settings.sStation 0 0 (.chainState .down) none)] := by
  unfold State.fallTold
  dsimp only
  rw [if_pos up]
  exact State.handFrame_order (s.setMonitor _) .s _ carrier room

/-- The port that has lost carrier counts the notice of CHAIN-DOWN, where one is sent to it. -/
theorem State.passDown_port {s : State} (missed : Nat) (cause : DownCause) (lost : (s.port .c).carrier = false) :
    (s.passDown missed cause).port .c = if s.monitor.state ≠ .down ∧ s.phase = .serving ∧
        s.settings.notices[0].enabled = true ∧ s.settings.notices[0].destination ≠ .shop then
      { s.port .c with counters := { (s.port .c).counters with
        noCarrier := satInc Config.count32Max (s.port .c).counters.noCarrier } }
    else s.port .c := by
  by_cases down : s.monitor.state = .down
  · rw [State.passDown_of_down missed cause down, State.port_setMonitor, if_neg (fun h => h.1 down)]
  · have tx := s.sansTx_fallTold missed
    have phase : (s.fallTold missed).phase = s.phase := (State.phase_of_tx tx).trans rfl
    have settings : (s.fallTold missed).settings = s.settings := (State.settings_of_tx tx).trans rfl
    have port := s.fallTold_port missed
    rw [State.passDown_of_live missed cause down, State.raise_port_noCarrier _ (port ▸ lost), port, phase, settings]
    simp only [down, not_false_eq_true, ne_eq, true_and]
    rfl

/-! ## The C-port's loss -/

/-- The C-port's holders emptied (R106, R107). -/
def State.cEmptied (s : State) (gone : Bool) : State := (s.dropSendQueue gone).dropOrder .c

/-- What the emptying of the holders leaves but for the ports. -/
def State.unqueued (s : State) (gone : Bool) : State :=
  { s with sendQueue := [], wire := s.wire ++ s.segmentLeft gone }

theorem State.sansTx_cEmptied (s : State) (gone : Bool) : (s.cEmptied gone).sansTx = (s.unqueued gone).sansTx := by
  rw [State.cEmptied, State.sansTx_dropOrder, State.dropSendQueue_form]
  rfl

theorem State.cEmptied_port (s : State) (gone : Bool) : (s.cEmptied gone).port .c = { s.port .c with
    carrier := false, order := [], transmitting := none, counters := { (s.port .c).counters with
      framesOut := satAdd Config.count32Max (s.port .c).counters.framesOut (s.segmentLeft gone).length
      noCarrier := satAdd Config.count32Max (satAdd Config.count32Max (s.port .c).counters.noCarrier
        ((s.sendQueue.map Envelope.frames).sum - (s.segmentLeft gone).length)) (s.port .c).order.length } } := by
  rw [State.cEmptied, State.dropOrder_port, State.dropSendQueue_port]

theorem State.cEmptied_opposite (s : State) (gone : Bool) : (s.cEmptied gone).port .s = s.port .s :=
  (State.dropOrder_opposite _ .c).trans (State.port_countPort_opposite _ .c _)

/-- The monitor of a C-port without carrier: DOWN, its timer stopped. -/
theorem State.carrierGone_monitor (s : State) : s.carrierGone.monitor =
    ⟨.down, s.settings.missLimit, none, s.monitor.lastProbe, s.monitor.lastEcho⟩ := by
  have fallen : (s.passDown s.settings.missLimit .carrier).monitor =
      { s.monitor with state := .down, missed := s.settings.missLimit } :=
    (State.monitor_of_events (s.sansEvents_passDown _ _)).trans rfl
  rw [State.carrierGone, fallen]
  rfl

theorem State.sansMonitor_carrierGone (s : State) : s.carrierGone.sansMonitor = s.sansMonitor :=
  (State.sansMonitor_setMonitor _ _).trans (s.sansMonitor_passDown _ _)

theorem State.carrierGone_sendQueue (s : State) : s.carrierGone.sendQueue = s.sendQueue :=
  (State.sendQueue_of_events (s.sansEvents_passDown _ _)).trans rfl

/-- What a loss at the C-port counts as sent is the first segment that had left, if one had. -/
theorem State.segmentLeft_length {s : State} {gone : Bool} {out : Nat}
    (one : (gone = true ∧ (s.port .c).transmitting = some .sendQueue ∧
      ∃ e rest, s.sendQueue = e :: rest ∧ 1216 < e.body.length) → out = 1)
    (zero : ¬ (gone = true ∧ (s.port .c).transmitting = some .sendQueue ∧
      ∃ e rest, s.sendQueue = e :: rest ∧ 1216 < e.body.length) → out = 0) :
    (s.segmentLeft (gone && s.segmentsInFlight)).length = out ∧ (out = 1 → (gone && s.segmentsInFlight) = true ∧
      ∃ e rest, s.sendQueue = e :: rest ∧ 1216 < e.body.length) := by
  have flight : (gone && s.segmentsInFlight) = true ↔ (gone = true ∧ (s.port .c).transmitting = some .sendQueue ∧
      ∃ e rest, s.sendQueue = e :: rest ∧ 1216 < e.body.length) := by
    rw [Bool.and_eq_true, s.segmentsInFlight_iff]
  cases h : (gone && s.segmentsInFlight) with
  | true =>
    have flew := flight.mp h
    obtain ⟨e, rest, queue, long⟩ := flew.2.2
    rw [one flew, State.segmentLeft_of_two queue long]
    exact ⟨rfl, fun _ => ⟨rfl, e, rest, queue, long⟩⟩
  | false =>
    rw [zero (fun c => absurd (h.symm.trans (flight.mpr c)) (by decide))]
    exact ⟨rfl, fun h => absurd h (by decide)⟩

/-- A loss at the C-port that has carrier: both holders emptied, then the monitor (R106, R107, R112). -/
theorem State.cCarrierLost_of_carrier {s : State} {gone : Bool} (carrier : (s.port .c).carrier = true) :
    exec (.cPortCarrierLost gone) s = .next (s.cEmptied (gone && s.segmentsInFlight)).carrierGone := by
  simp only [exec, execCPortCarrierLost, State.cCarrierLost, carrier, if_true]
  rfl

theorem State.cCarrierReturns_of_serving {s : State} (lost : (s.port .c).carrier = false) (serving : s.phase = .serving) :
    s.cCarrierReturns = (s.carrierReturns .c).sendProbe.restartProbeTimer := by
  have carrier : ((s.carrierReturns .c).port .c).carrier = true := by
    rw [State.carrierReturns, State.port_setPort_same]
  unfold State.cCarrierReturns State.firstProbe
  rw [if_neg (by simp [lost]), if_pos ⟨serving, carrier⟩]

/-- The first probe of a C-port that has carrier, and the timer (R113). -/
theorem State.firstProbe_spec {s : State} (carrier : (s.port .c).carrier = true) (serving : s.phase = .serving) :
    (s.sendProbe.restartProbeTimer.port .c).carrier = true ∧
    s.sendProbe.restartProbeTimer.monitor.state = s.monitor.state ∧
    s.sendProbe.restartProbeTimer.monitor.missed = s.monitor.missed ∧
    s.sendProbe.restartProbeTimer.monitor.timer = some (s.after s.settings.probeInterval) ∧
    (s.sendPlaceFree = true → s.sendProbe.restartProbeTimer.sendQueue =
      s.sendQueue ++ [s.probe s.sendProbe.restartProbeTimer.monitor.lastProbe]) ∧
    (s.sendPlaceFree = false → s.sendProbe.restartProbeTimer.sendQueue = s.sendQueue) ∧
    s.sendProbe.restartProbeTimer.sansMonitor = s.sansMonitor := by
  have onSend := s.sansMonitor_sendProbe
  have wire := (s.sendProbe_carrier .c).trans carrier
  have clock := State.clock_of_monitor onSend
  have settings := State.settings_of_monitor onSend
  have spec : s.sendProbe.monitor.state = s.monitor.state ∧ s.sendProbe.monitor.missed = s.monitor.missed ∧
      (s.sendPlaceFree = true → s.sendProbe.sendQueue = s.sendQueue ++ [s.probe s.sendProbe.monitor.lastProbe]) ∧
      (s.sendPlaceFree = false → s.sendProbe.sendQueue = s.sendQueue) := by
    cases free : s.sendPlaceFree with
    | false =>
      rw [State.sendProbe_of_full free]
      exact ⟨rfl, rfl, fun h => absurd h (by decide), fun _ => rfl⟩
    | true =>
      obtain ⟨⟨echo, probed⟩, sent, -⟩ := State.sendProbe_of_room free carrier
      obtain ⟨state, missed, last⟩ := s.monitor.probed_fields s.nextProbe echo
      rw [probed, last]
      exact ⟨state, missed, fun _ => sent, fun h => absurd h (by decide)⟩
  obtain ⟨state, missed, free, full⟩ := spec
  rw [State.restartProbeTimer_of_serving wire ((State.phase_of_monitor onSend).trans serving), State.after, clock, settings]
  generalize s.sendProbe = p at *
  exact ⟨wire, state, missed, rfl, free, full, onSend⟩

/-- Settles O57: the holders emptied, then the monitor's fall; a return, and the first probe of a part that serves. -/
theorem carrierComesAndGoes : Obligations.CarrierComesAndGoes := by
  intro s
  refine ⟨fun carrier => ?_, fun none => ?_, rfl, fun gone out dropped last carrier one zero hd told untold => ?_,
    fun gone none => ?_, fun none serving => ?_, fun none starting => ?_, fun carrier => ?_⟩
  · have tx := s.sansTx_dropOrder .s
    refine ⟨s.dropOrder .s, ?_, s.dropOrder_port .s, s.dropOrder_opposite .s, tablesKept_of_tx tx, workKept_of_tx tx,
      chainKept_of_tx tx, storeKept_of_tx tx, historyKept_of_tx tx⟩
    simp only [exec, execSPortCarrierLost, State.sCarrierLost, carrier, if_true]
  · simp [exec, execSPortCarrierLost, State.sCarrierLost, none]
  · obtain ⟨length, first⟩ := State.segmentLeft_length one zero
    refine ⟨_, State.cCarrierLost_of_carrier carrier, ?_⟩
    generalize (gone && s.segmentsInFlight) = g at length first ⊢
    have tx := s.sansTx_cEmptied g
    have phase : (s.cEmptied g).phase = s.phase := (State.phase_of_tx tx).trans rfl
    have settings : (s.cEmptied g).settings = s.settings := (State.settings_of_tx tx).trans rfl
    have monitor : (s.cEmptied g).monitor = s.monitor := (State.monitor_of_tx tx).trans rfl
    have events : (s.cEmptied g).events = s.events := (State.events_of_tx tx).trans rfl
    have only : (s.cEmptied g).carrierGone.sansMonitor = (s.unqueued g).sansMonitor :=
      (State.sansMonitor_carrierGone _).trans (State.sansMonitor_of_events (State.sansEvents_of_tx tx))
    have wire : (s.cEmptied g).carrierGone.wire = s.wire ++ s.segmentLeft g := State.wire_of_monitor only
    have port := s.cEmptied_port g
    have frames : s.sendQueue.map Envelope.frames = s.sendQueue.map (fun e => if 1216 < e.body.length then 2 else 1) := rfl
    rw [length, frames, ← hd] at port
    refine ⟨?_, ?_, fun none => ?_, fun some e rest queue => ?_, ?_, fun live => ?_, fun down => ⟨?_, ?_⟩,
      fun up carrier room => ?_, (State.answerQueue_of_monitor only).trans rfl,
      (State.reassembly_of_monitor only).trans rfl, ?_, ?_, ?_⟩
    · rw [State.carrierGone, State.port_setMonitor, State.passDown_port _ _ (by rw [port]), port, phase, settings, monitor]
      split
      next h =>
        obtain ⟨live, serving, enabled, destination⟩ := h
        rw [told live serving enabled destination]
      next h =>
        rw [untold]
        by_contra not
        simp only [not_or, ← ne_eq] at not
        obtain ⟨live, notStarting, enabled, destination⟩ := not
        refine h ⟨live, ?_, by simpa using enabled, destination⟩
        cases serving : s.phase with
        | starting => exact absurd serving notStarting
        | serving => rfl
    · rw [State.carrierGone_sendQueue]
      exact (State.sendQueue_of_tx tx).trans rfl
    · rw [wire, List.length_eq_zero_iff.mp (length.trans none), List.append_nil]
    · obtain ⟨rfl, e', rest', queue', long⟩ := first some
      rw [wire]
      rw [queue] at queue'
      obtain ⟨rfl, rfl⟩ := List.cons.inj queue'
      rw [State.segmentLeft_of_two queue long]
    · rw [State.carrierGone_monitor, settings, monitor]
    · exact State.passDown_latched _ _ (monitor ▸ live)
    · rw [State.carrierGone, State.passDown_of_down _ _ ((congrArg Monitor.state monitor).trans down)]
      exact events
    · rw [State.carrierGone, State.port_setMonitor, State.passDown_of_down _ _ ((congrArg Monitor.state monitor).trans down),
        State.port_setMonitor, State.cEmptied_opposite]
    · have live : (s.cEmptied g).monitor.state ≠ .down := by rw [monitor, up]; decide
      have order := State.fallTold_order (s := s.cEmptied g) (s.cEmptied g).settings.missLimit (monitor ▸ up)
        (by rw [State.cEmptied_opposite]; exact carrier) (by rw [State.cEmptied_opposite]; exact room)
      rw [State.cEmptied_opposite, settings] at order
      rw [State.carrierGone, State.port_setMonitor, State.passDown_of_live _ _ live, ← order, settings]
      exact State.raise_order_prefix _ _ _
    · exact ⟨(State.settings_of_monitor only).trans rfl, (State.standIn_of_monitor only).trans rfl,
        (State.slots_of_monitor only).trans rfl, (State.lanes_of_monitor only).trans rfl⟩
    · exact ⟨(State.exchanges_of_monitor only).trans rfl, (State.log_of_monitor only).trans rfl,
        (State.engine_of_monitor only).trans rfl⟩
    · exact ⟨(State.store_of_monitor only).trans rfl, (State.persist_of_monitor only).trans rfl⟩
  · simp [exec, execCPortCarrierLost, State.cCarrierLost, none]
  · refine ⟨_, congrArg Host.Outcome.next (State.cCarrierReturns_of_serving none serving), ?_⟩
    obtain ⟨carrier, state, missed, timer, free, full, only⟩ := State.firstProbe_spec (s := s.carrierReturns .c)
      (by rw [State.carrierReturns, State.port_setPort_same]) serving
    refine ⟨carrier, state, missed, timer, free, full, ?_, ?_, ?_⟩
    · exact ⟨(State.settings_of_monitor only).trans rfl, (State.standIn_of_monitor only).trans rfl,
        (State.slots_of_monitor only).trans rfl, (State.lanes_of_monitor only).trans rfl⟩
    · exact ⟨(State.exchanges_of_monitor only).trans rfl, (State.log_of_monitor only).trans rfl,
        (State.engine_of_monitor only).trans rfl⟩
    · exact ⟨(State.store_of_monitor only).trans rfl, (State.persist_of_monitor only).trans rfl⟩
  · simp [exec, execCPortCarrierReturns, State.cCarrierReturns, none, State.firstProbe, State.carrierReturns, starting]
  · simp [exec, execCPortCarrierReturns, State.cCarrierReturns, carrier]

end Sys2Proof.Machine
end

section
/-! SUPPORT. The entry into SERVING (R185). -/

namespace Sys2Proof.Machine

open Sys2Proof.Safety

/-! ## What handing a frame leaves of the control state -/

theorem State.handFrame_control {s : State} {f : OutFrame} (p : Port) (h : f.isRestart = false) :
    (s.handFrame p f).control = s.control := by
  unfold State.handFrame
  rw [h]
  split
  · rfl
  · split
    · rfl
    · exact State.takeNext_control _ _

theorem State.raise_control (s : State) (d : EventDetails) : (s.raise d).control = s.control := by
  have fold : ∀ (k : Nat) (ps : List Port) (t : State),
      (ps.foldl (fun u p => u.handFrame p (u.notice p d k)) t).control = t.control := by
    intro k ps
    induction ps with
    | nil => exact fun _ => rfl
    | cons p ps ih => exact fun t => (ih _).trans (State.handFrame_control p rfl)
  unfold State.raise
  dsimp only
  split
  · rfl
  · split
    · exact fold _ _ _
    · rfl

theorem State.placeEnvelope_control (s : State) (e : Envelope) : (s.placeEnvelope e).control = s.control := by
  obtain ⟨ps, h⟩ := s.placeEnvelope_form e
  rw [h]

theorem State.placeEnvelope_events (s : State) (e : Envelope) : (s.placeEnvelope e).events = s.events := by
  obtain ⟨ps, h⟩ := s.placeEnvelope_form e
  rw [h]

theorem State.placeEnvelope_portS (s : State) (e : Envelope) : (s.placeEnvelope e).port .s = s.port .s := by
  unfold State.placeEnvelope
  split
  · exact State.port_countPort_opposite _ .c _
  · exact State.takeNext_opposite _ .c

theorem State.sendProbe_control (s : State) : s.sendProbe.control = s.control := by
  unfold State.sendProbe
  split
  · rw [State.placeEnvelope_control, State.setMonitor_control]
  · rfl

theorem State.sendProbe_events (s : State) : s.sendProbe.events = s.events := by
  unfold State.sendProbe
  split
  · rw [State.placeEnvelope_events, State.setMonitor_events]
  · rfl

theorem State.sendProbe_portS (s : State) : s.sendProbe.port .s = s.port .s := by
  unfold State.sendProbe
  split
  · rw [State.placeEnvelope_portS, State.port_setMonitor]
  · rfl

theorem State.restartProbeTimer_form (s : State) : ∃ m, s.restartProbeTimer = s.setMonitor m := by
  unfold State.restartProbeTimer
  split
  · exact ⟨_, rfl⟩
  · exact ⟨s.monitor, rfl⟩

/-- The first probe and the timer leave the control state, the events and the S-port (R113). -/
theorem State.firstProbe_leaves (s : State) : s.firstProbe.control = s.control ∧ s.firstProbe.events = s.events ∧
    s.firstProbe.port .s = s.port .s := by
  unfold State.firstProbe
  split
  · obtain ⟨m, h⟩ := s.sendProbe.restartProbeTimer_form
    rw [h, State.setMonitor_control, State.setMonitor_events, State.port_setMonitor]
    exact ⟨s.sendProbe_control, s.sendProbe_events, s.sendProbe_portS⟩
  · exact ⟨rfl, rfl, rfl⟩

/-! ## The epoch's report (R184, R185) -/

/-- The part after the report of the epoch's write, before it serves. -/
def State.epochTold (s : State) (n : Nat) (r : WriteResult) : State :=
  match r with
  | .completed => s.endWrite (.epoch n) r
  | .failed => (s.endWrite (.epoch n) r).epochFailed

theorem foldl_epoch {α : Type} {op : PersistentStore → α → PersistentStore} (keeps : ∀ t a, (op t a).epoch = t.epoch)
    (xs : List α) (t : PersistentStore) : (xs.foldl op t).epoch = t.epoch := by
  induction xs generalizing t with
  | nil => rfl
  | cons x xs ih => exact (ih _).trans (keeps t x)

/-- A group that begins leaves the epoch. -/
theorem CommitGroup.onStore_epoch (g : CommitGroup) (t : PersistentStore)
    (settings : SettingsBlock → Stored SettingsBlock → Stored SettingsBlock)
    (slots : SlotRecord → Stored SlotRecord → Stored SlotRecord) (lanes : LaneConfig → Stored LaneConfig → Stored LaneConfig)
    (classes : ClassRecord → Stored ClassRecord → Stored ClassRecord) :
    (g.onStore t settings slots lanes classes).epoch = t.epoch := by
  unfold CommitGroup.onStore
  dsimp only
  rw [foldl_epoch (op := fun t (x : CardClass × ClassRecord) => t.modClass x.1 (classes x.2)) (fun _ _ => rfl),
    foldl_epoch (op := fun t (x : LaneId × LaneConfig) => t.modLane x.1 (lanes x.2)) (fun _ _ => rfl),
    foldl_epoch (op := fun t (x : SlotId × SlotRecord) => t.modSlot x.1 (slots x.2)) (fun _ _ => rfl)]
  split <;> rfl

/-- The write that begins next leaves the epoch that has been written. -/
theorem Write.beginOn_epoch (w : Write) (t : PersistentStore) {n : Nat} (h : t.epoch.present = some n) :
    (w.beginOn t).epoch.present = some n := by
  cases w with
  | epoch m => simp [Write.beginOn, Stored.begin, Stored.read, h]
  | group g => rw [Write.beginOn, CommitGroup.onStore_epoch, h]
  | _ => exact h

theorem State.endWrite_epoch (s : State) (n : Nat) :
    (s.endWrite (.epoch n) .completed).store.epoch.present = some n := by
  cases h : s.persist.waiting with
  | nil => rw [State.endWrite_of_last _ _ h]; rfl
  | cons next rest => rw [State.endWrite_of_next _ _ h]; exact next.beginOn_epoch _ rfl

theorem State.epochTold_form {s : State} (n : Nat) (r : WriteResult) (starting : s.phase = .starting) : ∃ q d ev k,
    s.epochTold n r = { s with persist := q, store := d, events := ev, startCount := k } ∧
    (r = .completed → d.epoch.present = some n) := by
  obtain ⟨q, d, h⟩ := s.endWrite_form (.epoch n) r
  cases r with
  | completed =>
    have done := s.endWrite_epoch n
    rw [h] at done
    exact ⟨q, d, s.events, s.startCount, h, fun _ => done⟩
  | failed =>
    rw [State.epochTold, h, State.epochFailed, State.writeFailed, State.raise_of_starting (by exact starting)]
    exact ⟨q, d, _, _, rfl, fun h => absurd h (by decide)⟩

/-- The part as it begins to serve, before anything is handed over. -/
def State.nowServing (s : State) : State :=
  { s with
    phase := .serving
    servingSince := s.clock
    scrub := { s.scrub with nextStep := s.clock + s.settings.scrubInterval } }

/-- The restart told to the tills and reported (R185). -/
def State.restartTold (s : State) : State :=
  (s.nowServing.broadcastTills .restart).raise (.restarted s.startKind s.startCount)

theorem State.sansEvents_restartTold (s : State) : s.restartTold.sansEvents = s.nowServing.sansEvents :=
  (State.sansEvents_raise _ _).trans (State.sansEvents_of_tx (State.sansTx_handTill _ _ _ _ _ _))

theorem State.restartTold_carrier (s : State) (p : Port) : (s.restartTold.port p).carrier = (s.port p).carrier :=
  (State.raise_carrier _ _ p).trans (State.handFrame_carrier _ _ _ _)

theorem State.restartTold_control (s : State) : s.restartTold.control = s.control :=
  (State.raise_control _ _).trans (State.handFrame_control .s rfl)

theorem State.restartTold_latched (s : State) : s.restartTold.events[17].latched = true := by
  rw [State.restartTold, State.raise_events]
  simp [EventDetails.kind, EventKind.number]

/-- RESTART is the first frame of an S-port that has none (R185). -/
theorem State.restartTold_order {s : State} (carrier : (s.port .s).carrier = true) (empty : (s.port .s).order = []) :
    (s.restartTold.port .s).order.head? =
      some (.till (makeTill Config.broadcast s.settings.sStation 0 0 .restart none)) := by
  have room : (s.nowServing.port .s).order.length < Config.orderCapacity := by
    have nil : (s.nowServing.port .s).order = [] := empty
    rw [nil]
    decide
  have order : ((s.nowServing.broadcastTills .restart).port .s).order =
      [.till (makeTill Config.broadcast s.settings.sStation 0 0 .restart none)] :=
    (State.handFrame_order s.nowServing .s _ carrier room).trans (congrArg (· ++ _) empty)
  obtain ⟨more, joined⟩ := (s.nowServing.broadcastTills .restart).raise_order_prefix
    (.restarted s.startKind s.startCount) .s
  rw [State.restartTold, ← joined, order]
  rfl

theorem State.sansMonitor_serve (s : State) : s.serve.sansMonitor = s.nowServing.sansMonitor :=
  (State.sansMonitor_firstProbe _).trans (State.sansMonitor_of_events s.sansEvents_restartTold)

/-- The monitor and the Send Queue of a part that begins to serve: by the C-port's carrier (R113, R185). -/
theorem State.serve_chain (s : State) :
    ((s.port .c).carrier = true → s.serve.monitor.timer = some (s.after s.settings.probeInterval) ∧
      (s.sendPlaceFree = true → s.serve.sendQueue = s.sendQueue ++ [s.probe s.serve.monitor.lastProbe])) ∧
    ((s.port .c).carrier = false → s.serve.monitor = s.monitor ∧ s.serve.sendQueue = s.sendQueue) := by
  have kept := s.sansEvents_restartTold
  have phase : s.restartTold.phase = .serving := State.phase_of_events kept
  have clock : s.restartTold.clock = s.clock := (State.clock_of_events kept).trans rfl
  have settings : s.restartTold.settings = s.settings := (State.settings_of_events kept).trans rfl
  have slots : s.restartTold.slots = s.slots := (State.slots_of_events kept).trans rfl
  have engine : s.restartTold.engine = s.engine := (State.engine_of_events kept).trans rfl
  have queue : s.restartTold.sendQueue = s.sendQueue := (State.sendQueue_of_events kept).trans rfl
  have wire := s.restartTold_carrier .c
  have is : s.serve = s.restartTold.firstProbe := rfl
  refine ⟨fun carrier => ?_, fun lost => ?_⟩
  · obtain ⟨-, -, -, timer, free, -, -⟩ := State.firstProbe_spec (wire.trans carrier) phase
    rw [State.after, clock, settings] at timer
    rw [is, State.firstProbe, if_pos ⟨phase, wire.trans carrier⟩]
    refine ⟨timer, fun place => ?_⟩
    rw [free ((State.sendPlaceFree_congr queue engine).trans place), queue, State.probe_congr slots]
  · rw [is, State.firstProbe, if_neg (by rw [wire, lost]; simp)]
    exact ⟨(State.monitor_of_events kept).trans rfl, queue⟩

/-- What else a part that begins to serve shows. -/
theorem State.serve_leaves (s : State) : s.serve.control = s.control ∧ s.serve.events[17].latched = true ∧
    ((s.port .s).carrier = true → (s.port .s).order = [] → (s.serve.port .s).order.head? =
      some (.till (makeTill Config.broadcast s.settings.sStation 0 0 .restart none))) := by
  obtain ⟨control, events, portS⟩ := s.restartTold.firstProbe_leaves
  have is : s.serve = s.restartTold.firstProbe := rfl
  rw [is, control, events, portS]
  exact ⟨s.restartTold_control, s.restartTold_latched, State.restartTold_order⟩

theorem State.epochReported_of_starting {s : State} {n : Nat} (r : WriteResult) (starting : s.phase = .starting)
    (current : s.persist.current = some (.epoch n)) : s.epochReported r = (s.epochTold n r).serve := by
  have epoch : s.persist.epochWrite = some n := by simp only [PersistQueue.epochWrite, current]
  unfold State.epochReported
  rw [starting, epoch]
  cases r <;> rfl

/-- Settles O11: the report leaves all but the store, its queue and the events; then the restart told and the first
probe. -/
theorem epochReportEntersServing : Obligations.EpochReportEntersServing := by
  intro result s n starting current
  obtain ⟨q, d, ev, k, told, written⟩ := State.epochTold_form (s := s) n result starting
  refine ⟨_, congrArg Host.Outcome.next (State.epochReported_of_starting result starting current), ?_⟩
  rw [told]
  obtain ⟨u, hu⟩ : ∃ u : State, u = { s with persist := q, store := d, events := ev, startCount := k } := ⟨_, rfl⟩
  rw [← hu]
  have only := u.sansMonitor_serve
  obtain ⟨running, silent⟩ := u.serve_chain
  obtain ⟨control, latched, first⟩ := u.serve_leaves
  refine ⟨State.phase_of_monitor only, ?_, ?_, ⟨?_, ?_, ?_, ?_⟩, ⟨?_, ?_, ?_⟩, ?_, ?_, latched, fun done => ?_, ?_, ?_, ?_, ?_⟩
  · exact (State.servingSince_of_monitor only).trans (by rw [hu]; rfl)
  · exact (State.scrub_of_monitor only).trans (by rw [hu]; rfl)
  · exact (State.settings_of_monitor only).trans (by rw [hu]; rfl)
  · exact (State.standIn_of_monitor only).trans (by rw [hu]; rfl)
  · exact (State.slots_of_monitor only).trans (by rw [hu]; rfl)
  · exact (State.lanes_of_monitor only).trans (by rw [hu]; rfl)
  · exact (State.exchanges_of_monitor only).trans (by rw [hu]; rfl)
  · exact (State.log_of_monitor only).trans (by rw [hu]; rfl)
  · exact (State.engine_of_monitor only).trans (by rw [hu]; rfl)
  · exact (State.answerQueue_of_monitor only).trans (by rw [hu]; rfl)
  · rw [control, hu]
  · rw [State.store_of_monitor only, hu]
    exact written done
  · rw [hu] at first ⊢
    exact first
  · intro carrier
    rw [hu] at running ⊢
    exact (running carrier).1
  · intro carrier place
    rw [hu] at running ⊢
    exact (running carrier).2 place
  · intro lost
    rw [hu] at silent ⊢
    exact silent lost

end Sys2Proof.Machine
end

section
/-! SUPPORT. The scrubber's walk (R154) and its findings (R153, R155, R156, R159). -/

namespace Sys2Proof.Machine

open Sys2Proof.Safety

/-! ## The walk -/

theorem nextPosition_val {p : Position} (h : p.val + 1 < 145) : (nextPosition p).val = p.val + 1 := by
  simp [nextPosition, h]

theorem nextPosition_iterate_val {p : Position} (j : Nat) (h : p.val + j < 145) : (nextPosition^[j] p).val = p.val + j := by
  induction j with
  | zero => rfl
  | succ j ih =>
    have before := ih (by omega)
    rw [Function.iterate_succ_apply', nextPosition_val (by omega), before]
    omega

/-- The walk passes over held positions and stops at the first that is not, or where its fuel ends. -/
theorem State.walkFrom_spec (s : State) (fuel : Nat) (p : Position) : ∃ k, s.walkFrom fuel p = nextPosition^[k] p ∧
    (∀ j, j < k → s.heldPosition (nextPosition^[j] p) = true) ∧
    (k < fuel ∧ s.heldPosition (nextPosition^[k] p) = false ∨ k = fuel) := by
  induction fuel generalizing p with
  | zero => exact ⟨0, rfl, fun j h => absurd h (by omega), .inr rfl⟩
  | succ fuel ih =>
    unfold State.walkFrom
    cases held : s.heldPosition p with
    | false => exact ⟨0, rfl, fun j h => absurd h (by omega), .inl ⟨by omega, held⟩⟩
    | true =>
      obtain ⟨k, lands, passed, stops⟩ := ih (nextPosition p)
      refine ⟨k + 1, lands, fun j h => ?_, ?_⟩
      · cases j with
        | zero => exact held
        | succ j => exact passed j (by omega)
      · rcases stops with ⟨inside, free⟩ | out
        · exact .inl ⟨by omega, free⟩
        · exact .inr (by omega)

/-- Only slots are held: the walk stops before it has gone round (R154). -/
theorem State.walkFrom_stops (s : State) (p : Position) : ∃ k, k < 145 ∧ s.walkFrom 145 p = nextPosition^[k] p ∧
    (∀ j, j < k → s.heldPosition (nextPosition^[j] p) = true) ∧ s.heldPosition (nextPosition^[k] p) = false := by
  obtain ⟨k, lands, passed, stops⟩ := s.walkFrom_spec 145 p
  rcases stops with ⟨inside, free⟩ | out
  · exact ⟨k, inside, lands, passed, free⟩
  · exfalso
    have outside : ∀ x : Position, 96 ≤ x.val → s.heldPosition x = false := fun x h => by
      simp [State.heldPosition, Nat.not_lt.mpr h]
    by_cases slot : p.val < 96
    · have at96 := nextPosition_iterate_val (p := p) (96 - p.val) (by omega)
      have held := passed (96 - p.val) (by omega)
      rw [outside _ (by omega)] at held
      exact absurd held (by decide)
    · have held := passed 0 (by omega)
      rw [outside _ (by exact Nat.not_lt.mp slot)] at held
      exact absurd held (by decide)

theorem State.heldPosition_iff (s : State) (a : Position) : s.heldPosition a = true ↔
    a.val < 96 ∧ ∃ p r, grantedRange s p = some r ∧ r.low ≤ a.val ∧ a.val ≤ r.high := by
  rw [State.heldPosition, Bool.and_eq_true, decide_eq_true_eq, State.held_iff]

theorem State.walkFrom_congr {s t : State} (h : t.control = s.control) (fuel : Nat) (p : Position) :
    t.walkFrom fuel p = s.walkFrom fuel p := by
  have held : ∀ q, t.heldPosition q = s.heldPosition q := fun q => by
    rw [State.heldPosition, State.held_congr (fun p => congrArg (fun c => (PerPort.at c p).hold) h)]
    rfl
  induction fuel generalizing p with
  | zero => rfl
  | succ fuel ih => rw [State.walkFrom, State.walkFrom, held, ih]

/-! ## What a finding leaves -/

/-- All but the histories, and what an event hands over, is as it was. -/
def historyOnly (s t : State) : Prop :=
  tablesKept s t ∧ workKept s t ∧ chainKept s t ∧ storeKept s t ∧ t.upsets = s.upsets ∧ t.seconds = s.seconds

theorem historyOnly_trans {s t u : State} (h : historyOnly s t) (k : historyOnly t u) : historyOnly s u := by
  obtain ⟨⟨a1, a2, a3, a4⟩, ⟨b1, b2, b3⟩, ⟨c1, c2, c3, c4⟩, ⟨d1, d2⟩, e, f⟩ := h
  obtain ⟨⟨a1', a2', a3', a4'⟩, ⟨b1', b2', b3'⟩, ⟨c1', c2', c3', c4'⟩, ⟨d1', d2'⟩, e', f'⟩ := k
  exact ⟨⟨a1'.trans a1, a2'.trans a2, a3'.trans a3, a4'.trans a4⟩, ⟨b1'.trans b1, b2'.trans b2, b3'.trans b3⟩,
    ⟨c1'.trans c1, c2'.trans c2, c3'.trans c3, c4'.trans c4⟩, ⟨d1'.trans d1, d2'.trans d2⟩, e'.trans e, f'.trans f⟩

/-- Writing the scrubber and the device counters. -/
theorem historyOnly_scrub (s : State) (x : Scrubber) (y : DeviceCounters) :
    historyOnly s { s with scrub := x, device := y } :=
  ⟨⟨rfl, rfl, rfl, rfl⟩, ⟨rfl, rfl, rfl⟩, ⟨rfl, rfl, rfl, rfl⟩, ⟨rfl, rfl⟩, rfl, rfl⟩

theorem historyOnly_raise (s : State) (d : EventDetails) : historyOnly s (s.raise d) := by
  have kept := s.sansEvents_raise d
  have onLanes : (s.raise d).sansLanes = s.sansLanes := congrArg (fun u => eraseLanes (eraseStore u)) kept
  refine ⟨tablesKept_of_events kept, workKept_of_lanes onLanes, chainKept_of_lanes onLanes, storeKept_of_events kept,
    State.upsets_of_events kept, ?_⟩
  simp only [State.seconds, State.clock_of_events kept, State.servingSince_of_events kept]

/-- The scrubber once a finding has been offered to the capture (R159). -/
def Scrubber.offered (x : Scrubber) (f : Finding) : Scrubber :=
  match x.capture with
  | none => { x with capture := some f }
  | some _ => { x with missed := satInc Config.count8Max x.missed }

theorem State.offerCapture_form (s : State) (p : Position) (k : FindingKind) (y : Option Syndrome) (a : Agent) : ∃ dv,
    s.offerCapture p k y a = { s with scrub := s.scrub.offered ⟨p, k, y, a, s.seconds⟩, device := dv } := by
  cases h : s.scrub.capture with
  | none => exact ⟨s.device, by simp only [State.offerCapture, Scrubber.offered, h]⟩
  | some x => exact ⟨_, by simp only [State.offerCapture, Scrubber.offered, h]; rfl⟩

theorem Scrubber.offered_fields (x : Scrubber) (f : Finding) : (x.offered f).map = x.map ∧
    (x.offered f).suppress = x.suppress ∧ (x.capture = none → (x.offered f).capture = some f) ∧
    (∀ g, x.capture = some g → (x.offered f).capture = some g ∧ (x.offered f).missed = satInc 255 x.missed) := by
  cases h : x.capture with
  | none => simp [Scrubber.offered, h]
  | some g => simp [Scrubber.offered, h, Config.count8Max]

/-- What a recorded finding shows in the scrubber: the map's entry, the capture, and all else as before. -/
structure Recorded (s t : State) (q : Position) (entry : FaultEntry) (f : Finding) : Prop where
  only : historyOnly s t
  clock : t.clock = s.clock
  settings : t.settings = s.settings
  map : t.scrub.map[q] = entry
  others : ∀ k : Position, k ≠ q → t.scrub.map[k] = s.scrub.map[k]
  first : s.scrub.capture = none → t.scrub.capture = some f
  missed : ∀ x, s.scrub.capture = some x → t.scrub.capture = some x ∧ t.scrub.missed = satInc 255 s.scrub.missed

theorem State.modFault_map (s : State) (p : Position) (g : FaultEntry → FaultEntry) :
    (s.modFault p g).scrub.map[p] = g s.scrub.map[p] ∧
    ∀ k : Position, k ≠ p → (s.modFault p g).scrub.map[k] = s.scrub.map[k] := by
  refine ⟨by simp [State.modFault], fun k ne => ?_⟩
  have val : p.val ≠ k.val := fun e => ne (Fin.ext e.symm)
  simp [State.modFault, Vector.getElem_set_ne, val]

/-- The fault map's entry written, then something that leaves the histories' map and capture, then the capture. -/
theorem recorded_of {s u : State} {q : Position} {g : FaultEntry → FaultEntry} (k : FindingKind) (y : Option Syndrome)
    (a : Agent) (kept : historyOnly (s.modFault q g) u) (clock : u.clock = s.clock)
    (map : u.scrub.map = (s.modFault q g).scrub.map) (capture : u.scrub.capture = s.scrub.capture)
    (missed : u.scrub.missed = s.scrub.missed) :
    Recorded s (u.offerCapture q k y a) q (g s.scrub.map[q]) ⟨q, k, y, a, s.seconds⟩ := by
  obtain ⟨dv, form⟩ := u.offerCapture_form q k y a
  obtain ⟨same, others⟩ := s.modFault_map q g
  have seconds : u.seconds = s.seconds := kept.2.2.2.2.2
  obtain ⟨offMap, -, first, again⟩ := u.scrub.offered_fields ⟨q, k, y, a, s.seconds⟩
  rw [form, seconds]
  have only : historyOnly s u := historyOnly_trans (historyOnly_scrub s _ _) kept
  refine ⟨historyOnly_trans only (historyOnly_scrub u _ _), clock, only.1.1, ?_, fun k ne => ?_, fun free => ?_,
    fun x held => ?_⟩
  · dsimp only
    rw [offMap, map, same]
  · dsimp only
    rw [offMap, map, others k ne]
  · exact first (capture.trans free)
  · obtain ⟨stands, counts⟩ := again x (capture.trans held)
    exact ⟨stands, counts.trans (by rw [missed])⟩

/-- A hard finding joins the suppress list, or was there (R156). -/
theorem State.reportHard_spec (s : State) (p : Position) (y : Syndrome) (a : Agent) :
    historyOnly s (s.reportHard p y a) ∧ (s.reportHard p y a).clock = s.clock ∧
    (s.reportHard p y a).scrub.map = s.scrub.map ∧ (s.reportHard p y a).scrub.capture = s.scrub.capture ∧
    (s.reportHard p y a).scrub.missed = s.scrub.missed ∧ (p, y) ∈ (s.reportHard p y a).scrub.suppress ∧
    ((p, y) ∈ s.scrub.suppress → s.reportHard p y a = s) ∧
    ((p, y) ∉ s.scrub.suppress → (s.reportHard p y a).events[8].latched = true) := by
  unfold State.reportHard
  by_cases listed : (p, y) ∈ s.scrub.suppress
  · rw [if_pos listed]
    exact ⟨historyOnly_scrub s _ _, rfl, rfl, rfl, rfl, listed, fun _ => rfl, fun no => absurd listed no⟩
  · rw [if_neg listed]
    have scrub : (s.raise (.scrubHard p y a)).scrub = s.scrub := State.scrub_of_events (s.sansEvents_raise _)
    have clock : (s.raise (.scrubHard p y a)).clock = s.clock := State.clock_of_events (s.sansEvents_raise _)
    have map : (s.raise (.scrubHard p y a)).scrub.map = s.scrub.map := congrArg Scrubber.map scrub
    have capture : (s.raise (.scrubHard p y a)).scrub.capture = s.scrub.capture := congrArg Scrubber.capture scrub
    have missed : (s.raise (.scrubHard p y a)).scrub.missed = s.scrub.missed := congrArg Scrubber.missed scrub
    refine ⟨historyOnly_trans (historyOnly_raise s _) (historyOnly_scrub _ _ _), clock, map, capture, missed, ?_,
      fun yes => absurd yes listed, fun _ => ?_⟩
    · simp [joinSuppress]
    · dsimp only
      rw [State.raise_events]
      simp [EventDetails.kind, EventKind.number]

theorem State.offerCapture_leaves (s : State) (p : Position) (k : FindingKind) (y : Option Syndrome) (a : Agent) :
    (s.offerCapture p k y a).events = s.events ∧ (s.offerCapture p k y a).scrub.suppress = s.scrub.suppress := by
  obtain ⟨dv, form⟩ := s.offerCapture_form p k y a
  rw [form]
  exact ⟨rfl, (s.scrub.offered_fields _).2.1⟩

/-- The fault map's entry after a soft finding, and after a hard one (R155). -/
def softEntry (y : Syndrome) (e : FaultEntry) : FaultEntry :=
  { e with soft := satInc Config.count8Max e.soft, syndrome := some y }

def hardEntry (y : Syndrome) (e : FaultEntry) : FaultEntry :=
  { e with soft := satInc Config.count8Max e.soft, hard := true, syndrome := some y }

/-- A soft finding (R155, R156, R159). -/
theorem State.softFinding_spec (s : State) (p : Position) (y : Syndrome) (a : Agent) :
    Recorded s (s.softFinding p y a) p (softEntry y s.scrub.map[p]) ⟨p, .soft, some y, a, s.seconds⟩ ∧
    (s.softFinding p y a).scrub.suppress = s.scrub.suppress ∧ (s.softFinding p y a).events[7].latched = true := by
  have kept := (s.modFault p (softEntry y)).sansEvents_raise (.scrubCorrected p y a)
  have scrub := State.scrub_of_events kept
  obtain ⟨events, suppress⟩ := ((s.modFault p (softEntry y)).raise (.scrubCorrected p y a)).offerCapture_leaves p .soft (some y) a
  refine ⟨recorded_of .soft (some y) a (historyOnly_raise (s.modFault p (softEntry y)) _)
    ((State.clock_of_events kept).trans rfl) (congrArg Scrubber.map scrub)
    ((congrArg Scrubber.capture scrub).trans rfl) ((congrArg Scrubber.missed scrub).trans rfl),
    suppress.trans ((congrArg Scrubber.suppress scrub).trans rfl), ?_⟩
  refine (congrArg (fun v => v[7].latched) events).trans ?_
  rw [State.raise_events]
  simp [EventDetails.kind, EventKind.number]

/-- A hard finding (R155, R156, R159). -/
theorem State.hardFinding_spec (s : State) (p : Position) (y : Syndrome) (a : Agent) :
    Recorded s (s.hardFinding p y a) p (hardEntry y s.scrub.map[p])
      ⟨p, .hard, some y, a, s.seconds⟩ ∧
    (p, y) ∈ (s.hardFinding p y a).scrub.suppress ∧
    ((p, y) ∈ s.scrub.suppress → (s.hardFinding p y a).events = s.events ∧
      (s.hardFinding p y a).scrub.suppress = s.scrub.suppress) ∧
    ((p, y) ∉ s.scrub.suppress → (s.hardFinding p y a).events[8].latched = true) := by
  obtain ⟨only, clock, map, capture, missed, listed, before, after⟩ := (s.modFault p (hardEntry y)).reportHard_spec p y a
  obtain ⟨events, suppress⟩ := ((s.modFault p (hardEntry y)).reportHard p y a).offerCapture_leaves p .hard (some y) a
  refine ⟨recorded_of .hard (some y) a only clock map capture missed, ?_, fun was => ⟨?_, ?_⟩, fun was => ?_⟩
  · exact suppress.symm ▸ listed
  · exact events.trans ((congrArg State.events (before was)).trans rfl)
  · exact suppress.trans ((congrArg (fun t : State => t.scrub.suppress) (before was)).trans rfl)
  · exact (congrArg (fun v => v[8].latched) events).trans (after was)

/-! ## A check by what stands at the position (R153) -/

theorem State.checkRecord_of_sound {s : State} {p : Position} (a : Agent) (h : s.upsetAt p = none) :
    s.checkRecord p a = (s, true) := by
  simp only [State.checkRecord, h]

theorem State.checkRecord_of_hard {s : State} {p : Position} {y : Syndrome} (a : Agent)
    (h : s.upsetAt p = some (.single y true)) : s.checkRecord p a = (s.hardFinding p y a, true) := by
  simp only [State.checkRecord, h, if_true]

theorem State.checkRecord_of_soft {s : State} {p : Position} {y : Syndrome} (a : Agent)
    (h : s.upsetAt p = some (.single y false)) : s.checkRecord p a = ((s.rewritten p).softFinding p y a, true) := by
  simp [State.checkRecord, h]

theorem State.checkRecord_of_bad {s : State} {p : Position} (a : Agent)
    (h : (∃ stuck, s.upsetAt p = some (.uncorrectable stuck)) ∨ ∃ y stuck, s.upsetAt p = some (.worsening y stuck)) :
    s.checkRecord p a = (s.uncorrectableFinding p a, false) := by
  rcases h with ⟨stuck, h⟩ | ⟨y, stuck, h⟩ <;> simp only [State.checkRecord, h]

/-! ## The scrub step (R154) -/

theorem State.exec_scrubStep_of_due {s : State} {w : Wear} (serving : s.phase = .serving)
    (late : s.scrub.nextStep ≤ s.clock) :
    exec (.scrubStep w) s = .next { ((s.applyWear w).checkRecord (s.walkFrom 145 s.scrub.walk) .scrubber).1 with
      scrub := { ((s.applyWear w).checkRecord (s.walkFrom 145 s.scrub.walk) .scrubber).1.scrub with
        walk := nextPosition (s.walkFrom 145 s.scrub.walk)
        nextStep := s.clock + s.settings.scrubInterval } } := by
  have due : s.due s.scrub.nextStep = true := (s.due_iff _).mpr ⟨serving, late⟩
  have walk : (s.applyWear w).walkFrom 145 s.scrub.walk = s.walkFrom 145 s.scrub.walk := State.walkFrom_congr rfl _ _
  have ran : exec (.scrubStep w) s = .next (s.applyWear w).scrubWalk := by
    simp only [exec, execScrubStep, State.scrubStep, due, if_true]
  rw [ran, State.scrubWalk]
  dsimp only
  rw [show (s.applyWear w).scrub.walk = s.scrub.walk from rfl, walk]
  rfl

/-- Settles O54: the walk, then the check of the record it stops at. -/
theorem scrubStepChecksTheNext : Obligations.ScrubStepChecksTheNext := by
  intro w q s u hq hu
  obtain ⟨k, inside, lands, passed, free⟩ := s.walkFrom_stops s.scrub.walk
  refine ⟨⟨k, inside, hq.trans lands, passed⟩, ?_, s.heldPosition_iff, fun no => ?_, fun serving late =>
    ⟨fun clean => ?_, fun y stuck found => ?_⟩⟩
  · rw [hq, lands]
    exact free
  · have notDue : s.due s.scrub.nextStep = false := by
      rcases no with starting | early
      · simp [State.due, starting]
      · exact State.due_of_early early
    simp [exec, execScrubStep, State.scrubStep, notDue]
  · rw [State.exec_scrubStep_of_due serving late, ← hq, ← hu, State.checkRecord_of_sound .scrubber clean, hu]
    rfl
  · refine ⟨_, State.exec_scrubStep_of_due serving late, ?_⟩
    rw [← hq, ← hu]
    subst hu
    cases stuck with
    | true =>
      rw [State.checkRecord_of_hard .scrubber found]
      obtain ⟨rec, listed, before, after⟩ := (s.applyWear w).hardFinding_spec q y .scrubber
      obtain ⟨tables, work, chain, ⟨store, persist⟩, -, -⟩ := rec.only
      have map := rec.map
      refine ⟨rfl, rfl, congrArg FaultEntry.soft map, congrArg FaultEntry.syndrome map, ?_,
        (congrArg FaultEntry.uncorrectable map).trans rfl,
        rec.others, rec.first, rec.missed, fun no => absurd no (by decide), fun _ => ⟨listed, before, after⟩, tables, work,
        chain, persist, store⟩
      exact (congrArg FaultEntry.hard map).trans (Bool.or_true _).symm
    | false =>
      rw [State.checkRecord_of_soft .scrubber found]
      obtain ⟨rec, suppress, latched⟩ := ((s.applyWear w).rewritten q).softFinding_spec q y .scrubber
      obtain ⟨tables, work, chain, ⟨store, persist⟩, upsets, -⟩ := rec.only
      have map := rec.map
      refine ⟨rfl, rfl, congrArg FaultEntry.soft map, congrArg FaultEntry.syndrome map, ?_,
        (congrArg FaultEntry.uncorrectable map).trans rfl,
        rec.others, rec.first, rec.missed, fun _ => ⟨?_, latched, suppress⟩, fun no => absurd no (by decide), tables, work,
        chain, persist, store⟩
      · exact (congrArg FaultEntry.hard map).trans (Bool.or_false _).symm
      · have gone : (q, Upset.single y false) ∉ ((s.applyWear w).rewritten q).upsets := by
          simp [State.rewritten, Upset.stuck]
        exact fun mem => gone (upsets ▸ mem)

end Sys2Proof.Machine
end

section
/-! SUPPORT. What an uncorrectable record does to its owner (R34, R43, R157). -/

namespace Sys2Proof.Machine

open Sys2Proof.Safety

/-! ## Latches that stay -/

/-- Every event latched before is latched after. -/
def latchKept (s t : State) : Prop := ∀ k : EventNumber, s.events[k].latched = true → t.events[k].latched = true

theorem latchKept_trans {s t u : State} (h : latchKept s t) (k : latchKept t u) : latchKept s u :=
  fun n hn => k n (h n hn)

theorem latchKept_of_events {s t : State} (h : t.events = s.events) : latchKept s t := fun k hk => by
  rw [h]
  exact hk

/-- An event latches its own kind and leaves the others as they were. -/
theorem latchKept_raise (s : State) (d : EventDetails) : latchKept s (s.raise d) := by
  intro k hk
  rw [State.raise_events]
  by_cases e : d.kind.number = k
  · subst e
    simp
  · have val : d.kind.number.val ≠ k.val := fun h => e (Fin.ext h)
    simpa [Vector.getElem_set_ne, val] using hk

theorem State.raise_latched (s : State) (d : EventDetails) : (s.raise d).events[d.kind.number].latched = true := by
  rw [State.raise_events]
  simp

theorem latchKept_of_tx {s t : State} (h : t.sansTx = s.sansTx) : latchKept s t := latchKept_of_events (State.events_of_tx h)

theorem latchKept_enqueue {s : State} (join : List Write → List Write) {failed : State → State}
    (h : latchKept s (failed s)) : latchKept s (s.enqueue join failed) := by
  unfold State.enqueue
  split
  · exact h
  · obtain ⟨q, t, e⟩ := s.setWaiting_form (join s.persist.waiting)
    rw [e]
    exact latchKept_of_events rfl

theorem latchKept_replaceOrAppend {s : State} (stop hit : Write → Bool) (new : Write) {failed : State → State}
    (h : latchKept s (failed s)) : latchKept s (s.replaceOrAppend stop hit new failed) := by
  unfold State.replaceOrAppend
  split
  next ws _ =>
    obtain ⟨q, t, e⟩ := s.setWaiting_form ws.reverse
    rw [e]
    exact latchKept_of_events rfl
  · exact latchKept_enqueue _ h

theorem latchKept_queueLaneState (s : State) (l : LaneId) : latchKept s (s.queueLaneState l) :=
  latchKept_replaceOrAppend _ _ _ (latchKept_raise s _)

theorem latchKept_queueSlotState (s : State) (n : SlotId) (r : SlotRecord) : latchKept s (s.queueSlotState n r) :=
  latchKept_enqueue _ (latchKept_raise s _)

theorem latchKept_refuseAtHand (s : State) (l : LaneId) (f : LaneFrame) (r : TillReason) :
    latchKept s (s.refuseAtHand l f r) := fun k hk =>
  (latchKept_of_tx (s.sansTx_replyInHand l f (.refused r) (s.handKey l)) k hk :)

theorem latchKept_clearMailbox (s : State) (l : LaneId) : latchKept s (s.clearMailbox l) := by
  unfold State.clearMailbox
  split
  · exact fun _ h => h
  · split
    · exact latchKept_trans (latchKept_of_events (t := s.modLane l _) rfl) (latchKept_refuseAtHand _ _ _ _)
    · exact fun _ h => h

/-- A lane that enters a state with an event latches it (R15). -/
theorem State.changeState_latched (s : State) (l : LaneId) (st : LaneState) (d : EventDetails) :
    latchKept s (s.changeState l st (some d)) ∧ (s.changeState l st (some d)).events[d.kind.number].latched = true := by
  have after : ∀ t : State, latchKept t ((t.clearMailbox l).queueLaneState l) := fun t =>
    latchKept_trans (latchKept_clearMailbox t l) (latchKept_queueLaneState _ l)
  unfold State.changeState
  dsimp only
  exact ⟨latchKept_trans (latchKept_raise (s.modLane l _) d) (after _), after _ _ (State.raise_latched _ d)⟩

theorem latchKept_faultLane (s : State) (l : LaneId) (c : FaultCause) : latchKept s (s.faultLane l c) := by
  cases h : staysAtFault (s.lane l).config.state with
  | true => rw [s.faultLane_of_stays l c h]; exact fun _ h => h
  | false => rw [s.faultLane_of_live l c h]; exact (s.changeState_latched _ _ _).1

theorem latchKept_faultLanesOf (s : State) (n : SlotId) : latchKept s (s.faultLanesOf n) := by
  have fold : ∀ (ls : List LaneId) (t : State), latchKept t (ls.foldl (fun t l => t.faultNaming n l) t) := by
    intro ls
    induction ls with
    | nil => exact fun t _ h => h
    | cons l ls ih =>
      intro t
      refine latchKept_trans ?_ (ih _)
      unfold State.faultNaming
      dsimp only
      split
      · exact latchKept_faultLane t l _
      · split
        · exact latchKept_faultLane t l _
        · exact fun _ h => h
  exact fold _ s

/-! ## The lanes of a slot now FAULTED (R34) -/

/-- The cause with which a slot's fault reaches a lane record, if it names the slot (R34). -/
def LaneConfig.causeOf (c : LaneConfig) (n : SlotId) : Option FaultCause :=
  if c.link = some n then some .linkKey else if c.base = some n then some .baseKey else none

/-- A lane record once a slot is FAULTED (R34). -/
def LaneRecord.slotFaulted (r : LaneRecord) (n : SlotId) : LaneRecord :=
  match r.config.causeOf n with
  | some c => if staysAtFault r.config.state then r else r.entered (.faulted c)
  | none => r

theorem State.lane_faultNaming (s : State) (n : SlotId) (l k : LaneId) :
    (s.faultNaming n l).lane k = if k = l then (s.lane k).slotFaulted n else s.lane k := by
  have act : ∀ c, (s.faultLane l c).lane k =
      if k = l then (if staysAtFault (s.lane k).config.state then s.lane k else (s.lane k).entered (.faulted c))
      else s.lane k := by
    intro c
    rw [State.lane_faultLane]
    by_cases e : k = l <;> cases h : staysAtFault (s.lane k).config.state <;> simp [e]
  unfold State.faultNaming LaneRecord.slotFaulted LaneConfig.causeOf
  dsimp only
  by_cases e : k = l
  · subst e
    rw [if_pos rfl]
    by_cases link : (s.lane k).config.link = some n
    · rw [if_pos link, if_pos link, act, if_pos rfl]
    · rw [if_neg link, if_neg link]
      by_cases base : (s.lane k).config.base = some n
      · rw [if_pos base, if_pos base, act, if_pos rfl]
      · rw [if_neg base, if_neg base]
  · rw [if_neg e]
    simp only [e, if_false] at act
    split
    · exact act _
    · split
      · exact act _
      · rfl

/-- Each lane is looked at once: those that name the slot, and leave their state, enter FAULTED. -/
theorem State.lane_faultLanesOf (s : State) (n : SlotId) (l : LaneId) :
    (s.faultLanesOf n).lane l = (s.lane l).slotFaulted n := by
  have fold : ∀ (ls : List LaneId) (t : State), ls.Nodup → (ls.foldl (fun t l => t.faultNaming n l) t).lane l =
      if l ∈ ls then (t.lane l).slotFaulted n else t.lane l := by
    intro ls
    induction ls with
    | nil => exact fun t _ => by simp
    | cons k ls ih =>
      intro t once
      obtain ⟨fresh, once⟩ := List.nodup_cons.mp once
      rw [List.foldl_cons, ih _ once, State.lane_faultNaming]
      by_cases e : l = k
      · subst e
        simp [fresh]
      · simp [e]
  rw [State.faultLanesOf, fold allLanes s (List.nodup_finRange 48), if_pos (show l ∈ allLanes from List.mem_finRange l)]

/-! ## The owners (R43, R157) -/

/-- A slot's working copy rebuilt without its key, before its lanes hear of it. -/
def State.slotLost (s : State) (n : SlotId) : State := (s.setSlot n (s.faultedSlot n)).rewritten (slotPosition n)

theorem State.faultSlot_of_faulted {s : State} {n : SlotId} (h : (s.slot n).state = .faulted) :
    s.faultSlot n = s.slotLost n := by
  unfold State.faultSlot
  dsimp only
  rw [if_pos h]
  rfl

theorem State.faultSlot_of_live {s : State} {n : SlotId} (h : (s.slot n).state ≠ .faulted) : s.faultSlot n =
    (((s.slotLost n).raise (.slotFaulted n (s.faultedSlot n).usage)).queueSlotState n (s.faultedSlot n)).faultLanesOf n := by
  unfold State.faultSlot
  dsimp only
  rw [if_neg h]
  rfl

theorem State.sansLanes_faultSlot (s : State) (n : SlotId) : (s.faultSlot n).sansLanes = (s.slotLost n).sansLanes := by
  by_cases h : (s.slot n).state = .faulted
  · rw [State.faultSlot_of_faulted h]
  · rw [State.faultSlot_of_live h, State.sansLanes_faultLanesOf,
      State.sansLanes_of_store (State.sansStore_queueSlotState _ _ _), State.sansLanes_of_events (State.sansEvents_raise _ _)]

theorem State.faultedSlot_state (s : State) (n : SlotId) :
    (s.faultedSlot n).state = .faulted ∧ (s.faultedSlot n).key = none := by
  unfold State.faultedSlot
  split <;> exact ⟨rfl, rfl⟩

theorem State.faultSlot_slot (s : State) (n m : SlotId) :
    (s.faultSlot n).slot m = if m = n then s.faultedSlot n else s.slot m := by
  have slots := State.slots_of_lanes (s.sansLanes_faultSlot n)
  have is : (s.faultSlot n).slot m = (s.setSlot n (s.faultedSlot n)).slot m := by
    rw [State.slot, slots]
    rfl
  rw [is]
  by_cases e : m = n
  · subst e
    rw [if_pos rfl, State.slot_setSlot_same]
  · rw [if_neg e, State.slot_setSlot_ne _ _ e]

/-- A slot that becomes FAULTED: its event, its lanes (R34, R43). -/
theorem State.faultSlot_live_spec {s : State} {n : SlotId} (h : (s.slot n).state ≠ .faulted) :
    (s.faultSlot n).events[6].latched = true ∧ ∀ l, (s.faultSlot n).lane l = (s.lane l).slotFaulted n := by
  rw [State.faultSlot_of_live h]
  refine ⟨?_, fun l => ?_⟩
  · have raised : ((s.slotLost n).raise (.slotFaulted n (s.faultedSlot n).usage)).events[6].latched = true :=
      State.raise_latched _ (.slotFaulted n (s.faultedSlot n).usage)
    exact latchKept_faultLanesOf _ n 6 (latchKept_queueSlotState _ n _ 6 raised)
  · rw [State.lane_faultLanesOf, State.queueSlotState_lane, State.raise_lane]
    rfl

/-- Whoever owns the record: the scrubber, the work, the chain and the Stand-In Table are as they were. -/
theorem State.ownerActs_leaves (s : State) (p : Position) : (s.ownerActs p).scrub = s.scrub ∧
    workKept s (s.ownerActs p) ∧ chainKept s (s.ownerActs p) ∧ (s.ownerActs p).standIn = s.standIn := by
  have of : ∀ {u t : State}, t.sansLanes = u.sansLanes → u.scrub = s.scrub → workKept s u → chainKept s u →
      u.standIn = s.standIn → t.scrub = s.scrub ∧ workKept s t ∧ chainKept s t ∧ t.standIn = s.standIn := by
    intro u t same scrub work chain standIn
    obtain ⟨exchanges, log, engine⟩ := workKept_of_lanes same
    obtain ⟨queue, buffers, answers, monitor⟩ := chainKept_of_lanes same
    obtain ⟨e, l, g⟩ := work
    obtain ⟨q, b, a, m⟩ := chain
    exact ⟨(State.scrub_of_lanes same).trans scrub, ⟨exchanges.trans e, log.trans l, engine.trans g⟩,
      ⟨queue.trans q, buffers.trans b, answers.trans a, monitor.trans m⟩, (State.standIn_of_lanes same).trans standIn⟩
  unfold State.ownerActs
  split
  · exact of (s.sansLanes_faultSlot _) rfl ⟨rfl, rfl, rfl⟩ ⟨rfl, rfl, rfl, rfl⟩ rfl
  · split
    · exact of (State.sansLanes_faultRecord _ _) rfl ⟨rfl, rfl, rfl⟩ ⟨rfl, rfl, rfl, rfl⟩ rfl
    · exact of (State.sansLanes_of_events (State.sansEvents_raise _ _)) rfl ⟨rfl, rfl, rfl⟩ ⟨rfl, rfl, rfl, rfl⟩ rfl

theorem State.ownerActs_lane (s : State) (l : LaneId) :
    s.ownerActs (lanePosition l) = (s.rewritten (lanePosition l)).faultRecord l := by
  have above : ¬ (lanePosition l).val < 96 := by simp [lanePosition]
  have lane : (lanePosition l).val - 96 < 48 := by simp [lanePosition]
  have is : (⟨(lanePosition l).val - 96, lane⟩ : LaneId) = l := Fin.ext (by simp [lanePosition])
  rw [State.ownerActs, dif_neg above, dif_pos lane, is]

theorem State.ownerActs_settings (s : State) : s.ownerActs settingsPosition = s.faultSettings := by
  rw [State.ownerActs, dif_neg (by decide), dif_neg (by decide)]

/-! ## The copy a lane record comes back from (R34) -/

theorem CommitGroup.laneOf_eq_none_iff (g : CommitGroup) (l : LaneId) :
    g.laneOf l = none ↔ (Write.group g).touchesLane l = false := by
  simp [CommitGroup.laneOf, Write.touchesLane]

/-- The records that the groups still to be written carry for a lane, in the queue's order. -/
def queuedLane (l : LaneId) (ws : List Write) : List LaneConfig :=
  ws.filterMap (fun w => match w with
    | .group g => g.laneOf l
    | _ => none)

theorem queuedLane_of_none {l : LaneId} {ws : List Write} (h : ∀ w ∈ ws, w.touchesLane l = false) :
    queuedLane l ws = [] := by
  refine List.filterMap_eq_nil_iff.mpr (fun w hw => ?_)
  cases w with
  | group g => exact (g.laneOf_eq_none_iff l).mpr (h _ hw)
  | _ => rfl

theorem queuedLane_last {l : LaneId} {before behind : List Write} {g : CommitGroup} {c : LaneConfig}
    (carries : g.laneOf l = some c) (h : ∀ w ∈ behind, w.touchesLane l = false) :
    (queuedLane l (before ++ .group g :: behind)).getLast? = some c := by
  have split : queuedLane l (before ++ .group g :: behind) = queuedLane l before ++ queuedLane l (.group g :: behind) :=
    List.filterMap_append
  have last : queuedLane l (.group g :: behind) = c :: queuedLane l behind := List.filterMap_cons_some carries
  rw [split, last, queuedLane_of_none h, List.getLast?_append]
  rfl

theorem State.laneCopy_of_queued {s : State} {l : LaneId} (kept : (s.lane l).lostCommit = none) : s.laneCopy l =
    ((queuedLane l s.persist.unwritten).getLast?).or (s.store.lanes[l].read) := by
  unfold State.laneCopy
  rw [kept]
  change (match (queuedLane l s.persist.unwritten).getLast? with
    | some c => some c
    | none => s.store.lanes[l].read) = _
  cases (queuedLane l s.persist.unwritten).getLast? <;> rfl

/-- The copy is read from the lane's lost commit, the queue and the store. -/
theorem State.laneCopy_congr {s t : State} {l : LaneId} (lane : t.lane l = s.lane l) (persist : t.persist = s.persist)
    (store : t.store = s.store) : t.laneCopy l = s.laneCopy l := by
  simp only [State.laneCopy, lane, persist, store]

/-! ## A lane record found uncorrectable (R34, R157) -/

theorem State.wrapInFlight_iff (s : State) (l : LaneId) :
    s.wrapInFlight l = true ↔ ∃ j, s.engine.job = some j ∧ mayWrapFor j l := by
  unfold State.wrapInFlight State.jobInFlight mayWrapFor
  cases job : s.engine.job with
  | none => simp
  | some j =>
    cases j with
    | lane k f link work => cases work <;> simp [Job.concerns, Job.wraps, LaneWork.wraps]
    | answer env hit lane base link => simp [Job.wraps]
    | reversal i k base => cases base <;> simp [Job.concerns, Job.wraps]
    | repetition i k base => cases base <;> simp [Job.concerns, Job.wraps]

theorem State.copiedLane_state (s : State) (l : LaneId) : (s.copiedLane l).state = (s.lane l).config.state := by
  unfold State.copiedLane
  dsimp only
  split <;> rfl

/-- A lane that enters FAULTED: the record, and what stays. -/
theorem State.lane_faultRecord (s : State) (l k : LaneId) : (s.faultRecord l).lane k = if k = l then
      (if staysAtFault (s.lane l).config.state then { s.lane l with config := s.copiedLane l }
        else LaneRecord.entered { s.lane l with config := s.copiedLane l } (.faulted .record))
    else s.lane k := by
  have state := s.copiedLane_state l
  unfold State.faultRecord
  dsimp only
  rw [State.lane_faultLane, State.lane_modLane]
  by_cases e : k = l
  · subst e
    simp only [if_true, true_and, state]
    cases staysAtFault (s.lane k).config.state <;> simp
  · simp [e]

theorem LaneRecord.slotFaulted_of_stays {r : LaneRecord} {n : SlotId} (h : r.config.state = .unused ∨
    (∃ c, r.config.state = .faulted c) ∨ (r.config.link ≠ some n ∧ r.config.base ≠ some n)) : r.slotFaulted n = r := by
  unfold LaneRecord.slotFaulted LaneConfig.causeOf
  rcases h with unused | ⟨c, faulted⟩ | ⟨link, base⟩
  · split <;> simp [unused, staysAtFault]
  · split <;> simp [faulted, staysAtFault]
  · rw [if_neg link, if_neg base]

theorem LaneRecord.slotFaulted_of_cause {r : LaneRecord} {n : SlotId} {c : FaultCause} (cause : r.config.causeOf n = some c)
    (live : r.config.state ≠ .unused) (sound : ∀ c, r.config.state ≠ .faulted c) : r.slotFaulted n = r.entered (.faulted c) := by
  unfold LaneRecord.slotFaulted
  rw [cause]
  simp [(staysAtFault_eq_false_iff _).mpr ⟨live, sound⟩]

/-- The slot that owns the record: its own copy, its event, and the lanes that name it. -/
theorem State.faultSlot_owner {s x : State} (tables : tablesKept s x) (events : x.events = s.events)
    (persist : x.persist = s.persist) (n : SlotId) :
    ((x.faultSlot n).slot n).state = .faulted ∧ ((x.faultSlot n).slot n).key = none ∧
    (x.faultSlot n).settings = s.settings ∧ (∀ m, m ≠ n → (x.faultSlot n).slot m = s.slot m) ∧
    (∀ l, ((x.faultSlot n).lane l).counter = (s.lane l).counter) ∧
    ((s.slot n).state ≠ .faulted → (x.faultSlot n).events[6].latched = true ∧
      ∀ l, (s.lane l).config.state ≠ .unused → (∀ c, (s.lane l).config.state ≠ .faulted c) →
        ((s.lane l).config.link = some n → ((x.faultSlot n).lane l).config.state = .faulted .linkKey) ∧
        ((s.lane l).config.link ≠ some n → (s.lane l).config.base = some n →
          ((x.faultSlot n).lane l).config.state = .faulted .baseKey)) ∧
    ((s.slot n).state = .faulted → (x.faultSlot n).lanes = s.lanes ∧ (x.faultSlot n).events = s.events ∧
      (x.faultSlot n).persist = s.persist) ∧
    (∀ l, ((s.lane l).config.state = .unused ∨ (∃ c, (s.lane l).config.state = .faulted c) ∨
      ((s.lane l).config.link ≠ some n ∧ (s.lane l).config.base ≠ some n)) → (x.faultSlot n).lane l = s.lane l) := by
  obtain ⟨settings, -, slots, lanes⟩ := tables
  have slot : ∀ m, x.slot m = s.slot m := fun m => by rw [State.slot, slots]; rfl
  have lane : ∀ l, x.lane l = s.lane l := State.lane_of_lanes_eq lanes
  have onLanes : (s.slot n).state ≠ .faulted → ∀ l, (x.faultSlot n).lane l = (s.lane l).slotFaulted n := fun h l => by
    rw [(State.faultSlot_live_spec (slot n ▸ h)).2 l, lane]
  have asBefore : (s.slot n).state = .faulted → x.faultSlot n = x.slotLost n := fun h =>
    State.faultSlot_of_faulted (slot n ▸ h)
  have same : (s.slot n).state = .faulted → ∀ l, (x.faultSlot n).lane l = s.lane l := fun h l => by
    rw [asBefore h]
    exact lane l
  obtain ⟨faulted, keyless⟩ := x.faultedSlot_state n
  refine ⟨?_, ?_, ?_, fun m ne => ?_, fun l => ?_, fun h => ⟨(State.faultSlot_live_spec (slot n ▸ h)).1,
    fun l live sound => ⟨fun link => ?_, fun link base => ?_⟩⟩, fun h => ?_, fun l stays => ?_⟩
  · rw [State.faultSlot_slot, if_pos rfl, faulted]
  · rw [State.faultSlot_slot, if_pos rfl, keyless]
  · exact (State.settings_of_lanes (x.sansLanes_faultSlot n)).trans settings
  · rw [State.faultSlot_slot, if_neg ne, slot]
  · by_cases h : (s.slot n).state = .faulted
    · rw [same h]
    · rw [onLanes h, LaneRecord.slotFaulted]
      split
      · split
        · rfl
        · exact LaneRecord.entered_counter _ _
      · rfl
  · rw [onLanes h, LaneRecord.slotFaulted_of_cause (if_pos link) live sound, LaneRecord.entered_config]
  · have cause : (s.lane l).config.causeOf n = some .baseKey := by
      unfold LaneConfig.causeOf
      rw [if_neg link, if_pos base]
    rw [onLanes h, LaneRecord.slotFaulted_of_cause cause live sound, LaneRecord.entered_config]
  · rw [asBefore h]
    exact ⟨lanes, events, persist⟩
  · by_cases h : (s.slot n).state = .faulted
    · exact same h l
    · rw [onLanes h, LaneRecord.slotFaulted_of_stays stays]

theorem LaneRecord.entered_faulted_mailbox (r : LaneRecord) (c : FaultCause) : (r.entered (.faulted c)).mailbox = none := by
  cases h : r.mailbox with
  | none => rw [LaneRecord.entered_of_empty r _ h, h]
  | some f => simp [LaneRecord.entered, h, doorReason]

/-- The lane that owns the record, by its copy (R34). -/
theorem State.copiedLane_of_some {s : State} {l : LaneId} {c : LaneConfig} (copy : s.laneCopy l = some c) :
    (s.copiedLane l).link = s.liveSlot c.link ∧ (s.copiedLane l).base = s.liveSlot c.base ∧
    (s.copiedLane l).baseGen = c.baseGen ∧ (s.copiedLane l).ceiling =
      copiedCeiling (s.wrapInFlight l) (s.lane l) (restoredCeiling c s.store.ceilings[l]) := by
  unfold State.copiedLane
  simp only [copy]
  exact ⟨trivial, trivial, trivial, trivial⟩

theorem State.copiedLane_of_none {s : State} {l : LaneId} (copy : s.laneCopy l = none) :
    (s.copiedLane l).ceiling = (s.lane l).config.ceiling := by
  simp only [State.copiedLane, copy, lostLane]

theorem State.liveSlot_of_full {s : State} {m : Option SlotId} (h : ∀ n, m = some n → (s.slot n).state ≠ .empty) :
    s.liveSlot m = m := by
  cases m with
  | none => rfl
  | some n => simp [State.liveSlot, h n rfl]

theorem State.faultRecord_config (s : State) (l : LaneId) (f : LaneConfig → α)
    (ignores : ∀ c st, f { c with state := st } = f c) : f ((s.faultRecord l).lane l).config = f (s.copiedLane l) := by
  rw [State.lane_faultRecord, if_pos rfl]
  split
  · rfl
  · rw [LaneRecord.entered_config, ignores]

theorem State.faultRecord_of_live {s : State} {l : LaneId} (live : (s.lane l).config.state ≠ .unused)
    (sound : ∀ c, (s.lane l).config.state ≠ .faulted c) : ((s.faultRecord l).lane l).config.state = .faulted .record ∧
    ((s.faultRecord l).lane l).mailbox = none ∧ (s.faultRecord l).events[5].latched = true := by
  have leaves := (staysAtFault_eq_false_iff _).mpr ⟨live, sound⟩
  have record := s.lane_faultRecord l l
  simp only [if_true, leaves] at record
  refine ⟨?_, ?_, ?_⟩
  · rw [record]
    simp
  · rw [record]
    simp [LaneRecord.entered_faulted_mailbox]
  · have stays : staysAtFault ((s.modLane l (fun r => { r with config := s.copiedLane l })).lane l).config.state = false := by
      rw [State.lane_modLane_same]
      exact s.copiedLane_state l ▸ leaves
    have entered : s.faultRecord l = (s.modLane l (fun r => { r with config := s.copiedLane l })).changeState l
        (.faulted .record) (some (.laneFaulted l .record)) := State.faultLane_of_live _ l .record stays
    rw [entered]
    exact (State.changeState_latched _ l (.faulted .record) (.laneFaulted l .record)).2

/-- A lane that stays where it is keeps its state. -/
theorem State.faultRecord_of_stays {s : State} {l : LaneId} (stays : staysAtFault (s.lane l).config.state = true) :
    ((s.faultRecord l).lane l).config.state = (s.lane l).config.state := by
  rw [State.lane_faultRecord, if_pos rfl, if_pos stays]
  exact s.copiedLane_state l

/-- The ceiling a lane takes from its copy, by where its counter stands (R34, R52). -/
theorem copiedCeiling_cases (wraps : Bool) (r : LaneRecord) (k : Nat) :
    (r.counter < k → copiedCeiling wraps r k = k) ∧
    (r.counter = k → wraps = false → copiedCeiling wraps r k = k) ∧
    (r.counter = k → wraps = true → copiedCeiling wraps r k = r.config.ceiling) ∧
    (k < r.counter → copiedCeiling wraps r k = r.config.ceiling) := by
  unfold copiedCeiling
  cases wraps <;> refine ⟨fun h => ?_, fun h _ => ?_, fun h _ => ?_, fun h => ?_⟩ <;> split <;> simp_all <;> omega

/-- An uncorrectable finding recorded, before the owner acts. -/
def State.uncorrectableSeen (s : State) (p : Position) (a : Agent) : State :=
  (s.modFault p (fun e => { e with uncorrectable := true })).offerCapture p .uncorrectable none a

theorem State.uncorrectableSeen_spec (s : State) (p : Position) (a : Agent) :
    Recorded s (s.uncorrectableSeen p a) p { s.scrub.map[p] with uncorrectable := true }
      ⟨p, .uncorrectable, none, a, s.seconds⟩ ∧ (s.uncorrectableSeen p a).events = s.events :=
  ⟨recorded_of (g := fun e => { e with uncorrectable := true }) .uncorrectable none a (historyOnly_scrub _ _ _) rfl rfl rfl
    rfl, (State.offerCapture_leaves _ _ _ _ _).1⟩

/-- The lane that owns the record: what it takes from its copy, and its fault. `s` is as before the finding, `u` after the
wear. -/
theorem State.faultRecord_owner {s u x : State} (tables : tablesKept s x) (work : workKept s x) (l : LaneId)
    (copy : x.laneCopy l = u.laneCopy l) (store : x.store = u.store) :
    (x.faultRecord l).slots = s.slots ∧ (x.faultRecord l).settings = s.settings ∧ otherLanes s (x.faultRecord l) l ∧
    ((x.faultRecord l).lane l).counter = (s.lane l).counter ∧
    (∀ c, u.laneCopy l = some c → (∀ n, c.link = some n → (s.slot n).state ≠ .empty) →
      (∀ n, c.base = some n → (s.slot n).state ≠ .empty) →
      ((x.faultRecord l).lane l).config.link = c.link ∧ ((x.faultRecord l).lane l).config.base = c.base ∧
        ((x.faultRecord l).lane l).config.baseGen = c.baseGen) ∧
    (∀ c k wraps, u.laneCopy l = some c → (wraps ↔ ∃ j, s.engine.job = some j ∧ mayWrapFor j l) →
      k = restoredCeiling c u.store.ceilings[l] →
      ((s.lane l).counter < k → ((x.faultRecord l).lane l).config.ceiling = k) ∧
      ((s.lane l).counter = k → ¬ wraps → ((x.faultRecord l).lane l).config.ceiling = k) ∧
      ((s.lane l).counter = k → wraps → ((x.faultRecord l).lane l).config.ceiling = (s.lane l).config.ceiling) ∧
      (k < (s.lane l).counter → ((x.faultRecord l).lane l).config.ceiling = (s.lane l).config.ceiling)) ∧
    (u.laneCopy l = none → ((x.faultRecord l).lane l).config.ceiling = (s.lane l).config.ceiling) ∧
    ((s.lane l).config.state ≠ .unused → (∀ c, (s.lane l).config.state ≠ .faulted c) →
      ((x.faultRecord l).lane l).config.state = .faulted .record ∧ ((x.faultRecord l).lane l).mailbox = none ∧
        (x.faultRecord l).events[5].latched = true) ∧
    ((s.lane l).config.state = .unused → ((x.faultRecord l).lane l).config.state = .unused) ∧
    (∀ c, (s.lane l).config.state = .faulted c → ((x.faultRecord l).lane l).config.state = .faulted c) := by
  obtain ⟨settings, -, slots, lanes⟩ := tables
  have slot : ∀ m, x.slot m = s.slot m := fun m => by rw [State.slot, slots]; rfl
  have lane : ∀ l, x.lane l = s.lane l := State.lane_of_lanes_eq lanes
  have onLanes := x.sansLanes_faultRecord l
  have live : ∀ m : Option SlotId, (∀ n, m = some n → (s.slot n).state ≠ .empty) → x.liveSlot m = m := fun m h =>
    State.liveSlot_of_full (fun n hn => by rw [slot]; exact h n hn)
  have ceiling := x.faultRecord_config l LaneConfig.ceiling (fun _ _ => rfl)
  refine ⟨(State.slots_of_lanes onLanes).trans slots, (State.settings_of_lanes onLanes).trans settings, fun k ne => ?_, ?_,
    fun c has link base => ⟨?_, ?_, ?_⟩, fun c k wraps has hwraps hk => ?_, fun has => ?_, fun h sound => ?_, fun h => ?_,
    fun c h => ?_⟩
  · rw [State.lane_faultRecord, if_neg ne, lane]
  · rw [State.lane_faultRecord, if_pos rfl, ← lane]
    split
    · rfl
    · exact LaneRecord.entered_counter _ _
  · rw [x.faultRecord_config l LaneConfig.link (fun _ _ => rfl), (State.copiedLane_of_some (copy.trans has)).1, live _ link]
  · rw [x.faultRecord_config l LaneConfig.base (fun _ _ => rfl), (State.copiedLane_of_some (copy.trans has)).2.1,
      live _ base]
  · rw [x.faultRecord_config l LaneConfig.baseGen (fun _ _ => rfl), (State.copiedLane_of_some (copy.trans has)).2.2.1]
  · obtain ⟨-, -, engine⟩ := work
    have inFlight : x.wrapInFlight l = true ↔ wraps := by
      rw [State.wrapInFlight_iff, engine, hwraps]
    rw [ceiling, (State.copiedLane_of_some (copy.trans has)).2.2.2, store, lane, ← hk]
    obtain ⟨below, atK, atKWraps, above⟩ := copiedCeiling_cases (x.wrapInFlight l) (s.lane l) k
    exact ⟨below, fun h no => atK h (by simpa using fun yes => no (inFlight.mp yes)),
      fun h yes => atKWraps h (inFlight.mpr yes), above⟩
  · rw [ceiling, State.copiedLane_of_none (copy.trans has), lane]
  · rw [← lane] at h sound
    exact State.faultRecord_of_live h sound
  · rw [State.faultRecord_of_stays (by rw [lane, h]; rfl), lane, h]
  · rw [State.faultRecord_of_stays (by rw [lane, h]; rfl), lane, h]

theorem workKept_trans {s t u : State} (h : workKept s t) (k : workKept t u) : workKept s u := by
  obtain ⟨exchanges, log, engine⟩ := h
  obtain ⟨exchanges', log', engine'⟩ := k
  exact ⟨exchanges'.trans exchanges, log'.trans log, engine'.trans engine⟩

theorem chainKept_trans {s t u : State} (h : chainKept s t) (k : chainKept t u) : chainKept s u := by
  obtain ⟨queue, buffers, answers, monitor⟩ := h
  obtain ⟨queue', buffers', answers', monitor'⟩ := k
  exact ⟨queue'.trans queue, buffers'.trans buffers, answers'.trans answers, monitor'.trans monitor⟩

/-- The settings block that owns the record: the factory settings, and PERSIST-FAIL (R157). -/
theorem State.faultSettings_spec (s : State) : s.faultSettings.settings = factorySettings ∧ s.faultSettings.slots = s.slots ∧
    s.faultSettings.lanes = s.lanes ∧ s.faultSettings.events[16].latched = true := by
  obtain ⟨settings, -, slots, lanes⟩ := tablesKept_of_events
    (State.sansEvents_raise (State.rewritten { s with settings := factorySettings } settingsPosition)
      (.persistFail .scrub none (some (.position settingsPosition))))
  exact ⟨settings, slots, lanes, State.raise_latched _ (.persistFail .scrub none (some (.position settingsPosition)))⟩

/-- Settles O55: the finding recorded, then the record's owner by its position. -/
theorem scrubStepFaultsTheOwner : Obligations.ScrubStepFaultsTheOwner := by
  intro w q s u hq hu serving late bad
  refine ⟨_, State.exec_scrubStep_of_due serving late, ?_⟩
  have is : u.uncorrectableFinding q .scrubber = (u.uncorrectableSeen q .scrubber).ownerActs q := rfl
  rw [← hq, ← hu, State.checkRecord_of_bad .scrubber bad, is]
  obtain ⟨seen, events⟩ := u.uncorrectableSeen_spec q .scrubber
  obtain ⟨tables, work, chain, ⟨store, persist⟩, -, -⟩ := seen.only
  generalize u.uncorrectableSeen q .scrubber = x at *
  obtain ⟨scrub, work', chain', standIn⟩ := x.ownerActs_leaves q
  have tables : tablesKept s x := by rw [hu] at tables; exact tables
  have work : workKept s x := by rw [hu] at work; exact work
  have chain : chainKept s x := by rw [hu] at chain; exact chain
  have persist : x.persist = s.persist := by rw [hu] at persist; exact persist
  have events : x.events = s.events := by rw [hu] at events; exact events
  have lost : ∀ l, (u.lane l).lostCommit = (s.lane l).lostCommit := fun l => by rw [hu]; rfl
  have queue : u.persist = s.persist := by rw [hu]; rfl
  refine ⟨?_, rfl, workKept_trans work work', chainKept_trans chain chain', standIn.trans tables.2.1, fun free => ?_,
    fun n hn => ?_, fun l hl => ?_, fun hset => ?_⟩
  · exact (congrArg (fun c : Scrubber => c.map[q].uncorrectable) scrub).trans (congrArg FaultEntry.uncorrectable seen.map)
  · refine (congrArg Scrubber.capture scrub).trans ((seen.first ?_).trans ?_) <;> rw [hu]
    · exact free
    · rfl
  · subst hn
    rw [State.ownerActs_slot]
    exact State.faultSlot_owner tables events persist n
  · subst hl
    rw [State.ownerActs_lane]
    have copy : (x.rewritten (lanePosition l)).laneCopy l = u.laneCopy l :=
      State.laneCopy_congr ((State.lane_of_lanes_eq tables.2.2.2 l).trans (by rw [hu]; rfl)) (persist.trans queue.symm) store
    obtain ⟨slots, settings, others, counter, rest⟩ :=
      State.faultRecord_owner (s := s) (u := u) (x := x.rewritten (lanePosition l)) tables work l copy store
    refine ⟨slots, settings, others, counter, fun c kept => ?_, fun none => ⟨fun before g behind c waits carries clear => ?_,
      fun clear => ?_⟩, rest⟩
    · exact u.laneCopy_of_lost l c ((lost l).trans kept)
    · rw [State.laneCopy_of_queued ((lost l).trans none), queue, waits, queuedLane_last carries clear]
      rfl
    · rw [State.laneCopy_of_queued ((lost l).trans none), queue, queuedLane_of_none clear]
      rfl
  · subst hset
    rw [State.ownerActs_settings]
    obtain ⟨settings, slots, lanes, latched⟩ := x.faultSettings_spec
    exact ⟨settings, slots.trans tables.2.2.1, lanes.trans tables.2.2.2, latched⟩

end Sys2Proof.Machine
end

section
/-! SUPPORT. What the Engine Arbiter takes (R60 to R63). -/

namespace Sys2Proof.Machine

open Sys2Proof.Safety

/-! ## The table searched -/

theorem findSome?_finRange_eq_some {n : Nat} {β : Type} {f : Fin n → Option β} {b : β} :
    (List.finRange n).findSome? f = some b ↔ ∃ i, f i = some b ∧ ∀ j < i, f j = none := by
  have sorted : (List.finRange n).Pairwise (· < ·) := List.pairwise_lt_finRange n
  constructor
  · intro h
    obtain ⟨before, i, behind, list, found, clear⟩ := List.findSome?_eq_some_iff.mp h
    refine ⟨i, found, fun j lt => clear j ?_⟩
    have mem : j ∈ before ++ i :: behind := list ▸ List.mem_finRange j
    rw [list] at sorted
    rcases List.mem_append.mp mem with mem | mem
    · exact mem
    · exfalso
      have later : i ≤ j := by
        rcases List.mem_cons.mp mem with rfl | mem
        · exact le_refl j
        · exact le_of_lt (List.rel_of_pairwise_cons (List.pairwise_append.mp sorted).2.1 mem)
      exact absurd lt (not_lt.mpr later)
  · rintro ⟨i, found, clear⟩
    obtain ⟨before, behind, list⟩ := List.append_of_mem (List.mem_finRange i)
    refine List.findSome?_eq_some_iff.mpr ⟨before, i, behind, list, found, fun j mem => clear j ?_⟩
    rw [list] at sorted
    exact (List.pairwise_append.mp sorted).2.2 j mem i (List.mem_cons_self ..)

/-- An entry with its index, where it passes. -/
def State.passing (s : State) (p : Exchange → Bool) (i : EntryId) : Option (EntryId × Exchange) :=
  ((s.exchange i).filter p).map (fun e => (i, e))

theorem State.findEntry_eq (s : State) (p : Exchange → Bool) : s.findEntry p = (List.finRange 160).findSome? (s.passing p) := by
  unfold State.findEntry
  congr 1
  funext i
  cases h : s.exchange i with
  | none => simp [State.passing, h]
  | some e => cases hp : p e <;> simp [State.passing, h, hp]

theorem State.passing_eq_some {s : State} {p : Exchange → Bool} {j i : EntryId} {e : Exchange} :
    s.passing p j = some (i, e) ↔ j = i ∧ s.exchange i = some e ∧ p e = true := by
  simp only [State.passing, Option.map_eq_some_iff, Option.filter_eq_some_iff, Prod.mk.injEq]
  constructor
  · rintro ⟨x, ⟨hx, passes⟩, rfl, rfl⟩
    exact ⟨rfl, hx, passes⟩
  · rintro ⟨rfl, hx, passes⟩
    exact ⟨e, ⟨hx, passes⟩, rfl, rfl⟩

theorem State.passing_eq_none {s : State} {p : Exchange → Bool} {j : EntryId} :
    s.passing p j = none ↔ ∀ x, s.exchange j = some x → p x = false := by
  simp only [State.passing, Option.map_eq_none_iff, Option.filter_eq_none_iff, Bool.not_eq_true]

/-- The entry found is the first in the table that passes. -/
theorem State.findEntry_eq_some {s : State} {p : Exchange → Bool} {i : EntryId} {e : Exchange} :
    s.findEntry p = some (i, e) ↔ s.exchange i = some e ∧ p e = true ∧
      ∀ j x, j < i → s.exchange j = some x → p x = false := by
  rw [State.findEntry_eq, findSome?_finRange_eq_some]
  constructor
  · rintro ⟨j, found, before⟩
    obtain ⟨rfl, hx, passes⟩ := State.passing_eq_some.mp found
    exact ⟨hx, passes, fun k y lt hy => State.passing_eq_none.mp (before k lt) y hy⟩
  · rintro ⟨hx, passes, before⟩
    exact ⟨i, State.passing_eq_some.mpr ⟨rfl, hx, passes⟩, fun j lt =>
      State.passing_eq_none.mpr (fun x hx => before j x lt hx)⟩

/-! ## What is eligible, in the manual's words -/

theorem State.currentMatch_eq_some {s : State} {env : Envelope} {i : EntryId} {e : Exchange} :
    s.currentMatch env = some (i, e) ↔ s.exchange i = some e ∧ e.seq = env.seq ∧
      (e.state = .awaiting ∨ e.state = .reversing ∨ e.kind = .logSend) ∧
      ∀ j x, j < i → s.exchange j = some x → x.seq = env.seq →
        ¬ (x.state = .awaiting ∨ x.state = .reversing ∨ x.kind = .logSend) := by
  rw [State.currentMatch, State.findEntry_eq_some]
  simp only [Bool.and_eq_true, Bool.or_eq_true, beq_iff_eq, Bool.and_eq_false_iff, Bool.or_eq_false_iff, beq_eq_false_iff_ne,
    ne_eq, and_assoc, or_assoc, not_or]
  refine and_congr_right (fun _ => and_congr_right (fun _ => and_congr_right (fun _ => ?_)))
  refine forall₄_congr (fun j x _ _ => ?_)
  by_cases h : x.seq = env.seq <;> simp [h]

theorem LaneRecord.hasValue_iff (r : LaneRecord) :
    r.hasValue = true ↔ r.counter < r.config.ceiling ∨ r.config.ceiling = 4194304 := by
  simp only [LaneRecord.hasValue, Bool.or_eq_true, decide_eq_true_eq]
  exact Iff.rfl

theorem State.heldOpt_iff (s : State) (n : Option SlotId) : s.heldOpt n = true ↔
    ∃ m p r, n = some m ∧ grantedRange s p = some r ∧ r.low ≤ m.val ∧ m.val ≤ r.high := by
  cases n with
  | none => simp [State.heldOpt]
  | some m => simp [State.heldOpt, State.held_iff]

theorem State.answerEligible_of_match {s : State} {env : Envelope} {i : EntryId} {e : Exchange}
    (found : s.currentMatch env = some (i, e)) : s.answerEligible env = true ↔
      ¬ s.heldOpt (some e.base) = true ∧ (e.kind = .payment → ¬ s.heldOpt (s.lane e.lane).config.link = true) := by
  simp only [State.answerEligible, found, State.heldOpt]
  by_cases payment : e.kind = .payment <;> simp [payment]

theorem State.reversalEligible_iff (s : State) (e : Exchange) : s.reversalEligible e = true ↔
    ¬ s.heldOpt (s.lane e.lane).config.base = true ∧
    ((s.lane e.lane).hasValue = true ∨ (s.lane e.lane).config.state = .faulted .ceiling) ∧
    ((e.state = .reversalDue ∧ s.sendPlaceFree = true) ∨ (e.state = .reversing ∧ e.repeatDue = true)) := by
  unfold State.reversalEligible
  cases h : e.state <;> simp [and_assoc]

theorem State.mailboxEligible_iff (s : State) (l : LaneId) : s.mailboxEligible l = true ↔ ∃ f, (s.lane l).mailbox = some f ∧
    ¬ s.heldOpt (s.lane l).config.link = true ∧ ¬ s.heldOpt (s.lane l).config.base = true ∧
    (s.lane l).hasValue = true ∧ s.sendPlaceFree = true ∧ (∃ k, s.linkKey l = some k) ∧
    ∃ k, s.laneBaseKey l = some k := by
  unfold State.mailboxEligible State.keysUsable
  dsimp only
  cases (s.lane l).mailbox <;> simp [and_assoc, Option.isSome_iff_exists]

/-! ## The earliest deadline (R60) -/

/-- The first of the earliest deadline is kept from where it stands on. -/
theorem foldl_earlier_keeps {x : EntryId × Exchange} (xs : List (EntryId × Exchange))
    (h : ∀ y ∈ xs, x.2.deadline ≤ y.2.deadline) : xs.foldl earlier (some x) = some x := by
  induction xs with
  | nil => rfl
  | cons y xs ih =>
    have step : earlier (some x) y = some x := if_neg (Nat.not_lt.mpr (h y (List.mem_cons_self ..)))
    rw [List.foldl_cons, step]
    exact ih (fun z hz => h z (List.mem_cons_of_mem _ hz))

/-- Of candidates in ascending order, the arbiter takes the one of the earliest deadline and, of those, the lowest
index. -/
theorem foldl_earlier_eq {x : EntryId × Exchange} {xs : List (EntryId × Exchange)} (sorted : xs.Pairwise (fun a b => a.1 < b.1))
    (mem : x ∈ xs) (least : ∀ y ∈ xs, x.2.deadline < y.2.deadline ∨ (x.2.deadline = y.2.deadline ∧ x.1 ≤ y.1)) :
    xs.foldl earlier none = some x := by
  obtain ⟨before, behind, rfl⟩ := List.append_of_mem mem
  have later : ∀ y ∈ before, x.2.deadline < y.2.deadline := by
    intro y hy
    rcases least y (List.mem_append_left _ hy) with lt | ⟨-, le⟩
    · exact lt
    · exact absurd ((List.pairwise_append.mp sorted).2.2 y hy x (List.mem_cons_self ..)) (not_lt.mpr le)
  have step : earlier (before.foldl earlier none) x = some x := by
    cases best : before.foldl earlier none with
    | none => rfl
    | some y =>
      rcases foldl_earlier_mem before none best with none | hy
      · exact absurd none (by simp)
      · exact if_pos (later y hy)
  rw [List.foldl_append, List.foldl_cons, step]
  refine foldl_earlier_keeps behind (fun y hy => ?_)
  rcases least y (List.mem_append_right _ (List.mem_cons_of_mem _ hy)) with lt | ⟨eq, -⟩
  · exact le_of_lt lt
  · exact le_of_eq eq

theorem State.reversalCandidates_sorted (s : State) : s.reversalCandidates.Pairwise (fun a b => a.1 < b.1) := by
  refine List.Pairwise.filterMap _ ?_ (List.pairwise_lt_finRange 160)
  intro i j lt a ha b hb
  obtain ⟨x, -, rfl⟩ := Option.map_eq_some_iff.mp ha
  obtain ⟨y, -, rfl⟩ := Option.map_eq_some_iff.mp hb
  exact lt

theorem State.nextReversal_of_least {s : State} {i : EntryId} {e : Exchange} (found : s.exchange i = some e)
    (eligible : s.reversalEligible e = true) (least : ∀ j x, s.exchange j = some x → s.reversalEligible x = true →
      e.deadline < x.deadline ∨ (e.deadline = x.deadline ∧ i ≤ j)) : s.nextReversal = some (i, e) := by
  rw [State.nextReversal_eq]
  refine foldl_earlier_eq s.reversalCandidates_sorted (State.mem_reversalCandidates.mpr ⟨found, eligible⟩) ?_
  rintro ⟨j, x⟩ mem
  obtain ⟨hx, passes⟩ := State.mem_reversalCandidates.mp mem
  exact least j x hx passes

theorem State.nextReversal_of_none {s : State} (h : noReversalEligible s) : s.nextReversal = none := by
  cases found : s.nextReversal with
  | none => rfl
  | some x =>
    obtain ⟨hx, passes⟩ := State.nextReversal_eligible (i := x.1) (e := x.2) found
    exact absurd passes (by simp [h _ _ hx])

/-! ## What is granted (R60) -/

theorem State.nextWork_of_answer {s : State} {older younger : List Envelope} {env : Envelope}
    (queue : s.answerQueue = older ++ env :: younger) (skipped : ∀ x ∈ older, s.answerEligible x = false)
    (eligible : s.answerEligible env = true) : s.nextWork = some (.answer env (older ++ younger)) := by
  simp only [State.nextWork, queue, takeFirst_append younger skipped eligible]

theorem State.nextWork_of_reversal {s : State} {i : EntryId} {e : Exchange} (answers : noAnswerEligible s)
    (next : s.nextReversal = some (i, e)) : s.nextWork = some (.reversal i e) := by
  simp only [State.nextWork, takeFirst_eq_none answers, next]

theorem State.nextWork_of_mailbox {s : State} (answers : noAnswerEligible s) (reversals : noReversalEligible s) :
    s.nextWork = s.nextMailbox := by
  simp only [State.nextWork, takeFirst_eq_none answers, State.nextReversal_of_none reversals]

theorem State.exec_engineGrant {s : State} {work : Work} (w : Wear) (serving : s.phase = .serving)
    (idle : s.engine.job = none) (next : s.nextWork = some work) :
    exec (.engineGrant w) s = .next ((s.applyWear w).grant work) := by
  simp only [exec, execEngineGrant, State.arbitrate, serving, idle, and_self, if_true, next]

theorem State.exec_engineGrant_of_none {s : State} (w : Wear)
    (h : s.phase = .starting ∨ s.engine.job ≠ none ∨ s.nextWork = none) : exec (.engineGrant w) s = .next s := by
  simp only [exec, execEngineGrant, State.arbitrate]
  split
  next may =>
    obtain ⟨serving, idle⟩ := may
    rcases h with starting | busy | none
    · exact absurd (serving.symm.trans starting) (by decide)
    · exact absurd idle busy
    · rw [none]
  · rfl

/-- What the loading of keys leaves for a job that starts. -/
theorem State.startJob_of_tables {s t : State} (h : t.sansTables = s.sansTables) (j : Job) :
    (t.startJob j).answerQueue = s.answerQueue ∧ (t.startJob j).engine = { s.engine with job := some j } ∧
    (t.startJob j).sendQueue = s.sendQueue ∧ (t.startJob j).exchanges = s.exchanges ∧ (t.startJob j).log = s.log := by
  have answers := State.answerQueue_of_tables h
  have engine := State.engine_of_tables h
  have queue := State.sendQueue_of_tables h
  have exchanges := State.exchanges_of_tables h
  have log := State.log_of_tables h
  exact ⟨answers, congrArg (fun e : Engine => { e with job := some j }) engine, queue, exchanges, log⟩

/-- The grant of an answer: the keys that are usable, then the job (R58, R61). -/
theorem State.grantAnswer_form (s : State) (env : Envelope) (rest : List Envelope) :
    ∃ (u : State) (base link : Option LoadedKey),
    s.grantAnswer env rest = u.startJob (.answer env ((s.currentMatch env).map (fun x => (x.1, x.2.stamp)))
      ((s.currentMatch env).map (fun x => x.2.lane)) base link) ∧
    u.sansTables = State.sansTables { s with answerQueue := rest } := by
  unfold State.grantAnswer
  dsimp only
  cases s.currentMatch env with
  | none => exact ⟨_, none, none, rfl, rfl⟩
  | some x => exact ⟨_, _, _, rfl, (State.sansTables_loadIfUsable _ _).trans (State.sansTables_loadIfUsable _ _)⟩

/-- The grant of reversal work (R58, R62). -/
theorem State.grantReversal_form (s : State) (i : EntryId) {e : Exchange} (asleep : e.state ≠ .awaiting) :
    ∃ (u : State) (base : Option LoadedKey),
    s.grantReversal i e = u.startJob (if e.state = .reversing then .repetition i e.lane base else .reversal i e.lane base) ∧
    u.sansTables = s.sansTables := by
  unfold State.grantReversal
  dsimp only
  cases state : e.state with
  | awaiting => exact absurd state asleep
  | reversalDue => exact ⟨_, _, rfl, s.sansTables_loadIfUsable _⟩
  | reversing => exact ⟨_, _, rfl, s.sansTables_loadIfUsable _⟩

/-- Settles O35: what is eligible by its definition, then the arbiter's order. -/
theorem grantTakesWorkInOrder : Obligations.GrantTakesWorkInOrder := by
  refine ⟨fun s held valued place hheld hvalued hplace => ?_, fun w s => ⟨fun env older younger serving idle queue skipped
    eligible => ?_, fun i e serving idle answers found eligible least => ?_, fun no => ?_⟩⟩
  · have onHeld : ∀ n, s.heldOpt n = true ↔ held n := fun n => (s.heldOpt_iff n).trans (hheld n).symm
    have onValue : ∀ l, (s.lane l).hasValue = true ↔ valued l := fun l => (s.lane l).hasValue_iff.trans (hvalued l).symm
    have onPlace : s.sendPlaceFree = true ↔ place := s.sendPlaceFree_iff.trans hplace.symm
    refine ⟨fun env none => ?_, fun env i e match' => ?_, fun env i e => State.currentMatch_eq_some, fun e => ?_, fun l => ?_⟩
    · simp only [State.answerEligible, none]
    · rw [State.answerEligible_of_match match', onHeld, onHeld]
    · rw [State.reversalEligible_iff, onHeld, onValue, onPlace]
    · simp only [State.mailboxEligible_iff, onHeld, onValue, onPlace]
  · obtain ⟨u, base, link, grant, same⟩ := (s.applyWear w).grantAnswer_form env (older ++ younger)
    obtain ⟨answers, engine, sends, exchanges, log⟩ := State.startJob_of_tables same (.answer env
      (((s.applyWear w).currentMatch env).map (fun x => (x.1, x.2.stamp)))
      (((s.applyWear w).currentMatch env).map (fun x => x.2.lane)) base link)
    have ran := State.exec_engineGrant w serving idle (State.nextWork_of_answer queue skipped eligible)
    exact ⟨_, base, link, ran.trans (congrArg _ grant), answers, engine, sends, exchanges, log⟩
  · have asleep : e.state ≠ .awaiting := by
      intro awaiting
      obtain ⟨-, -, due | reversing⟩ := (s.reversalEligible_iff e).mp eligible
      · exact absurd (awaiting.symm.trans due.1) (by decide)
      · exact absurd (awaiting.symm.trans reversing.1) (by decide)
    obtain ⟨u, base, grant, same⟩ := (s.applyWear w).grantReversal_form i asleep
    obtain ⟨answers', engine, queue, exchanges, log⟩ := State.startJob_of_tables same
      (if e.state = .reversing then .repetition i e.lane base else .reversal i e.lane base)
    have ran := State.exec_engineGrant w serving idle
      (State.nextWork_of_reversal answers (State.nextReversal_of_least found eligible least))
    exact ⟨_, base, ran.trans (congrArg _ grant), engine, answers', queue, exchanges, log⟩
  · refine State.exec_engineGrant_of_none w (no.imp_right (Or.imp_right ?_))
    rintro ⟨answers, reversals, mailboxes⟩
    rw [State.nextWork_of_mailbox answers reversals, State.nextMailbox,
      List.find?_eq_none.mpr (fun l _ => by simp [mailboxes l])]

end Sys2Proof.Machine
end

section
/-! SUPPORT. The grant of a mailbox (R23, R58, R63, R64, R157, R158). -/

namespace Sys2Proof.Machine

open Sys2Proof.Safety

/-! ## The mailbox's turn -/

theorem State.nextMailbox_of_turn {s : State} {l : LaneId} {f : LaneFrame} {before behind : List LaneId}
    (order : roundRobin s.engine.lastServed = before ++ l :: behind) (skipped : ∀ k ∈ before, s.mailboxEligible k = false)
    (eligible : s.mailboxEligible l = true) (mailbox : (s.lane l).mailbox = some f) :
    s.nextMailbox = some (.mailbox l f) := by
  simp only [State.nextMailbox, order, find?_of_split skipped eligible, mailbox, Option.map_some]

/-- The memories being as they were, the mailbox whose turn it is is granted (R60, R63). -/
theorem State.exec_grant_of_turn {s : State} {l : LaneId} {f : LaneFrame} (turn : mailboxTurn s l f) :
    exec (.engineGrant noWear) s = .next (s.grantMailbox l f) := by
  obtain ⟨serving, idle, answers, reversals, ⟨before, behind, order, skipped⟩, eligible, mailbox⟩ := turn
  exact State.exec_engineGrant noWear serving idle ((State.nextWork_of_mailbox answers reversals).trans
    (State.nextMailbox_of_turn order skipped eligible mailbox))

theorem State.lane_takenFrom (s : State) (l : LaneId) : (takenFrom s l).lane l = { s.lane l with mailbox := none } := by
  unfold takenFrom
  exact State.lane_modLane_same s l (fun r => { r with mailbox := none })

theorem State.grantMailbox_eq (s : State) (l : LaneId) (f : LaneFrame) : s.grantMailbox l f =
    (grantCheck (s.lane l) f).elim ((takenFrom s l).loadLane l f)
      (fun reason => ((takenFrom s l).refuseAtHand l f reason).finishJob) := by
  have check : grantCheck (s.lane l) f = grantCheck ((takenFrom s l).lane l) f := by
    rw [s.lane_takenFrom l]
    rfl
  rw [check]
  unfold State.grantMailbox takenFrom
  dsimp only
  cases grantCheck _ f <;> rfl

/-! ## The checks made again (R23) -/

theorem grantCheck_of_station {r : LaneRecord} {f : LaneFrame} (h : ¬ stationAgrees r.config f) :
    grantCheck r f = some .identity := by
  have fails : identityPasses r.config f.kind f.src = false := by
    rw [← Bool.not_eq_true, identityPasses_iff]
    exact h
  exact if_pos fails

theorem grantCheck_of_agrees {r : LaneRecord} {f : LaneFrame} (h : stationAgrees r.config f) : grantCheck r f =
    if f.kind = .pay ∧ r.openPayment.isSome then some .laneBusy else if r.lastAccepted = some f.xchg then some .duplicate
    else none := by
  have passes : identityPasses r.config f.kind f.src = true := (identityPasses_iff ..).mpr h
  exact if_neg (by simp [passes])

/-! ## Loading keys (R64, R158) -/

theorem State.loadKey_of_sound {s : State} {k : LoadedKey} (h : s.upsetAt (slotPosition k.slot) = none) :
    s.loadKey k = (s, some k) := by
  simp only [State.loadKey, State.checkRecord_of_sound .engine h]

theorem State.loadKey_of_bad {s : State} {k : LoadedKey} {stuck : Bool}
    (h : s.upsetAt (slotPosition k.slot) = some (.uncorrectable stuck)) :
    s.loadKey k = (s.uncorrectableFinding (slotPosition k.slot) .engine, none) := by
  simp only [State.loadKey, State.checkRecord_of_bad .engine (.inl ⟨stuck, h⟩)]

theorem State.upsetAt_of_nil {s : State} (h : s.upsets = []) (p : Position) : s.upsetAt p = none := by
  simp [State.upsetAt, h]

/-- The base key follows the link key, sound memories giving both. -/
theorem State.startWithBase_of_sound {s : State} {l : LaneId} {base : LoadedKey} (f : LaneFrame) (link : LoadedKey)
    (mk : LoadedKey → LaneWork) (sound : s.upsets = []) (usable : s.laneBaseKey l = some base) :
    s.startWithBase l f link mk = s.startJob (.lane l f link (mk base)) := by
  simp only [State.startWithBase, usable, State.loadKey_of_sound (State.upsetAt_of_nil sound _)]

/-- The work of a lane job, by the kind of its frame and the lane's state (R58). -/
def grantedWork (st : LaneState) (base : LoadedKey) : LaneKind → LaneWork
  | .pay => if st = .test then .payTest else .pay base
  | .reverse => .reverse base
  | .enrol => .enrol
  | .askState => .askState

/-- The lane's job with its keys, by the kind of the frame (R58, R64). -/
theorem State.loadLane_of_sound {s : State} {l : LaneId} {link base : LoadedKey} (f : LaneFrame) (sound : s.upsets = [])
    (linked : s.linkKey l = some link) (based : s.laneBaseKey l = some base) : s.loadLane l f = s.startJob (.lane l f link
      (grantedWork (s.lane l).config.state base f.kind)) := by
  simp only [State.loadLane, linked, State.loadKey_of_sound (State.upsetAt_of_nil sound _)]
  cases f.kind with
  | pay =>
    unfold grantedWork
    dsimp only
    split
    · rfl
    · exact State.startWithBase_of_sound f link .pay sound based
  | reverse => exact State.startWithBase_of_sound f link .reverse sound based
  | enrol => rfl
  | askState => rfl

/-- Settles O36: the checks made again, then the keys that the memories give. -/
theorem grantServesMailbox : Obligations.GrantServesMailbox := by
  intro l f s turn sound
  have ran := State.exec_grant_of_turn turn
  obtain ⟨-, -, -, -, -, eligible, mailbox⟩ := turn
  obtain ⟨-, -, -, -, -, -, ⟨link, linked⟩, base, based⟩ := (s.mailboxEligible_iff l).mp eligible
  have config : ((takenFrom s l).lane l).config = (s.lane l).config := by rw [s.lane_takenFrom l]
  have linked' : (takenFrom s l).linkKey l = some link := (State.linkKey_congr config rfl).trans linked
  have based' : (takenFrom s l).laneBaseKey l = some base := (State.laneBaseKey_congr config rfl).trans based
  rw [ran, s.grantMailbox_eq l f]
  refine ⟨fun differs => ?_, fun agrees => ?_⟩
  · rw [grantCheck_of_station differs]
    rfl
  rw [grantCheck_of_agrees agrees]
  refine ⟨fun pay taken => ?_, fun free => ⟨fun repeated => ?_, fun fresh => ⟨link, linked, ?_⟩⟩⟩
  · rw [if_pos ⟨pay, Option.isSome_iff_ne_none.mpr taken⟩]
    rfl
  · rw [if_neg (fun h => by simp [free h.1] at h), if_pos repeated]
    rfl
  rw [if_neg (fun h => by simp [free h.1] at h), if_neg fresh, Option.elim_none,
    State.loadLane_of_sound (s := takenFrom s l) f sound linked' based', config]
  refine ⟨fun kind => ?_, fun kind => ?_, fun kind test => ?_, fun kind live => ⟨base, based, ?_⟩, fun kind => ⟨base, based, ?_⟩⟩
  · rw [kind]
    rfl
  · rw [kind]
    rfl
  · rw [kind, grantedWork, if_pos test]
  · rw [kind, grantedWork, if_neg live]
  · rw [kind]
    rfl

/-! ## A link key that the engine-side check finds lost (R157, R158) -/

theorem State.loadLane_of_bad {s : State} {l : LaneId} {link : LoadedKey} {stuck : Bool} (f : LaneFrame)
    (linked : s.linkKey l = some link) (bad : s.upsetAt (slotPosition link.slot) = some (.uncorrectable stuck)) :
    s.loadLane l f = (s.uncorrectableFinding (slotPosition link.slot) .engine).endAtLoad l f := by
  simp only [State.loadLane, linked, State.loadKey_of_bad bad]

/-- A usable link key is that of a slot ACTIVE, in the lane's record (R40). -/
theorem State.linkKey_spec {s : State} {l : LaneId} {k : LoadedKey} (h : s.linkKey l = some k) :
    (s.lane l).config.link = some k.slot ∧ (s.slot k.slot).state = .active := by
  have link := State.linkKey_slot h
  refine ⟨link, ?_⟩
  unfold State.linkKey at h
  simp only [link] at h
  split at h
  next usable => exact usable.1
  · exact absurd h (by simp)

theorem State.finishJob_slots (s : State) : s.finishJob.slots = s.slots := State.grantHolds_slots _

theorem State.finishJob_scrub (s : State) : s.finishJob.scrub = s.scrub := State.grantHolds_scrub _

/-- What a refusal at handing and the end of the job leave. -/
theorem State.endAtLoad_leaves (s : State) (l : LaneId) (f : LaneFrame) :
    (s.endAtLoad l f).engine = { s.engine with job := none } ∧ (∀ n, (s.endAtLoad l f).slot n = s.slot n) ∧
    (s.endAtLoad l f).lane l = { s.lane l with counters := (s.lane l).counters.refuse .faulted } ∧
    (s.endAtLoad l f).scrub = s.scrub ∧ (s.endAtLoad l f).exchanges = s.exchanges ∧ (s.endAtLoad l f).log = s.log := by
  have refused := s.sansLanes_refuseAtHand l f .faulted
  have tail : (s.endAtLoad l f) = (s.refuseAtHand l f .faulted).finishJob := rfl
  rw [tail]
  refine ⟨?_, fun n => ?_, ?_, ?_, ?_, ?_⟩
  · rw [State.finishJob_engine, State.engine_of_lanes refused]
  · rw [State.slot, State.finishJob_slots, State.slots_of_lanes refused]
    rfl
  · rw [State.finishJob_lane, State.lane_refuseAtHand, if_pos rfl]
  · rw [State.finishJob_scrub, State.scrub_of_lanes refused]
  · rw [State.finishJob_exchanges, State.exchanges_of_lanes refused]
  · rw [State.finishJob_log, State.log_of_lanes refused]

/-- Settles O37: the slot's fault reaches the lane, which then refuses its frame. -/
theorem uncorrectableKeyEndsTheJob : Obligations.UncorrectableKeyEndsTheJob := by
  intro l f link stuck s turn ready agrees free fresh linked bad
  have ran := State.exec_grant_of_turn turn
  have config : ((takenFrom s l).lane l).config = (s.lane l).config := by rw [s.lane_takenFrom l]
  have linked' : (takenFrom s l).linkKey l = some link := (State.linkKey_congr config rfl).trans linked
  obtain ⟨named, active⟩ := State.linkKey_spec linked
  have check : grantCheck (s.lane l) f = none := by
    rw [grantCheck_of_agrees agrees, if_neg (fun h => by simp [free h.1] at h), if_neg fresh]
  have is : (takenFrom s l).uncorrectableFinding (slotPosition link.slot) .engine =
      ((takenFrom s l).uncorrectableSeen (slotPosition link.slot) .engine).faultSlot link.slot :=
    State.ownerActs_slot _ link.slot
  rw [ran, s.grantMailbox_eq l f, check, Option.elim_none, State.loadLane_of_bad (s := takenFrom s l) f linked' bad, is]
  obtain ⟨seen, events⟩ := (takenFrom s l).uncorrectableSeen_spec (slotPosition link.slot) .engine
  obtain ⟨tables, work, -, ⟨-, persist⟩, -, -⟩ := seen.only
  generalize (takenFrom s l).uncorrectableSeen (slotPosition link.slot) .engine = x at *
  have engine : (x.faultSlot link.slot).engine = { s.engine with lastServed := l } :=
    (State.engine_of_lanes (x.sansLanes_faultSlot link.slot)).trans work.2.2
  have scrub : (x.faultSlot link.slot).scrub = x.scrub := (State.scrub_of_lanes (x.sansLanes_faultSlot link.slot)).trans rfl
  have exchanges : (x.faultSlot link.slot).exchanges = s.exchanges :=
    (State.exchanges_of_lanes (x.sansLanes_faultSlot link.slot)).trans work.1
  have log : (x.faultSlot link.slot).log = s.log := (State.log_of_lanes (x.sansLanes_faultSlot link.slot)).trans work.2.1
  have slot : x.slot link.slot = s.slot link.slot := by
    rw [State.slot, tables.2.2.1]
    rfl
  have record : (x.faultSlot link.slot).lane l = { s.lane l with
      mailbox := none, config := { (s.lane l).config with state := .faulted .linkKey } } := by
    have live : (x.slot link.slot).state ≠ .faulted := by rw [slot, active]; decide
    rw [(State.faultSlot_live_spec live).2 l, State.lane_of_lanes_eq tables.2.2.2, s.lane_takenFrom l,
      LaneRecord.slotFaulted_of_cause (r := { s.lane l with mailbox := none }) (c := .linkKey) (if_pos named)
        (by simp [ready]) (by simp [ready]),
      LaneRecord.entered_of_empty _ _ rfl]
  obtain ⟨faulted, keyless⟩ := x.faultedSlot_state link.slot
  obtain ⟨ended, slots, lane, scrub', exchanges', log'⟩ := (x.faultSlot link.slot).endAtLoad_leaves l f
  refine ⟨_, rfl, ?_, ?_, ?_, ?_, ?_, ?_, ?_, ?_, ?_, ?_, exchanges'.trans exchanges, log'.trans log⟩
  · rw [ended, engine]
  · rw [slots, State.faultSlot_slot, if_pos rfl, faulted]
  · rw [slots, State.faultSlot_slot, if_pos rfl, keyless]
  · rw [lane, record]
  · rw [lane, record]
  · rw [lane, record]
  · rw [lane, record]
  · rw [lane, record]
  · rw [lane, record]
  · rw [scrub', scrub, seen.map]

end Sys2Proof.Machine
end

section
/-! SUPPORT. Lane jobs (R30, R66 to R70): the tag that fails, the payment that is refused or echoed, and the reversal by
the place of its item. -/

namespace Sys2Proof.Machine

open Sys2Proof.Safety

/-! ## The row of a lane job (R58, R66) -/

/-- The work of a lane job whose tag verifies (R66). -/
def LaneWork.act (l : LaneId) (f : LaneFrame) (link : LoadedKey) : LaneWork → State → State
  | .pay base => fun t => t.payWork l f link base
  | .payTest => fun t => t.testWork l f link
  | .reverse base => fun t => t.reverseWork l f link base
  | .enrol => fun t => t.stateWork l f link
  | .askState => fun t => t.stateWork l f link

theorem State.exec_jobRow {s : State} {l : LaneId} {f : LaneFrame} {link : LoadedKey} {work : LaneWork}
    (inFlight : s.engine.job = some (.lane l f link work)) :
    exec (jobRow work) s = .next (s.laneJob l f link (work.act l f link)) := by
  cases work with
  | pay base => simp only [jobRow, exec, execPayJob, State.payJob, inFlight]; rfl
  | payTest => simp only [jobRow, exec, execPayJob, State.payJob, inFlight]; rfl
  | reverse base => simp only [jobRow, exec, execReverseJob, State.reverseJob, inFlight]; rfl
  | enrol => simp only [jobRow, exec, execEnrolJob, State.enrolJob, inFlight]; rfl
  | askState => simp only [jobRow, exec, execAskStateJob, State.askStateJob, inFlight]; rfl

/-- The row of a job whose tag verifies does the work in the state that has recorded the frame. -/
theorem State.exec_jobRow_of_verified {s : State} {l : LaneId} {f : LaneFrame} {link : LoadedKey} {work : LaneWork}
    (verified : verifiedJob s l f link work) :
    exec (jobRow work) s = .next (work.act l f link (s.tagVerified l f)).finishJob := by
  obtain ⟨inFlight, tag⟩ := verified
  rw [State.exec_jobRow inFlight, State.laneJob_of_verified s l _ tag]

/-! ## The tag that fails (R30) -/

theorem satInc_five_eq_iff (n : Nat) : satInc 5 n = 5 ↔ 4 ≤ n := by
  unfold satInc
  split <;> omega

/-- The fifth failure suspends a lane in READY, TEST or EXHAUSTED, and no other (R30). -/
theorem State.suspendForTags_cases (s : State) (l : LaneId) :
    (((s.lane l).config.state = .ready ∨ (s.lane l).config.state = .test ∨ (s.lane l).config.state = .exhausted) →
      s.suspendForTags l = s.changeState l (.suspended .tagFailures) (some (.laneSuspended l .tagFailures))) ∧
    (((s.lane l).config.state = .unused ∨ (∃ c, (s.lane l).config.state = .suspended c) ∨
      ∃ c, (s.lane l).config.state = .faulted c) → s.suspendForTags l = s) := by
  unfold State.suspendForTags
  cases (s.lane l).config.state <;> simp

/-- What a failed tag leaves before the lane may be suspended (R30, R66). -/
def State.tagRefused (s : State) (l : LaneId) (f : LaneFrame) (link : LoadedKey) : State :=
  (s.refuseInJob l f link .tag).modLane l (fun r => { r with tagFailures := satInc 5 (s.lane l).tagFailures })

theorem State.tagFailed_eq (s : State) (l : LaneId) (f : LaneFrame) (link : LoadedKey) : s.tagFailed l f link =
    if 4 ≤ (s.lane l).tagFailures then (s.tagRefused l f link).suspendForTags l else s.tagRefused l f link := by
  simp only [← satInc_five_eq_iff]
  rfl

theorem State.tagRefused_state (s : State) (l : LaneId) (f : LaneFrame) (link : LoadedKey) :
    ((s.tagRefused l f link).lane l).config.state = (s.lane l).config.state := by
  rw [State.tagRefused, State.lane_modLane, if_pos rfl, State.lane_refuseInJob, if_pos rfl]

/-- Settles O38: the tag's failure is counted after the refusal, and the count alone decides whether the lane's state is
looked at. -/
theorem laneJobTagFails : Obligations.LaneJobTagFails := by
  rintro l f link work s t inFlight tag rfl
  have run : exec (jobRow work) s = .next (s.tagFailed l f link).finishJob := by
    rw [State.exec_jobRow inFlight, State.laneJob, if_neg tag]
  obtain ⟨suspended, left⟩ := (s.tagRefused l f link).suspendForTags_cases l
  rw [State.tagRefused_state] at suspended left
  rw [run, State.tagFailed_eq]
  refine ⟨fun few => ?_, fun many => ⟨fun live => ?_, fun dead => ?_⟩⟩
  · rw [if_neg (Nat.not_le.mpr few)]
    rfl
  · rw [if_pos many, suspended live]
    rfl
  · rw [if_pos many, left dead]
    rfl

/-! ## What a recorded frame leaves (R20, R25) -/

theorem State.tagVerified_kept (s : State) (l : LaneId) (f : LaneFrame) :
    ((s.tagVerified l f).lane l).counter = (s.lane l).counter ∧
      ((s.tagVerified l f).lane l).recent = (s.lane l).recent ∧
      ((s.tagVerified l f).lane l).openPayment = (s.lane l).openPayment ∧
      ((s.tagVerified l f).lane l).counters = (s.lane l).counters ∧
      ((s.tagVerified l f).lane l).config.classes = (s.lane l).config.classes := by
  rw [State.tagVerified_lane_same]
  exact ⟨rfl, rfl, rfl, rfl, rfl⟩

theorem State.standInEligible_iff (s : State) (l : LaneId) (c : CardClass) (amount : Nat) :
    s.standInEligible l c amount = true ↔ standsIn s l c amount := by
  simp only [State.standInEligible, standsIn, Bool.and_eq_true, decide_eq_true_eq, and_assoc]
  rfl

theorem State.standInEligible_tagVerified (s : State) (l : LaneId) (f : LaneFrame) (c : CardClass) (amount : Nat) :
    (s.tagVerified l f).standInEligible l c amount = s.standInEligible l c amount := by
  unfold State.standInEligible
  rw [(s.tagVerified_kept l f).2.2.2.2]
  rfl

theorem LaneRecord.spentForPayments_iff (r : LaneRecord) : r.spentForPayments = true ↔ 4194047 < r.counter := by
  simp only [LaneRecord.spentForPayments, decide_eq_true_eq]
  exact Iff.rfl

/-- A payment with a value left goes where the deferral decision sends it (R67, R119). -/
theorem State.routePay_of_value {s : State} {l : LaneId} (f : LaneFrame) (link base : LoadedKey) (c : CardClass)
    (amount : Nat) (clear : Bytes) (value : (s.lane l).counter ≤ 4194047) :
    (∀ reason, s.deferral l c amount = .refused reason →
      s.routePay l f link base c amount clear = s.refuseInJob l f link reason) ∧
    (∀ i, s.deferral l c amount = .live → s.freeEntry = some i →
      s.routePay l f link base c amount clear = s.payLive l f base c clear i) ∧
    (s.deferral l c amount = .live → s.freeEntry = none →
      s.routePay l f link base c amount clear = s.refuseInJob l f link .upstreamFull) ∧
    (∀ p, s.deferral l c amount = .toLog → s.freePlace = some p →
      s.routePay l f link base c amount clear = s.payToLog l f base c amount clear p) := by
  have unspent : ¬ (s.lane l).spentForPayments = true := by
    rw [LaneRecord.spentForPayments_iff]
    exact Nat.not_lt.mpr value
  refine ⟨fun reason route => ?_, fun i route free => ?_, fun route free => ?_, fun p route free => ?_⟩
  · rw [State.routePay, if_neg unspent, route]
  · rw [State.routePay, if_neg unspent, route, free]
  · rw [State.routePay, if_neg unspent, route, free]
  · rw [State.routePay, if_neg unspent, route, free]

/-- The deferral decision (R119). -/
theorem State.deferral_cases (s : State) (l : LaneId) (c : CardClass) (amount : Nat) :
    (s.monitor.state = .up → s.logCount l = 0 → s.deferral l c amount = .live) ∧
    ((s.monitor.state ≠ .up ∨ s.logCount l ≠ 0) → standsIn s l c amount → s.deferral l c amount = .toLog) ∧
    (s.monitor.state = .up → s.logCount l ≠ 0 → ¬ standsIn s l c amount → s.deferral l c amount = .refused .draining) ∧
    (s.monitor.state ≠ .up → ¬ standsIn s l c amount → s.deferral l c amount = .refused .chainDown) := by
  simp only [← State.standInEligible_iff, State.deferral]
  refine ⟨fun up empty => ?_, fun blocked stands => ?_, fun up drains not => ?_, fun down not => ?_⟩
  · rw [if_pos up, if_pos empty]
  · by_cases up : s.monitor.state = .up
    · rw [if_pos up, if_neg (blocked.resolve_left (fun h => h up)), if_pos stands]
    · rw [if_neg up, if_pos stands]
  · rw [if_pos up, if_neg drains, if_neg not]
  · rw [if_neg down, if_neg not]

/-- What a payment's route depends on is as it was before its frame was recorded. -/
theorem State.deferral_tagVerified (s : State) (l : LaneId) (f : LaneFrame) (c : CardClass) (amount : Nat) :
    (s.tagVerified l f).deferral l c amount = s.deferral l c amount := by
  unfold State.deferral
  rw [State.standInEligible_tagVerified]
  rfl

theorem State.payWork_of_header {s : State} {f : LaneFrame} {link : LoadedKey} {c : CardClass} {amount : Nat} (l : LaneId)
    (base : LoadedKey) (header : readHeader (decrypt link.key f.body) = some (c, amount)) :
    s.payWork l f link base = s.routePay l f link base c amount (decrypt link.key f.body) := by
  unfold State.payWork
  dsimp only
  rw [header]

/-- The row of a verified payment with a well formed header (R66, R67). -/
theorem State.exec_payJob_of_header {s : State} {l : LaneId} {f : LaneFrame} {link base : LoadedKey} {c : CardClass}
    {amount : Nat} (verified : verifiedJob s l f link (.pay base))
    (header : readHeader (decrypt link.key f.body) = some (c, amount)) :
    exec .payJob s = .next ((s.tagVerified l f).routePay l f link base c amount (decrypt link.key f.body)).finishJob :=
  (State.exec_jobRow_of_verified verified).trans (by rw [← State.payWork_of_header l base header]; rfl)

/-- Settles O42: the header decides first, then the lane's counter, then the deferral decision and the free entry. -/
theorem payRefusedOrEchoed : Obligations.PayRefusedOrEchoed := by
  intro l f link s refused is
  refine ⟨fun verified => ⟨fun bad => ?_, fun good => ?_⟩, fun base verified => ⟨fun bad => ?_, fun c amount header =>
    ⟨fun spent => ?_, fun value => ?_⟩⟩⟩
  · refine (State.exec_jobRow_of_verified verified).trans ?_
    rw [is]
    simp only [LaneWork.act, State.testWork, bad]
  · obtain ⟨header, found⟩ := Option.ne_none_iff_exists'.mp good
    refine (State.exec_jobRow_of_verified verified).trans ?_
    simp only [LaneWork.act, State.testWork, found]
  · refine (State.exec_jobRow_of_verified verified).trans ?_
    rw [is]
    simp only [LaneWork.act, State.payWork, bad]
  · have counted : 4194047 < ((s.tagVerified l f).lane l).counter := by
      rw [(s.tagVerified_kept l f).1]
      exact spent
    rw [State.exec_payJob_of_header verified header, is, State.routePay,
      if_pos ((LaneRecord.spentForPayments_iff _).mpr counted)]
  · have counted : ((s.tagVerified l f).lane l).counter ≤ 4194047 := by
      rw [(s.tagVerified_kept l f).1]
      exact value
    obtain ⟨route_refused, -, route_full, -⟩ := State.routePay_of_value (s := s.tagVerified l f) f link base c amount
      (decrypt link.key f.body) counted
    rw [State.deferral_tagVerified] at route_refused route_full
    obtain ⟨live, -, draining, down⟩ := s.deferral_cases l c amount
    rw [State.exec_payJob_of_header verified header]
    refine ⟨fun notUp not => ?_, fun up drains not => ?_, fun up empty full => ?_⟩
    · rw [route_refused _ (down notUp not), is]
    · rw [route_refused _ (draining up drains not), is]
    · rw [route_full (live up empty) full, is]

end Sys2Proof.Machine
end

section
/-! SUPPORT. A reversal by the place of its item (R29, R70, R89, R132). -/

namespace Sys2Proof.Machine

open Sys2Proof.Safety

/-! ## The end of a job leaves all but the holds (R57) -/

@[simp] theorem State.finishJob_persist (s : State) : s.finishJob.persist = s.persist := State.grantHolds_persist _
@[simp] theorem State.finishJob_monitor (s : State) : s.finishJob.monitor = s.monitor := State.grantHolds_monitor _
@[simp] theorem State.finishJob_events (s : State) : s.finishJob.events = s.events := State.grantHolds_events _
@[simp] theorem State.finishJob_device (s : State) : s.finishJob.device = s.device := State.grantHolds_device _
@[simp] theorem State.finishJob_answerQueue (s : State) : s.finishJob.answerQueue = s.answerQueue :=
  State.grantHolds_answerQueue _
@[simp] theorem State.finishJob_reassembly (s : State) : s.finishJob.reassembly = s.reassembly :=
  State.grantHolds_reassembly _

theorem State.finishJob_exchange (s : State) (i : EntryId) : s.finishJob.exchange i = s.exchange i := by
  rw [State.exchange, State.finishJob_exchanges, State.exchange]

theorem State.standingTables_finishJob (s : State) : standingTables s s.finishJob :=
  ⟨State.grantHolds_settings _, State.grantHolds_standIn _, State.grantHolds_slots _⟩

/-! ## A verified REVERSE -/

theorem State.lane_placeItem (s : State) (l : LaneId) (n : Nat) (place : RecentPlace) :
    (s.placeItem l n place).lane l = { s.lane l with recent := (s.lane l).recent.map (fun x =>
      if x.xchg = n then { x with place := place } else x) } := by
  unfold State.placeItem
  exact State.lane_modLane_same s l _

/-- The row of a verified REVERSE. -/
theorem State.exec_reverseJob {s : State} {l : LaneId} {f : LaneFrame} {link base : LoadedKey}
    (verified : verifiedJob s l f link (.reverse base)) :
    exec .reverseJob s = .next ((s.tagVerified l f).reverseWork l f link base).finishJob :=
  State.exec_jobRow_of_verified verified

/-- What a reverse does with the item that its target names, if any (R70). -/
theorem State.reverseWork_of_target {s : State} {l : LaneId} {f : LaneFrame} {link base : LoadedKey} {n : Nat}
    (target : f.target = some n) :
    ((s.lane l).recent.find? (fun x => x.xchg = n) = none →
      s.reverseWork l f link base = s.refuseInJob l f link .noExchange) ∧
    (∀ item, (s.lane l).recent.find? (fun x => x.xchg = n) = some item →
      (item.place = .reversed → s.reverseWork l f link base = s.takenInJob l f link) ∧
      (∀ i, item.place = .exchange i → s.reverseWork l f link base = s.reverseEntry l f link i) ∧
      (∀ o, item.place = .done o → s.reverseWork l f link base = s.newReversal l f link base n item.seq false) ∧
      (∀ p, item.place = .log p → s.reverseWork l f link base = s.reverseLogged l f link base n p)) := by
  unfold State.reverseWork
  rw [target]
  dsimp only [Option.getD_some]
  refine ⟨fun absent => by rw [absent], fun item found => ?_⟩
  rw [found]
  dsimp only
  exact ⟨fun at_ => by rw [at_], fun i at_ => by rw [at_], fun o at_ => by rw [at_], fun p at_ => by rw [at_]⟩

theorem State.reverseEntry_cases {s : State} {i : EntryId} {e : Exchange} (l : LaneId) (f : LaneFrame) (link : LoadedKey)
    (found : s.exchange i = some e) :
    ((e.state = .reversalDue ∨ e.state = .reversing) → s.reverseEntry l f link i = s.takenInJob l f link) ∧
    (e.kind = .payment → e.state = .awaiting →
      s.reverseEntry l f link i = (s.reversalDue i e .till).takenInJob l f link) := by
  unfold State.reverseEntry
  rw [found]
  dsimp only
  refine ⟨?_, fun payment awaiting => by rw [payment, awaiting]⟩
  rintro (due | reversing)
  · rw [due]
  · rw [reversing]

theorem State.reverseLogged_cases {s : State} {p : PlaceId} {e : LogEntry} (l : LaneId) (f : LaneFrame)
    (link base : LoadedKey) (n : Nat) (found : s.logAt p = some e) :
    (e.kind = .reversal → s.reverseLogged l f link base n p = s.takenInJob l f link) ∧
    (e.kind = .payment → e.state = .queued → s.reverseLogged l f link base n p = s.cancelInPlace l f n e) ∧
    (e.kind = .payment → e.state = .sent →
      s.reverseLogged l f link base n p = s.newReversal l f link base n e.seq true) := by
  unfold State.reverseLogged
  rw [found]
  dsimp only
  refine ⟨fun reversal => by rw [reversal], fun payment queued => by rw [payment, queued],
    fun payment sent => by rw [payment, sent]⟩

/-- A cancel in place at a queue with room (R132): the entry leaves the log, its removal is queued, and the item moves. -/
theorem State.cancelInPlace_spec {s : State} (l : LaneId) (f : LaneFrame) (n : Nat) (e : LogEntry)
    (room : s.persist.full = false) :
    (s.cancelInPlace l f n e).log = s.log.filter (fun x => x.serial ≠ e.serial) ∧
    .removal e.place e.serial (some ⟨l, f.xchg⟩) ∈ (s.cancelInPlace l f n e).persist.unwritten ∧
    (s.cancelInPlace l f n e).lane l = { s.lane l with recent := (s.lane l).recent.map (fun x =>
      if x.xchg = n then { x with place := .reversed } else x) } ∧
    (s.cancelInPlace l f n e).sendQueue = s.sendQueue ∧ (s.cancelInPlace l f n e).exchanges = s.exchanges := by
  obtain ⟨q, d, is, mem⟩ := State.queueRemoval_of_room (s := (s.unlog e.serial).placeItem l n .reversed) e
    (some ⟨l, f.xchg⟩) room
  have cancelled : s.cancelInPlace l f n e = { (s.unlog e.serial).placeItem l n .reversed with persist := q, store := d } :=
    is
  rw [cancelled]
  exact ⟨rfl, mem, (s.unlog e.serial).lane_placeItem l n .reversed, rfl, rfl⟩

/-- Settles O44: the item of the target decides, then the entry or the log entry that it stands at. -/
theorem reverseActsByPlace : Obligations.ReverseActsByPlace := by
  rintro l f link base n s v taken verified target rfl rfl
  have recent : ((s.tagVerified l f).lane l).recent = (s.lane l).recent := (s.tagVerified_kept l f).2.1
  obtain ⟨absent, acts⟩ := State.reverseWork_of_target (s := s.tagVerified l f) (l := l) (link := link) (base := base) target
  rw [recent] at absent acts
  rw [State.exec_reverseJob verified]
  refine ⟨fun gone => by rw [absent gone], fun item found => ?_⟩
  obtain ⟨reversed, exchange, -, logged⟩ := acts item found
  refine ⟨fun place => by rw [reversed place]; rfl, fun i e place entry => ?_, fun p e place entry => ?_⟩
  · obtain ⟨beingReversed, awaited⟩ := State.reverseEntry_cases (s := s.tagVerified l f) l f link entry
    rw [exchange i place]
    exact ⟨fun h => by rw [beingReversed h]; rfl, fun payment awaiting => by rw [awaited payment awaiting]; rfl⟩
  · obtain ⟨reversal, queued, -⟩ := State.reverseLogged_cases (s := s.tagVerified l f) l f link base n entry
    rw [logged p place]
    refine ⟨fun h => by rw [reversal h]; rfl, fun payment h room => ⟨_, rfl, ?_⟩⟩
    obtain ⟨log, removal, lane, sendQueue, exchanges⟩ := (s.tagVerified l f).cancelInPlace_spec l f n e room
    rw [queued payment h]
    refine ⟨?_, ?_, ?_, ?_, ?_, ?_⟩
    · rw [State.finishJob_log, log]
      rfl
    · rw [State.finishJob_persist]
      exact removal
    · rw [State.finishJob_lane, lane, ← recent]
    · rw [State.finishJob_lane, lane]
      exact (s.tagVerified_kept l f).1
    · rw [State.finishJob_sendQueue, sendQueue]
      rfl
    · rw [State.finishJob_exchanges, exchanges]
      rfl

end Sys2Proof.Machine
end

section
/-! SUPPORT. The answer job (R73 to R75, R87, R93, R98, R130). -/

namespace Sys2Proof.Machine

open Sys2Proof.Safety

/-! ## A valid envelope at the monitor (R112) -/

theorem State.restartProbeTimer_events (s : State) : s.restartProbeTimer.events = s.events := by
  obtain ⟨m, form⟩ := s.restartProbeTimer_form
  rw [form]
  rfl

theorem State.restartProbeTimer_up (s : State) : s.restartProbeTimer.monitor.state = s.monitor.state := by
  unfold State.restartProbeTimer
  split <;> rfl

/-- A valid envelope brings the monitor up, and CHAIN-UP is the one event it may raise. -/
theorem State.validEnvelope_leaves (s : State) (k : EnvelopeKind) :
    (s.validEnvelope k).monitor.state = .up ∧
    ∀ n : EventNumber, n ≠ 1 → (s.validEnvelope k).events[n] = s.events[n] := by
  by_cases down : s.monitor.state = .down
  · rw [State.validEnvelope_of_down k down]
    refine ⟨?_, fun n ne => ?_⟩
    · rw [State.restartProbeTimer_up, State.raise_monitor, State.broadcastTills_monitor]
      rfl
    · have other : ¬ (1 : Nat) = n.val := fun h => ne (Fin.ext h.symm)
      rw [State.restartProbeTimer_events, State.raise_events, State.broadcastTills_events]
      exact Vector.getElem_set_ne _ _ other
  · rw [State.validEnvelope_of_live k down, State.restartProbeTimer_up]
    exact ⟨rfl, fun n _ => by rw [State.restartProbeTimer_events]; rfl⟩

/-! ## The row and its checks (R73) -/

theorem State.exec_answerJob {s : State} {env : Envelope} {found : Option (EntryId × Nat)} {lane : Option LaneId}
    {base link : Option LoadedKey} (inFlight : s.engine.job = some (.answer env found lane base link)) :
    exec .answerJob s = .next (s.answerWork env found base link).finishJob := by
  simp only [exec, execAnswerJob, State.answerJob, inFlight]

theorem State.answerWork_of_found {s : State} {env : Envelope} {i : EntryId} {e : Exchange} (base link : Option LoadedKey)
    (late : s.isLate env = false) (entry : s.entryOf env.seq = some (i, e)) :
    s.answerWork env (some (i, e.stamp)) base link =
      base.elim (s.settleUnverified i e) (fun k => s.checkAnswer env i e k link) := by
  have same : ¬ (some (i, e.stamp) ≠ some (i, e.stamp)) := fun h => h rfl
  unfold State.answerWork
  rw [if_neg (by simp [late]), entry]
  dsimp only
  rw [if_neg same]
  cases base <;> rfl

theorem State.checkAnswer_of_passes {s : State} {env : Envelope} {i : EntryId} {e : Exchange} {base : LoadedKey}
    (link : Option LoadedKey)
    (passes : envelopePasses s env e (Config.transactionKey base.key (s.laneIdentity e.lane) e.counter)) :
    s.checkAnswer env i e base link =
      s.verified env i e (Config.transactionKey base.key (s.laneIdentity e.lane) e.counter) link := by
  obtain ⟨identity, suits, tag⟩ := passes
  unfold State.checkAnswer
  dsimp only
  rw [if_neg (fun h => h identity), if_neg (by simp [suits]), if_neg (fun h => h tag)]

theorem State.checkAnswer_of_fails {s : State} {env : Envelope} {i : EntryId} {e : Exchange} {base : LoadedKey}
    (link : Option LoadedKey)
    (fails : ¬ envelopePasses s env e (Config.transactionKey base.key (s.laneIdentity e.lane) e.counter)) :
    s.checkAnswer env i e base link = s.countUnmatched := by
  unfold State.checkAnswer
  dsimp only
  by_cases identity : (s.lane e.lane).config.identity = some env.identity
  · by_cases suits : s.suits env e = true
    · rw [if_neg (fun h => h identity), if_neg (by simp [suits]), if_pos (fun tag => fails ⟨identity, suits, tag⟩)]
    · rw [if_neg (fun h => h identity), if_pos (by simpa using suits)]
  · rw [if_pos identity]

theorem State.verified_cases (s : State) (env : Envelope) (i : EntryId) (e : Exchange) (key : Key)
    (link : Option LoadedKey) :
    (∀ o, env.kind = .answer → readOutcome (decrypt key env.body) = some o → s.verified env i e key link =
      (s.settleAnswer i e link (decrypt key env.body) o).validEnvelope .answer) ∧
    (env.kind = .answer → readOutcome (decrypt key env.body) = none → s.verified env i e key link =
      s.countUnmatched.validEnvelope .answer) ∧
    (env.kind = .reversalAck → s.verified env i e key link = (s.settleAck i e).validEnvelope .reversalAck) := by
  unfold State.verified
  refine ⟨fun o kind outcome => ?_, fun kind outcome => ?_, fun kind => ?_⟩
  · rw [kind]
    dsimp only
    rw [outcome]
  · rw [kind]
    dsimp only
    rw [outcome]
  · rw [kind]

/-! ## A LOG-SEND entry settled on the log's side (R98) -/

/-- The exchange entry freed, the log entry gone, its removal queued. -/
def State.loggedOut (s : State) (i : EntryId) (x : LogEntry) : State :=
  ((s.setExchange i none).unlog x.serial).queueRemoval x none

theorem State.settleLogged_of_entry {s : State} {i : EntryId} {e : Exchange} {p : PlaceId} {x : LogEntry}
    (settle : LogEntry → State → State) (ref : e.logRef = some p) (logged : s.logAt p = some x) :
    (s.free i).settleLogged e settle = settle x (s.loggedOut i x) := by
  have stands : e.logRef.bind (s.free i).logAt = some x := by
    rw [ref]
    exact logged
  unfold State.settleLogged
  rw [stands]
  rfl

/-- What the entry's leaving makes of the state at a queue with room: all else is as it was. -/
theorem State.loggedOut_of_room {s : State} (i : EntryId) (x : LogEntry) (room : s.persist.full = false) :
    ∃ q d, s.loggedOut i x = { (s.setExchange i none).unlog x.serial with persist := q, store := d } ∧
      .removal x.place x.serial none ∈ q.unwritten :=
  State.queueRemoval_of_room (s := (s.setExchange i none).unlog x.serial) x none room

/-- The entry freed and its log entry out of the log, with the lane records given. -/
structure LoggedOut (s t : State) (i : EntryId) (x : LogEntry) : Prop where
  freed : t.exchange i = none
  others : otherEntries s t i
  log : t.log = s.log.filter (fun y => y.serial ≠ x.serial)
  removal : .removal x.place x.serial none ∈ t.persist.unwritten

theorem LoggedOut.of_room {s : State} (i : EntryId) (x : LogEntry) (room : s.persist.full = false) :
    LoggedOut s (s.loggedOut i x) i x := by
  obtain ⟨q, d, form, mem⟩ := s.loggedOut_of_room i x room
  rw [form]
  exact ⟨s.exchange_setExchange_same i none, fun j ne => s.exchange_setExchange_ne none ne, rfl, mem⟩

theorem LoggedOut.then {s t u : State} {i : EntryId} {x : LogEntry} (h : LoggedOut s t i x)
    (exchanges : u.exchanges = t.exchanges) (log : u.log = t.log) (persist : u.persist = t.persist) :
    LoggedOut s u i x where
  freed := by rw [State.exchange, exchanges]; exact h.freed
  others := fun j ne => by rw [State.exchange, exchanges]; exact h.others j ne
  log := log.trans h.log
  removal := by rw [persist]; exact h.removal

theorem LoggedOut.modLane {s t : State} {i : EntryId} {x : LogEntry} (h : LoggedOut s t i x) (l : LaneId)
    (f : LaneRecord → LaneRecord) : LoggedOut s (t.modLane l f) i x := h.then rfl rfl rfl

theorem LoggedOut.reportDeclined {s t : State} {i : EntryId} {x : LogEntry} (h : LoggedOut s t i x) (y : LogEntry)
    (o : AnswerOutcome) : LoggedOut s (t.reportDeclined y o) i x := by
  unfold State.reportDeclined
  split
  · exact h.then (State.raise_exchanges _ _) (State.raise_log _ _) (State.raise_persist _ _)
  · exact h

theorem LoggedOut.finished {s t : State} {i : EntryId} {x : LogEntry} (h : LoggedOut s t i x) :
    LoggedOut s t.finishJob i x := h.then t.finishJob_exchanges t.finishJob_log t.finishJob_persist

theorem LoggedOut.valid {s t : State} {i : EntryId} {x : LogEntry} (h : LoggedOut s t i x) (k : EnvelopeKind) :
    LoggedOut s (t.validEnvelope k) i x :=
  h.then (State.exchanges_of_monitor (t.sansMonitor_validEnvelope k)) (State.log_of_monitor (t.sansMonitor_validEnvelope k))
    (State.persist_of_monitor (t.sansMonitor_validEnvelope k))

theorem State.loggedOut_lane (s : State) (i : EntryId) (x : LogEntry) (k : LaneId) :
    (s.loggedOut i x).lane k = s.lane k := by
  rw [State.loggedOut, State.queueRemoval_lane]
  rfl

theorem State.reportDeclined_lane (s : State) (x : LogEntry) (o : AnswerOutcome) (k : LaneId) :
    (s.reportDeclined x o).lane k = s.lane k := by
  unfold State.reportDeclined
  split
  · exact State.raise_lane _ _ k
  · rfl

theorem State.reportDeclined_events (s : State) (x : LogEntry) :
    (s.reportDeclined x .declined).events[11] = ⟨true, satInc 255 s.events[11].count⟩ ∧
    ∀ o, o ≠ .declined → (s.reportDeclined x o).events = s.events := by
  refine ⟨?_, fun o ne => ?_⟩
  · rw [State.reportDeclined, if_pos rfl, State.raise_events]
    exact Vector.getElem_set_self _
  · rw [State.reportDeclined, if_neg ne]

theorem State.lane_moveItem (s : State) (l k : LaneId) (old new : RecentPlace) : (s.moveItem l old new).lane k =
    if k = l then { s.lane k with recent := (s.lane k).recent.map (fun y =>
      if y.place = old then { y with place := new } else y) } else s.lane k := by
  unfold State.moveItem
  exact State.lane_modLane s l k _

theorem State.lane_dropItem (s : State) (l k : LaneId) (old : RecentPlace) : (s.dropItem l old).lane k =
    if k = l then { s.lane k with recent := (s.lane k).recent.filter (fun y => y.place ≠ old) } else s.lane k := by
  unfold State.dropItem
  exact State.lane_modLane s l k _

theorem State.validEnvelope_lane (s : State) (k : EnvelopeKind) (l : LaneId) : (s.validEnvelope k).lane l = s.lane l :=
  State.lane_of_lanes_eq (State.lanes_of_monitor (s.sansMonitor_validEnvelope k)) l

/-- The end of a job that a valid envelope ends: its lanes, its monitor and its events. -/
theorem State.finish_validEnvelope (s : State) (k : EnvelopeKind) :
    (∀ l, (s.validEnvelope k).finishJob.lane l = s.lane l) ∧ (s.validEnvelope k).finishJob.engine.job = none ∧
    (s.validEnvelope k).finishJob.monitor.state = .up ∧
    (s.validEnvelope k).finishJob.events[11] = s.events[11] := by
  obtain ⟨up, events⟩ := s.validEnvelope_leaves k
  refine ⟨fun l => ?_, State.finishJob_job _, ?_, ?_⟩
  · rw [State.finishJob_lane, State.validEnvelope_lane]
  · rw [State.finishJob_monitor, up]
  · rw [State.finishJob_events]
    exact events 11 (by decide)

end Sys2Proof.Machine
end

section
/-! SUPPORT. What an answer settles (R73, R74, R75, R87). -/

namespace Sys2Proof.Machine

open Sys2Proof.Safety

/-! ## Answers that pass every check -/

/-- The row of an answer that passes every check under its entry's base key. -/
theorem State.exec_answerJob_of_passes {s : State} {env : Envelope} {base : LoadedKey} {link : Option LoadedKey}
    {i : EntryId} {e : Exchange} {key : Key} (found : answerFor s env (some base) link i e)
    (key_eq : key = Config.transactionKey base.key (s.laneIdentity e.lane) e.counter)
    (passes : envelopePasses s env e key) : exec .answerJob s = .next (s.verified env i e key link).finishJob := by
  obtain ⟨lane, inFlight, late, entry⟩ := found
  subst key_eq
  rw [State.exec_answerJob inFlight, State.answerWork_of_found _ _ late entry]
  exact congrArg (fun t => Host.Outcome.next t.finishJob) (State.checkAnswer_of_passes link passes)

theorem State.settleAnswer_of_payment {s : State} {i : EntryId} {e : Exchange} (link : Option LoadedKey) (clear : Bytes)
    (o : AnswerOutcome) (payment : e.kind = .payment) : s.settleAnswer i e link clear o =
      (((s.sendEarlier e.lane e.xchg (.answer clear) (link.map LoadedKey.key)).countAnswer e.lane).setExchange i
        none).modLane e.lane (fun r => { r with
          openPayment := none
          recent := r.recent.map (fun x => if x.place = .exchange i then { x with place := .done o } else x) }) := by
  unfold State.settleAnswer
  rw [payment]
  exact State.modLane_modLane _ _ _ _

theorem State.settleAck_of_reversal {s : State} {i : EntryId} {e : Exchange} (kind : e.kind ≠ .logSend) :
    s.settleAck i e = (s.setExchange i none).modLane e.lane (fun r => { r with
      recent := r.recent.map (fun x => if x.place = .exchange i then { x with place := .reversed } else x) }) := by
  unfold State.settleAck
  cases h : e.kind with
  | logSend => exact absurd h kind
  | payment => rfl
  | reversal => rfl

theorem State.settleAnswer_of_logged {s : State} {i : EntryId} {e : Exchange} {p : PlaceId} {x : LogEntry}
    (link : Option LoadedKey) (clear : Bytes) (o : AnswerOutcome) (kind : e.kind = .logSend) (ref : e.logRef = some p)
    (logged : s.logAt p = some x) : s.settleAnswer i e link clear o =
      ((s.loggedOut i x).moveItem x.lane (.log x.place) (.done o)).reportDeclined x o := by
  unfold State.settleAnswer
  rw [kind]
  exact State.settleLogged_of_entry _ ref logged

theorem State.settleAck_of_logged {s : State} {i : EntryId} {e : Exchange} {p : PlaceId} {x : LogEntry}
    (kind : e.kind = .logSend) (ref : e.logRef = some p) (logged : s.logAt p = some x) :
    s.settleAck i e = (s.loggedOut i x).moveItem x.lane (.log x.place) .reversed := by
  unfold State.settleAck
  rw [kind]
  exact State.settleLogged_of_entry _ ref logged

theorem State.lane_moveItem_loggedOut (s : State) (i : EntryId) (x : LogEntry) (new : RecentPlace) (k : LaneId) :
    ((s.loggedOut i x).moveItem x.lane (.log x.place) new).lane k =
      if k = x.lane then { s.lane k with recent := (s.lane k).recent.map (fun y =>
        if y.place = .log x.place then { y with place := new } else y) } else s.lane k := by
  rw [State.lane_moveItem, State.loggedOut_lane]

theorem State.loggedOut_events {s : State} (i : EntryId) (x : LogEntry) (room : s.persist.full = false) :
    (s.loggedOut i x).events = s.events := by
  obtain ⟨q, d, form, -⟩ := s.loggedOut_of_room i x room
  rw [form]
  rfl

/-- Settles O46: the kinds of the envelope and of the entry decide what is settled; the monitor takes the envelope
after it. -/
theorem answerSettled : Obligations.AnswerSettled := by
  intro env base link i e key s found key_eq passes
  obtain ⟨answered, -, acknowledged⟩ := s.verified_cases env i e key link
  rw [State.exec_answerJob_of_passes found key_eq passes]
  refine ⟨fun o kind payment outcome => ?_, fun kind reversing notSend => ?_, fun p x send ref logged room opens kinds => ?_⟩
  · refine ⟨s.settleAnswer i e link (decrypt key env.body) o, ?_, State.settleAnswer_of_payment link _ o payment⟩
    rw [answered o kind outcome]
  · rw [acknowledged kind, State.settleAck_of_reversal notSend]
  have gone := LoggedOut.of_room i x room
  have events := State.loggedOut_events i x room
  refine ⟨_, rfl, ?_⟩
  rcases kinds with kind | kind
  · obtain ⟨o, outcome⟩ := Option.ne_none_iff_exists'.mp (opens kind)
    rw [answered o kind outcome, State.settleAnswer_of_logged link _ o send ref logged]
    set u := ((s.loggedOut i x).moveItem x.lane (.log x.place) (.done o)).reportDeclined x o with hu
    have left : LoggedOut s (u.validEnvelope .answer).finishJob i x :=
      (((gone.modLane _ _).reportDeclined x o).valid .answer).finished
    obtain ⟨lanes, idle, up, latch⟩ := u.finish_validEnvelope .answer
    have lane : ∀ k, u.lane k = if k = x.lane then { s.lane k with recent := (s.lane k).recent.map (fun y =>
        if y.place = .log x.place then { y with place := .done o } else y) } else s.lane k := fun k => by
      rw [hu, State.reportDeclined_lane, State.lane_moveItem_loggedOut]
    refine ⟨left.freed, left.others, left.log, left.removal, idle, up, fun k ne => ?_, fun o' _ outcome' => ?_,
      fun kind' => absurd (kind.symm.trans kind') (by decide)⟩
    · rw [lanes, lane, if_neg ne]
    obtain rfl : o = o' := Option.some.inj (outcome.symm.trans outcome')
    refine ⟨?_, fun declined => ⟨?_, ?_⟩, fun other => ?_⟩
    · rw [lanes, lane, if_pos rfl]
    · subst declined
      rw [latch, hu, (State.reportDeclined_events _ x).1, ← events]
      rfl
    · subst declined
      rfl
    · rw [latch, hu, (State.reportDeclined_events _ x).2 o other, ← events]
      rfl
  · rw [acknowledged kind, State.settleAck_of_logged send ref logged]
    set u := (s.loggedOut i x).moveItem x.lane (.log x.place) .reversed with hu
    have left : LoggedOut s (u.validEnvelope .reversalAck).finishJob i x :=
      ((gone.modLane _ _).valid .reversalAck).finished
    obtain ⟨lanes, idle, up, latch⟩ := u.finish_validEnvelope .reversalAck
    refine ⟨left.freed, left.others, left.log, left.removal, idle, up, fun k ne => ?_,
      fun o kind' _ => absurd (kind.symm.trans kind') (by decide), fun _ => ⟨?_, ?_⟩⟩
    · rw [lanes, hu, State.lane_moveItem_loggedOut, if_neg ne]
    · rw [latch, ← events]
      rfl
    · rw [lanes, hu, State.lane_moveItem_loggedOut, if_pos rfl]

/-! ## Answers that settle nothing, or settle unverified (R75, R87) -/

theorem State.settleUnverified_cases (s : State) (i : EntryId) (e : Exchange) :
    (e.state = .awaiting → e.kind = .payment →
      ∃ u, s.settleUnverified i e = (((u.sendEarlier e.lane e.xchg .timedOut (u.handKey e.lane)).countTimeout
          e.lane).raise (.reversalAbandoned e.lane (some e.seq))) ∧
        u = (s.countUnmatched.setExchange i none).modLane e.lane (fun r => { r with
          openPayment := none, recent := r.recent.filter (fun x => x.place ≠ .exchange i) })) ∧
    (e.state = .reversing → e.kind ≠ .logSend →
      s.settleUnverified i e = ((s.countUnmatched.setExchange i none).modLane e.lane (fun r => { r with
        recent := r.recent.filter (fun x => x.place ≠ .exchange i) })).raise (.reversalAbandoned e.lane e.orig)) ∧
    (∀ p x, e.kind = .logSend → e.logRef = some p → s.logAt p = some x →
      s.settleUnverified i e = (s.countUnmatched.loggedOut i x).dropItem x.lane (.log x.place)) := by
  unfold State.settleUnverified
  dsimp only
  refine ⟨fun awaiting payment => ?_, fun reversing notSend => ?_, fun p x send ref logged => ?_⟩
  · rw [payment, awaiting]
    exact ⟨_, rfl, State.modLane_modLane _ _ _ _⟩
  · rw [reversing]
    cases h : e.kind with
    | logSend => exact absurd h notSend
    | payment => rfl
    | reversal => rfl
  · rw [send]
    exact State.settleLogged_of_entry _ ref logged

/-- Settles O47: the envelope is LATE, or has no entry, or another than at the grant, or fails a check, or lost its base
key, or opens with no outcome. -/
theorem answerNotVerified : Obligations.AnswerNotVerified := by
  intro env found lane base link s inFlight
  rw [State.exec_answerJob inFlight]
  refine ⟨fun late => ?_, fun late absent => ?_, fun i e late entry => ⟨fun other => ?_,
    fun k key is has key_eq fails => ?_, fun is lost => ?_, fun k key is has key_eq passes kind none_ => ?_⟩⟩
  · rw [State.answerWork, if_pos late]
  · rw [State.answerWork, if_neg (by simp [late]), absent]
  · rw [State.answerWork, if_neg (by simp [late]), entry]
    dsimp only
    rw [if_pos other]
  · subst is has key_eq
    rw [State.answerWork_of_found _ _ late entry]
    exact congrArg (fun t => Host.Outcome.next t.finishJob) (State.checkAnswer_of_fails link fails)
  · subst is lost
    have unverified : s.answerWork env (some (i, e.stamp)) none link = s.settleUnverified i e :=
      State.answerWork_of_found _ _ late entry
    rw [unverified]
    obtain ⟨awaited, reversed, logged⟩ := s.settleUnverified_cases i e
    refine ⟨fun awaiting payment => ?_, fun reversing notSend => ?_, fun p x send ref stands room => ⟨_, rfl, ?_⟩⟩
    · obtain ⟨u, is, form⟩ := awaited awaiting payment
      exact ⟨u, by rw [is], form⟩
    · rw [reversed reversing notSend]
    · rw [logged p x send ref stands]
      have left : LoggedOut s.countUnmatched ((s.countUnmatched.loggedOut i x).dropItem x.lane (.log x.place)).finishJob i x :=
        ((LoggedOut.of_room (s := s.countUnmatched) i x room).modLane _ _).finished
      have lanes : ∀ k, ((s.countUnmatched.loggedOut i x).dropItem x.lane (.log x.place)).lane k =
          if k = x.lane then { s.lane k with recent := (s.lane k).recent.filter (fun y => y.place ≠ .log x.place) }
          else s.lane k := fun k => by
        rw [State.lane_dropItem, State.loggedOut_lane]
        rfl
      obtain ⟨q, d, form, -⟩ := s.countUnmatched.loggedOut_of_room i x room
      refine ⟨left.freed, left.others, left.log, left.removal, fun k ne => ?_, ?_, ?_, ?_, ?_, State.finishJob_job _⟩
      · rw [State.finishJob_lane, lanes, if_neg ne]
      · rw [State.finishJob_lane, lanes, if_pos rfl]
      · rw [State.finishJob_device, form]
        rfl
      · rw [State.finishJob_events, form]
        rfl
      · rw [State.finishJob_monitor, form]
        rfl
  · subst is has
    rw [State.answerWork_of_found _ _ late entry]
    subst key_eq
    refine congrArg (fun t => Host.Outcome.next t.finishJob) ((State.checkAnswer_of_passes link passes).trans ?_)
    exact (s.verified_cases env i e _ link).2.1 kind none_

end Sys2Proof.Machine
end

section
/-! SUPPORT. How much the take of a counter value may hand to the ports and queue to the store, and what it leaves of the
lane (R33, R51, R52, R55). -/

namespace Sys2Proof.Machine

open Sys2Proof.Safety

/-! ## What a lane keeps while its state changes -/

/-- A lane record without what a change of its state may write. -/
def LaneRecord.steady (r : LaneRecord) : LaneRecord := { r with
  config := { r.config with state := .unused }
  mailbox := none
  advancePending := false
  counters := { r.counters with refusals := Vector.replicate 13 0 } }

theorem LaneCounters.refuse_steady (c : LaneCounters) (reason : TillReason) :
    { c.refuse reason with refusals := Vector.replicate 13 0 } = { c with refusals := Vector.replicate 13 0 } := by
  unfold LaneCounters.refuse
  split <;> rfl

theorem LaneRecord.steady_refused (r : LaneRecord) (reason : TillReason) :
    LaneRecord.steady { r with counters := r.counters.refuse reason } = r.steady := by
  simp only [LaneRecord.steady, LaneCounters.refuse_steady]

theorem LaneRecord.steady_entered (r : LaneRecord) (st : LaneState) : (r.entered st).steady = r.steady := by
  unfold LaneRecord.entered
  split
  · simp only [LaneRecord.steady, LaneCounters.refuse_steady]
  · rfl

/-! ## The frames that one operation hands to the S-port -/

theorem State.handFrame_frames (s : State) (p : Port) (f : OutFrame) :
    ((s.handFrame p f).port .s).order.length ≤ (s.port .s).order.length + 1 := by
  rcases Port.eq_or_opposite p .s with e | e
  · subst e
    by_cases carrier : (s.port .s).carrier = true
    · by_cases room : (s.port .s).order.length < Config.orderCapacity
      · rw [s.handFrame_order .s f carrier room, List.length_append]
        exact le_rfl
      · rw [State.handFrame_of_full f carrier (Nat.not_lt.mp room)]
        exact Nat.le_succ _
    · rw [State.handFrame_of_noCarrier f (by simpa using carrier)]
      exact Nat.le_succ _
  · rw [e, State.handFrame_opposite]
    exact Nat.le_succ _

/-- An event's notice goes to the S-port once at most (R174). -/
theorem State.raise_frames (s : State) (d : EventDetails) :
    ((s.raise d).port .s).order.length ≤ (s.port .s).order.length + 1 := by
  have toC : ∀ (t : State) (f : OutFrame), (t.handFrame .c f).port .s = t.port .s := fun t f => t.handFrame_opposite .c f
  cases phase : s.phase with
  | starting =>
    rw [State.raise_of_starting phase]
    exact Nat.le_succ _
  | serving =>
    cases enabled : s.settings.notices[d.kind.number].enabled with
    | false =>
      rw [State.raise_of_disabled phase enabled]
      exact Nat.le_succ _
    | true =>
      rw [State.raise_of_enabled phase enabled]
      cases s.settings.notices[d.kind.number].destination with
      | shop => exact State.handFrame_frames _ .s _
      | chain =>
        rw [destinationPorts, List.foldl_cons, List.foldl_nil, toC]
        exact Nat.le_succ _
      | both =>
        rw [destinationPorts, List.foldl_cons, List.foldl_cons, List.foldl_nil, toC]
        exact State.handFrame_frames _ .s _

/-! ## At most so many frames and writes -/

/-- `t` comes of `s` by work on lane `l` that hands at most `n` frames to the S-port and adds at most `w` writes to the
queue; it raises no LOG-HIGH. -/
structure Within (l : LaneId) (n w : Nat) (s t : State) : Prop where
  carrier : ∀ p, (t.port p).carrier = (s.port p).carrier
  order : (s.port .s).order <+: (t.port .s).order
  frames : (t.port .s).order.length ≤ (s.port .s).order.length + n
  writes : t.persist.unwritten.length ≤ s.persist.unwritten.length + w
  latched : latchKept s t
  logHigh : t.events[12] = s.events[12]
  others : otherLanes s t l
  lane : (t.lane l).steady = (s.lane l).steady

theorem EventKind.number_ne_logHigh {k : EventKind} (h : k ≠ .logHigh) : k.number ≠ 12 := by
  revert h
  cases k <;> decide

namespace Within

variable {l : LaneId} {n m w v : Nat} {s t u : State}

theorem refl (l : LaneId) (s : State) : Within l 0 0 s s :=
  ⟨fun _ => rfl, List.prefix_rfl, le_rfl, le_rfl, fun _ h => h, rfl, fun _ _ => rfl, rfl⟩

theorem trans (h : Within l n w s t) (k : Within l m v t u) : Within l (n + m) (w + v) s u where
  carrier p := (k.carrier p).trans (h.carrier p)
  order := h.order.trans k.order
  frames := by have := h.frames; have := k.frames; omega
  writes := by have := h.writes; have := k.writes; omega
  latched := latchKept_trans h.latched k.latched
  logHigh := k.logHigh.trans h.logHigh
  others j ne := (k.others j ne).trans (h.others j ne)
  lane := k.lane.trans h.lane

theorem mono (h : Within l n w s t) (frames : n ≤ m) (writes : w ≤ v) : Within l m v s t :=
  { h with
    frames := h.frames.trans (Nat.add_le_add_left frames _)
    writes := h.writes.trans (Nat.add_le_add_left writes _) }

/-- A change of one lane that keeps what is steady of it. -/
theorem modLane (s : State) (l : LaneId) (f : LaneRecord → LaneRecord) (keeps : ∀ r, (f r).steady = r.steady) :
    Within l 0 0 s (s.modLane l f) where
  carrier _ := rfl
  order := List.prefix_rfl
  frames := le_rfl
  writes := le_rfl
  latched := fun _ h => h
  logHigh := rfl
  others _ ne := State.lane_modLane_ne s f ne
  lane := by rw [State.lane_modLane_same]; exact keeps _

theorem handFrame (l : LaneId) (s : State) (p : Port) (f : OutFrame) : Within l 1 0 s (s.handFrame p f) where
  carrier q := State.handFrame_carrier s p q f
  order := s.handFrame_order_prefix p .s f
  frames := s.handFrame_frames p f
  writes := by rw [State.handFrame_persist]; exact le_rfl
  latched := latchKept_of_events (State.handFrame_events s p f)
  logHigh := by rw [State.handFrame_events]
  others k _ := State.lane_of_lanes_eq (State.handFrame_lanes s p f) k
  lane := by rw [State.lane_of_lanes_eq (State.handFrame_lanes s p f)]

theorem replyInHand (l : LaneId) (s : State) (k : LaneId) (f : LaneFrame) (c : TillContent) (key : Option Key) :
    Within l 1 0 s (s.replyInHand k f c key) := handFrame l s .s _

theorem raise (l : LaneId) (s : State) (d : EventDetails) (other : d.kind ≠ .logHigh) : Within l 1 0 s (s.raise d) where
  carrier p := State.raise_carrier s d p
  order := s.raise_order_prefix d .s
  frames := s.raise_frames d
  writes := by rw [State.raise_persist]; exact le_rfl
  latched := latchKept_raise s d
  logHigh := by
    rw [State.raise_events]
    exact Vector.getElem_set_ne _ _ (fun h => EventKind.number_ne_logHigh other (Fin.ext h))
  others k _ := State.raise_lane s d k
  lane := by rw [State.raise_lane]

theorem setWaiting (l : LaneId) (s : State) (ws : List Write) (more : ws.length ≤ s.persist.waiting.length + w) :
    Within l 0 w s (s.setWaiting ws) := by
  obtain ⟨q, d, form⟩ := s.setWaiting_form ws
  have unwritten := s.unwritten_setWaiting ws
  rw [form] at unwritten ⊢
  exact ⟨fun _ => rfl, List.prefix_rfl, le_rfl, by
    change q.unwritten.length ≤ _
    have total : q.unwritten.length = s.persist.current.toList.length + ws.length := by
      rw [show q.unwritten = _ from unwritten, List.length_append]
    rw [total, PersistQueue.length_unwritten]
    omega, fun _ h => h, rfl, fun _ _ => rfl, rfl⟩

theorem enqueue (s : State) (join : List Write → List Write) (failed : State → State)
    (one : ∀ ws, (join ws).length = ws.length + 1) (fails : Within l n 1 s (failed s)) :
    Within l n 1 s (s.enqueue join failed) := by
  unfold State.enqueue
  split
  · exact fails
  · exact (setWaiting l s _ (one _).le).mono (Nat.zero_le n) le_rfl

theorem queueLaneState (l : LaneId) (s : State) (k : LaneId) : Within l 1 1 s (s.queueLaneState k) := by
  have fails : Within l 1 1 s (s.writeFailed .laneState (.lane k)) :=
    (raise l s (.persistFail .write (some .laneState) (some (.lane k))) nofun).mono le_rfl (Nat.zero_le 1)
  unfold State.queueLaneState State.replaceOrAppend
  split
  · rename_i ws replaced
    have len := replaceLast_length _ _ _ _ _ replaced
    refine (setWaiting l s ws.reverse (w := 1) ?_).mono (Nat.zero_le 1) le_rfl
    rw [List.length_reverse, len, List.length_reverse]
    exact Nat.le_succ _
  · exact enqueue s _ _ (fun ws => by simp) fails

theorem refuseAtHand (s : State) (l : LaneId) (f : LaneFrame) (reason : TillReason) :
    Within l 1 0 s (s.refuseAtHand l f reason) :=
  (replyInHand l s l f _ _).trans
    (modLane _ l (fun r => { r with counters := r.counters.refuse reason }) (fun r => r.steady_refused reason))

theorem clearMailbox (s : State) (l : LaneId) : Within l 1 0 s (s.clearMailbox l) := by
  unfold State.clearMailbox
  split
  · exact (refl l s).mono (Nat.zero_le 1) le_rfl
  · split
    · exact (modLane s l (fun r => { r with mailbox := none }) (fun _ => rfl)).trans (refuseAtHand _ l _ _)
    · exact (refl l s).mono (Nat.zero_le 1) le_rfl

/-- A change of state with its event: the notice, the reply to the mailbox's frame and the failed write's notice. -/
theorem changeState (s : State) (l : LaneId) (st : LaneState) (d : EventDetails) (other : d.kind ≠ .logHigh) :
    Within l 3 1 s (s.changeState l st (some d)) :=
  ((modLane s l (fun r => { r with config := { r.config with state := st } }) (fun _ => rfl)).trans
    (raise l _ d other)).trans ((clearMailbox _ l).trans (queueLaneState l _ l))

theorem faultLane (s : State) (l : LaneId) (c : FaultCause) : Within l 3 1 s (s.faultLane l c) := by
  cases h : staysAtFault (s.lane l).config.state with
  | true =>
    rw [s.faultLane_of_stays l c h]
    exact (refl l s).mono (Nat.zero_le 3) (Nat.zero_le 1)
  | false =>
    rw [s.faultLane_of_live l c h]
    exact changeState s l _ _ nofun

theorem ceilingFailed (s : State) (l : LaneId) : Within l 4 1 s (s.ceilingFailed l) :=
  (raise l s (.persistFail .write (some .ceiling) (some (.lane l))) nofun).trans
    ((modLane _ l (fun r => { r with advancePending := false }) (fun _ => rfl)).trans (faultLane _ l .ceiling))

theorem advanceTest (s : State) (l : LaneId) : Within l 4 1 s (s.advanceTest l) := by
  unfold State.advanceTest
  split
  · exact (modLane s l (fun r => { r with advancePending := true }) (fun _ => rfl)).trans
      (enqueue _ _ (fun t => t.ceilingFailed l) (joinCeiling_length _) (ceilingFailed _ l))
  · exact (refl l s).mono (Nat.zero_le 4) (Nat.zero_le 1)

theorem warnTake (s : State) (l : LaneId) (c : Nat) : Within l 1 0 s (s.warnTake l c) := by
  unfold State.warnTake
  split
  · exact raise l s (.counterWarn l (c + 1)) nofun
  · exact (refl l s).mono (Nat.zero_le 1) le_rfl

theorem limitTake (s : State) (l : LaneId) (c : Nat) : Within l 3 1 s (s.limitTake l c) := by
  unfold State.limitTake
  split
  · exact changeState s l _ _ nofun
  · exact (refl l s).mono (Nat.zero_le 3) (Nat.zero_le 1)

end Within

/-- The counter has risen; what follows from it is still to come (R51). -/
def State.risen (s : State) (l : LaneId) : State := s.modLane l (fun r => { r with counter := r.counter + 1 })

theorem State.takeCounter_eq (s : State) (l : LaneId) : s.takeCounter l =
    ((s.lane l).counter, (((s.risen l).warnTake l (s.lane l).counter).limitTake l (s.lane l).counter).advanceTest l) := rfl

/-- A take of a value may hand 8 frames to the S-port and queue 2 writes. -/
theorem Within.takeCounter (s : State) (l : LaneId) : Within l 8 2 (s.risen l) (s.takeCounter l).2 :=
  ((Within.warnTake _ l _).trans (Within.limitTake _ l _)).trans (Within.advanceTest _ l)

theorem State.lane_risen (s : State) (l : LaneId) : (s.risen l).lane l = { s.lane l with counter := (s.lane l).counter + 1 } :=
  State.lane_modLane_same s l _

end Sys2Proof.Machine
end

section
/-! SUPPORT. A wrap's counter value and its sequence (R33, R51, R52, R54, R55, R65). -/

namespace Sys2Proof.Machine

open Sys2Proof.Safety

/-! ## The advance at a queue with room (R52) -/

theorem State.requestAdvance_of_room {s : State} (l : LaneId) (room : s.persist.full = false) : ∃ q d,
    s.requestAdvance l joinCeiling =
      { s.modLane l (fun r => { r with advancePending := true }) with persist := q, store := d } ∧
    s.advanceWrite l ∈ q.unwritten := by
  set a := s.modLane l (fun r => { r with advancePending := true }) with ha
  have queued : s.requestAdvance l joinCeiling = a.setWaiting (joinCeiling (s.advanceWrite l) s.persist.waiting) :=
    if_neg (by simp [room])
  obtain ⟨q, d, form⟩ := a.setWaiting_form (joinCeiling (s.advanceWrite l) s.persist.waiting)
  have unwritten := a.unwritten_setWaiting (joinCeiling (s.advanceWrite l) s.persist.waiting)
  rw [form] at unwritten
  refine ⟨q, d, queued.trans form, ?_⟩
  rw [show q.unwritten = _ from unwritten]
  exact List.mem_append_right _ ((joinCeiling_perm _ _).mem_iff.mpr List.mem_cons_self)

/-- The advance test at a queue with room: the lane's settings stand, and a wanted advance is pending and queued. -/
theorem State.advanceTest_of_room {s : State} (l : LaneId) (room : s.persist.full = false) :
    ((s.advanceTest l).lane l).config = (s.lane l).config ∧
    ((s.lane l).wantsAdvance = true → ((s.advanceTest l).lane l).advancePending = true ∧
      s.advanceWrite l ∈ (s.advanceTest l).persist.unwritten) := by
  obtain ⟨q, d, form, mem⟩ := State.requestAdvance_of_room l room
  have lane : (s.requestAdvance l joinCeiling).lane l = { s.lane l with advancePending := true } := by
    rw [form]
    exact State.lane_modLane_same s l (fun r => { r with advancePending := true })
  unfold State.advanceTest
  cases wants : (s.lane l).wantsAdvance with
  | false =>
    rw [if_neg Bool.false_ne_true]
    exact ⟨rfl, fun h => absurd h Bool.false_ne_true⟩
  | true =>
    rw [if_pos rfl, lane]
    exact ⟨rfl, fun _ => ⟨rfl, by rw [form]; exact mem⟩⟩

theorem LaneRecord.wantsAdvance_iff (r : LaneRecord) : r.wantsAdvance = true ↔
    r.advancePending = false ∧ r.config.state ≠ .unused ∧ r.config.state ≠ .faulted .ceiling ∧
      r.config.ceiling < Config.counterEnd ∧ r.config.ceiling ≤ r.counter + Config.advanceMargin := by
  simp only [LaneRecord.wantsAdvance, Bool.and_eq_true, Bool.not_eq_true', decide_eq_true_eq, and_assoc]

/-! ## The take (R33, R51, R54, R55) -/

theorem State.lane_warnTake (s : State) (l : LaneId) (c : Nat) (k : LaneId) : (s.warnTake l c).lane k = s.lane k := by
  unfold State.warnTake
  split
  · exact State.raise_lane _ _ k
  · rfl

theorem State.warnTake_persist (s : State) (l : LaneId) (c : Nat) : (s.warnTake l c).persist = s.persist := by
  unfold State.warnTake
  split
  · exact State.raise_persist _ _
  · rfl

theorem State.lane_limitTake (s : State) (l : LaneId) (c : Nat) :
    (s.limitTake l c).lane l = s.lane l ∨ (s.limitTake l c).lane l = (s.lane l).entered .exhausted := by
  unfold State.limitTake
  split
  · exact .inr (by rw [State.lane_changeState, if_pos rfl])
  · exact .inl rfl

/-- The last payment value moves a READY lane into EXHAUSTED, with its event (R33). -/
theorem State.limitTake_of_last {s : State} {l : LaneId} {c : Nat} (last : c = Config.paymentLimit)
    (ready : (s.lane l).config.state = .ready) :
    ((s.limitTake l c).lane l).config.state = .exhausted ∧ (s.limitTake l c).events[3].latched = true := by
  unfold State.limitTake
  rw [if_pos ⟨last, ready⟩]
  exact ⟨by rw [State.lane_changeState, if_pos rfl, LaneRecord.entered_config],
    (s.changeState_latched l .exhausted (.laneExhausted l (c + 1))).2⟩

/-- A take leaves of the lane all that is steady, but for the counter. -/
theorem State.takeCounter_steady (s : State) (l : LaneId) :
    ((s.takeCounter l).2.lane l).steady = { (s.lane l).steady with counter := (s.lane l).counter + 1 } := by
  rw [(Within.takeCounter s l).lane, State.lane_risen]
  rfl

theorem State.takeCounter_counter (s : State) (l : LaneId) :
    ((s.takeCounter l).2.lane l).counter = (s.lane l).counter + 1 :=
  congrArg LaneRecord.counter (s.takeCounter_steady l)

theorem State.otherLanes_takeCounter (s : State) (l : LaneId) : otherLanes s (s.takeCounter l).2 l := fun k ne =>
  ((Within.takeCounter s l).others k ne).trans (State.lane_modLane_ne s _ ne)

theorem takeCounter_acts (l : LaneId) (s t : State) (is : t = (s.takeCounter l).2) :
    (s.takeCounter l).1 = (s.lane l).counter ∧ (t.lane l).counter = (s.lane l).counter + 1 ∧ otherLanes s t l ∧
    (t.lane l).config.ceiling = (s.lane l).config.ceiling ∧ workKept s t ∧ chainKept s t ∧ standingTables s t ∧
    ((s.lane l).counter = 4194047 → (s.lane l).config.state = .ready → s.persist.unwritten.length < 4095 →
      (t.lane l).config.state = .exhausted ∧ t.events[3].latched = true) ∧
    ((s.lane l).counter = 4194303 - s.settings.warnMargin → t.events[2].latched = true) ∧
    ((s.lane l).advancePending = false → (s.lane l).config.state ≠ .unused →
      (s.lane l).config.state ≠ .faulted .ceiling → (s.lane l).config.ceiling < 4194304 →
      (s.lane l).config.ceiling ≤ (s.lane l).counter + 1 + 64 → s.persist.unwritten.length < 4095 →
      (t.lane l).advancePending = true ∧
      .ceiling l (s.lane l).config.base (s.lane l).config.baseGen
        (min ((s.lane l).config.ceiling + 512) 4194304) false ∈ t.persist.unwritten) := by
  subst is
  have sans := s.sansLanes_takeCounter l
  set a := (s.risen l).warnTake l (s.lane l).counter with ha
  set b := a.limitTake l (s.lane l).counter with hb
  have taken : (s.takeCounter l).2 = b.advanceTest l := by rw [State.takeCounter_eq]
  have lane_a : a.lane l = { s.lane l with counter := (s.lane l).counter + 1 } := by
    rw [ha, State.lane_warnTake, State.lane_risen]
  have limit := Within.limitTake a l (s.lane l).counter
  have after := Within.advanceTest b l
  have room : s.persist.unwritten.length < 4095 → b.persist.full = false := by
    intro few
    have same : a.persist = s.persist := by
      rw [ha, State.warnTake_persist]
      rfl
    rw [PersistQueue.full_eq_false_iff]
    have more := limit.writes
    rw [same] at more
    exact Nat.lt_of_le_of_lt more (Nat.add_lt_add_right few 1)
  refine ⟨rfl, s.takeCounter_counter l, s.otherLanes_takeCounter l,
    congrArg (fun r => r.config.ceiling) (s.takeCounter_steady l), workKept_of_lanes sans, chainKept_of_lanes sans,
    standingTables_of_lanes sans, fun last ready few => ?_, fun warn => ?_, fun idle used sound below near few => ?_⟩
  · obtain ⟨exhausted, latched⟩ := State.limitTake_of_last (s := a) (l := l) last (by rw [lane_a]; exact ready)
    rw [taken, (State.advanceTest_of_room l (room few)).1]
    exact ⟨exhausted, after.latched 3 latched⟩
  · have passes : (s.lane l).counter = Config.counterMax - (s.risen l).settings.warnMargin := warn
    have warned : a.events[2].latched = true := by
      rw [ha, State.warnTake, if_pos passes]
      exact State.raise_latched _ (.counterWarn l _)
    rw [taken]
    exact after.latched 2 (limit.latched 2 warned)
  · have lane_b : (b.lane l).advancePending = false ∧ (b.lane l).config.state ≠ .unused ∧
        (b.lane l).config.state ≠ .faulted .ceiling := by
      rcases State.lane_limitTake a l (s.lane l).counter with h | h
      · rw [hb, h, lane_a]
        exact ⟨idle, used, sound⟩
      · rw [hb, h, LaneRecord.entered_advancePending, LaneRecord.entered_config, lane_a]
        exact ⟨idle, nofun, nofun⟩
    obtain ⟨idle_b, used_b, sound_b⟩ := lane_b
    have steady : (b.lane l).steady = { (s.lane l).steady with counter := (s.lane l).counter + 1 } :=
      limit.lane.trans (by rw [lane_a]; rfl)
    have counter_b : (b.lane l).counter = (s.lane l).counter + 1 := congrArg LaneRecord.counter steady
    have base : (b.lane l).config.base = (s.lane l).config.base := congrArg (fun r => r.config.base) steady
    have gen : (b.lane l).config.baseGen = (s.lane l).config.baseGen := congrArg (fun r => r.config.baseGen) steady
    have ceiling : (b.lane l).config.ceiling = (s.lane l).config.ceiling := congrArg (fun r => r.config.ceiling) steady
    have wants : (b.lane l).wantsAdvance = true := by
      rw [LaneRecord.wantsAdvance_iff, ceiling, counter_b]
      exact ⟨idle_b, used_b, sound_b, below, near⟩
    obtain ⟨pending, queued⟩ := (State.advanceTest_of_room l (room few)).2 wants
    have write : b.advanceWrite l = .ceiling l (s.lane l).config.base (s.lane l).config.baseGen
        (min ((s.lane l).config.ceiling + 512) 4194304) false := by
      rw [← base, ← gen, ← ceiling]
      rfl
    rw [taken, ← write]
    exact ⟨pending, queued⟩

/-! ## The sequence (R65) -/

theorem epochNumber_toNat {epoch r : Nat} (small : epoch < 1024) (below : r < Config.runningNumbers) :
    (epochNumber epoch r).toNat = epoch * Config.runningNumbers + r := by
  have size : Config.runningNumbers = 4194304 := rfl
  rw [epochNumber, BitVec.toNat_ofNat]
  refine Nat.mod_eq_of_lt ?_
  rw [size] at below ⊢
  omega

/-- The search ends at a free number, or every number it looked at is in use (R65). -/
theorem findRunning_spec (used : List ChainSeq) (epoch k r : Nat) (below : r < Config.runningNumbers) :
    findRunning used epoch k r < Config.runningNumbers ∧
    (epochNumber epoch (findRunning used epoch k r) ∉ used ∨
      ∀ j < k, epochNumber epoch ((r + j) % Config.runningNumbers) ∈ used) := by
  have positive : 0 < Config.runningNumbers := Nat.lt_of_le_of_lt (Nat.zero_le r) below
  induction k generalizing r with
  | zero => exact ⟨below, .inr (fun j h => absurd h (Nat.not_lt_zero j))⟩
  | succ k ih =>
    unfold findRunning
    split
    · rename_i taken
      obtain ⟨found, free | all⟩ := ih ((r + 1) % Config.runningNumbers) (Nat.mod_lt _ positive)
      · exact ⟨found, .inl free⟩
      refine ⟨found, .inr (fun j h => ?_)⟩
      cases j with
      | zero => rwa [Nat.add_zero, Nat.mod_eq_of_lt below]
      | succ j =>
        have next := all j (Nat.lt_of_succ_lt_succ h)
        rwa [Nat.mod_add_mod, Nat.add_assoc, Nat.add_comm 1 j] at next
    · rename_i free
      exact ⟨below, .inl free⟩

/-- The numbers that a search looks at are distinct, while they are fewer than all. -/
theorem epochNumbers_nodup {epoch r k : Nat} (small : epoch < 1024) (few : k ≤ Config.runningNumbers) :
    ((List.range k).map (fun j => epochNumber epoch ((r + j) % Config.runningNumbers))).Nodup := by
  by_cases positive : 0 < Config.runningNumbers
  · refine List.Nodup.map_on (fun i hi j hj same => ?_) List.nodup_range
    have lt_i := Nat.lt_of_lt_of_le (List.mem_range.mp hi) few
    have lt_j := Nat.lt_of_lt_of_le (List.mem_range.mp hj) few
    have values := congrArg BitVec.toNat same
    rw [epochNumber_toNat small (Nat.mod_lt _ positive), epochNumber_toNat small (Nat.mod_lt _ positive)] at values
    have mods : r + i ≡ r + j [MOD Config.runningNumbers] := Nat.add_left_cancel values
    exact Nat.ModEq.eq_of_lt_of_lt (Nat.ModEq.add_left_cancel' r mods) lt_i lt_j
  · have none : k = 0 := Nat.le_zero.mp (few.trans (Nat.not_lt.mp positive))
    subst none
    exact List.nodup_nil

/-- At most two sequences stand in an entry (R65). -/
theorem length_flatMap_le_two {α : Type} (f : α → List ChainSeq) (xs : List α) (two : ∀ x, (f x).length ≤ 2) :
    (xs.flatMap f).length ≤ xs.length * 2 := by
  induction xs with
  | nil => exact le_rfl
  | cons x xs ih =>
    rw [List.flatMap_cons, List.length_append, List.length_cons, Nat.succ_mul, Nat.add_comm]
    exact Nat.add_le_add ih (two x)

theorem length_option_toList_le {α : Type} (x : Option α) : x.toList.length ≤ 1 := by
  cases x <;> simp

theorem State.usedSeqs_length {s : State} (log : s.log.length ≤ 1024) : s.usedSeqs.length ≤ 2368 := by
  have exchanges : s.exchanges.toList.length = 160 := Vector.length_toList
  unfold State.usedSeqs
  rw [List.length_append]
  refine (Nat.add_le_add (length_flatMap_le_two _ _ (fun x => ?_)) (length_flatMap_le_two _ _ (fun e => ?_))).trans ?_
  · cases x with
    | none => exact Nat.zero_le 2
    | some e => exact Nat.succ_le_succ (length_option_toList_le e.orig)
  · exact Nat.succ_le_succ (length_option_toList_le e.orig)
  · omega

/-- The sequence assigned is in no entry's use and carries the epoch (R65). -/
theorem State.assignSeq_spec {s : State} (log : s.log.length ≤ 1024) (small : s.epoch < 1024)
    (below : s.engine.running < Config.runningNumbers) :
    s.assignSeq.1 ∉ s.usedSeqs ∧ s.assignSeq.1.toNat / Config.runningNumbers = s.epoch := by
  have few : s.usedSeqs.length + 1 ≤ Config.runningNumbers :=
    (Nat.succ_le_succ (State.usedSeqs_length log)).trans (by decide)
  obtain ⟨found, outcome⟩ := findRunning_spec s.usedSeqs s.epoch (s.usedSeqs.length + 1) s.engine.running below
  refine ⟨outcome.resolve_right (fun all => ?_), ?_⟩
  · have distinct := epochNumbers_nodup (r := s.engine.running) small few
    have within : ((List.range (s.usedSeqs.length + 1)).map
        (fun j => epochNumber s.epoch ((s.engine.running + j) % Config.runningNumbers))) ⊆ s.usedSeqs := by
      intro n hn
      obtain ⟨j, hj, rfl⟩ := List.mem_map.mp hn
      exact all j (List.mem_range.mp hj)
    have fits := (distinct.subperm within).length_le
    rw [List.length_map, List.length_range] at fits
    exact Nat.not_succ_le_self _ fits
  · have value : s.assignSeq.1.toNat = s.epoch * Config.runningNumbers + _ := epochNumber_toNat small found
    rw [value, Nat.mul_comm, Nat.mul_add_div (Nat.lt_of_le_of_lt (Nat.zero_le _) below), Nat.div_eq_of_lt found,
      Nat.add_zero]

/-- Settles O39: the take's three consequences one after the other, and the search for a free sequence, which ends
because the entries use fewer than all. -/
theorem wrapTakesValueAndSequence : Obligations.WrapTakesValueAndSequence :=
  ⟨takeCounter_acts, fun _ log small below => State.assignSeq_spec log small below⟩

end Sys2Proof.Machine
end

section
/-! SUPPORT. What a wrap leaves (R48, R51, R65), and the payment that goes live (R26, R27, R67, R68, R81). -/

namespace Sys2Proof.Machine

open Sys2Proof.Safety

/-! ## The state after a wrap -/

/-- The state once a value of a lane's counter is taken and a sequence assigned (R51, R65). -/
def State.wrapped (s : State) (l : LaneId) : State := (s.takeCounter l).2.assignSeq.2

/-- A sequence depends on the entries, the log, the epoch and the running number alone. -/
theorem State.assignSeq_congr {s t : State} (exchanges : t.exchanges = s.exchanges) (log : t.log = s.log)
    (epoch : t.epoch = s.epoch) (engine : t.engine = s.engine) : t.assignSeq.1 = s.assignSeq.1 := by
  simp only [State.assignSeq, State.usedSeqs, exchanges, log, epoch, engine]

/-- What a wrap takes and makes, named by the state it starts from. -/
theorem State.wrapFor_eq (s : State) (l : LaneId) (base : LoadedKey) (kind : EnvelopeKind) (origin : Origin)
    (orig : Option ChainSeq) (clear : Bytes) : s.wrapFor l base kind origin orig clear =
      (⟨(s.lane l).counter, s.assignSeq.1, wrap kind origin base.key (s.laneIdentity l) (s.lane l).counter
        s.assignSeq.1 (orig.getD 0) clear⟩, s.wrapped l) := by
  have sans := s.sansLanes_takeCounter l
  have seq : (s.takeCounter l).2.assignSeq.1 = s.assignSeq.1 := State.assignSeq_congr (State.exchanges_of_lanes sans)
    (State.log_of_lanes sans) (State.epoch_of_lanes sans) (State.engine_of_lanes sans)
  have counter : (s.takeCounter l).1 = (s.lane l).counter := rfl
  unfold State.wrapFor
  dsimp only
  rw [seq, counter]
  rfl

/-- Beyond the take, a wrap writes the engine's running number. -/
theorem State.wrapped_form (s : State) (l : LaneId) : ∃ n, s.wrapped l = { (s.takeCounter l).2 with
    engine := { (s.takeCounter l).2.engine with running := n } } := ⟨_, rfl⟩

/-- A wrap hands 8 frames to the S-port at most, and queues 2 writes at most. -/
theorem Within.wrapped (s : State) (l : LaneId) : Within l 8 2 (s.risen l) (s.wrapped l) := by
  obtain ⟨n, form⟩ := s.wrapped_form l
  have take := Within.takeCounter s l
  rw [form]
  generalize (s.takeCounter l).2 = t at take
  exact { take with }

theorem State.wrapped_lane (s : State) (l k : LaneId) : (s.wrapped l).lane k = (s.takeCounter l).2.lane k := by
  obtain ⟨n, form⟩ := s.wrapped_form l
  rw [form]
  generalize (s.takeCounter l).2 = t
  rfl

theorem State.otherLanes_wrapped (s : State) (l : LaneId) : otherLanes s (s.wrapped l) l := fun k ne => by
  rw [State.wrapped_lane]
  exact s.otherLanes_takeCounter l k ne

theorem State.wrapped_carrier (s : State) (l : LaneId) (p : Port) :
    ((s.wrapped l).port p).carrier = (s.port p).carrier := (Within.wrapped s l).carrier p

/-- What a wrap leaves as it was, the engine's running number apart. -/
structure Unworked (s t : State) : Prop where
  exchanges : t.exchanges = s.exchanges
  log : t.log = s.log
  chain : chainKept s t
  tables : standingTables s t
  nextStamp : t.nextStamp = s.nextStamp
  nextSerial : t.nextSerial = s.nextSerial
  clock : t.clock = s.clock

theorem Unworked.of_lanes {s t : State} (h : t.sansLanes = s.sansLanes) : Unworked s t where
  exchanges := State.exchanges_of_lanes h
  log := State.log_of_lanes h
  chain := chainKept_of_lanes h
  tables := standingTables_of_lanes h
  nextStamp := State.nextStamp_of_lanes h
  nextSerial := State.nextSerial_of_lanes h
  clock := State.clock_of_lanes h

theorem Unworked.trans {s t u : State} (h : Unworked s t) (k : Unworked t u) : Unworked s u where
  exchanges := k.exchanges.trans h.exchanges
  log := k.log.trans h.log
  chain := chainKept_trans h.chain k.chain
  tables := ⟨k.tables.1.trans h.tables.1, k.tables.2.1.trans h.tables.2.1, k.tables.2.2.trans h.tables.2.2⟩
  nextStamp := k.nextStamp.trans h.nextStamp
  nextSerial := k.nextSerial.trans h.nextSerial
  clock := k.clock.trans h.clock

theorem Unworked.wrapped (s : State) (l : LaneId) : Unworked s (s.wrapped l) := by
  obtain ⟨n, form⟩ := s.wrapped_form l
  have take := Unworked.of_lanes (s.sansLanes_takeCounter l)
  rw [form]
  generalize (s.takeCounter l).2 = t at take
  exact { take with }

theorem Unworked.freeEntry {s t : State} (h : Unworked s t) : t.freeEntry = s.freeEntry := by
  simp only [State.freeEntry, State.exchange, h.exchanges]

/-! ## An envelope that goes live (R68, R107) -/

/-- The Send Queue once an envelope has been placed: it joins where the C-port has carrier. -/
def State.queued (s : State) (e : Envelope) : List Envelope :=
  if (s.port .c).carrier = true then s.sendQueue ++ [e] else s.sendQueue

theorem State.queued_cases (s : State) (e : Envelope) :
    ((s.port .c).carrier = true → s.queued e = s.sendQueue ++ [e]) ∧
    ((s.port .c).carrier = false → s.queued e = s.sendQueue) :=
  ⟨fun h => if_pos h, fun h => if_neg (by simp [h])⟩

/-- A wrapped message placed in the Send Queue: beyond what the wrap wrote, the ports and the Send Queue. -/
theorem State.placeEnvelope_wrapped (s : State) (l : LaneId) (e : Envelope) : ∃ ps,
    (s.wrapped l).placeEnvelope e = { s.wrapped l with ports := ps, sendQueue := s.queued e } ∧
    (∀ p, (ps.at p).carrier = (s.port p).carrier) ∧ ps.at .s = (s.wrapped l).port .s := by
  obtain ⟨ps, form⟩ := (s.wrapped l).placeEnvelope_form e
  have queue : (s.wrapped l).sendQueue = s.sendQueue := (Unworked.wrapped s l).chain.1
  have carrier := (s.wrapped l).placeEnvelope_carrier e
  have portS := (s.wrapped l).placeEnvelope_portS e
  rw [State.wrapped_carrier, queue] at form
  rw [form] at carrier portS
  exact ⟨ps, form, fun p => (carrier p).trans (s.wrapped_carrier l p), portS⟩

/-! ## A state that has sent live (R68, R71, R76) -/

/-- What a job that sends live writes after its wrap: the ports and the Send Queue, an exchange entry, and its lane. -/
def State.sentLive (w : State) (ps : PerPort PortState) (queue : List Envelope) (i : EntryId) (e : Exchange) (stamp : Nat)
    (l : LaneId) (g : LaneRecord → LaneRecord) : State :=
  State.modLane { w with
    ports := ps
    sendQueue := queue
    exchanges := w.exchanges.set i (some e)
    nextStamp := stamp } l g

section

variable (w : State) (ps : PerPort PortState) (queue : List Envelope) (i : EntryId) (e : Exchange) (stamp : Nat)
  (l : LaneId) (g : LaneRecord → LaneRecord)

theorem State.sentLive_exchange : (w.sentLive ps queue i e stamp l g).exchange i = some e :=
  w.exchange_setExchange_same i (some e)

theorem State.sentLive_others : otherEntries w (w.sentLive ps queue i e stamp l g) i :=
  fun _ ne => w.exchange_setExchange_ne (some e) ne

theorem State.sentLive_sendQueue : (w.sentLive ps queue i e stamp l g).sendQueue = queue := rfl

theorem State.sentLive_lane : (w.sentLive ps queue i e stamp l g).lane l = g (w.lane l) := State.lane_modLane_same _ l g

theorem State.sentLive_lanes : otherLanes w (w.sentLive ps queue i e stamp l g) l := fun _ ne => State.lane_modLane_ne _ g ne

theorem State.sentLive_log : (w.sentLive ps queue i e stamp l g).log = w.log := rfl

theorem State.sentLive_answers : (w.sentLive ps queue i e stamp l g).reassembly = w.reassembly ∧
    (w.sentLive ps queue i e stamp l g).answerQueue = w.answerQueue ∧
    (w.sentLive ps queue i e stamp l g).monitor = w.monitor := ⟨rfl, rfl, rfl⟩

theorem State.sentLive_tables : standingTables w (w.sentLive ps queue i e stamp l g) := ⟨rfl, rfl, rfl⟩

theorem State.sentLive_port (p : Port) : (w.sentLive ps queue i e stamp l g).port p = ps.at p := rfl

end

/-! ## The fields of a lane that stand -/

/-- What two records agree on that differ in what a change of state may write. -/
theorem LaneRecord.steady_fields {r q : LaneRecord} (h : r.steady = q.steady) : r.counter = q.counter ∧
    r.openPayment = q.openPayment ∧ r.tagFailures = q.tagFailures ∧ r.lastAccepted = q.lastAccepted ∧
    r.recent = q.recent ∧ r.counters.live = q.counters.live ∧ r.counters.reversals = q.counters.reversals ∧
    r.config.till = q.config.till :=
  ⟨(congrArg LaneRecord.counter h :), (congrArg LaneRecord.openPayment h :), (congrArg LaneRecord.tagFailures h :),
    (congrArg LaneRecord.lastAccepted h :), (congrArg LaneRecord.recent h :), (congrArg (fun x => x.counters.live) h :),
    (congrArg (fun x => x.counters.reversals) h :), (congrArg (fun x => x.config.till) h :)⟩

/-- A lane's record once a verified frame is recorded (R20, R25, R30). -/
def LaneRecord.recorded (r : LaneRecord) (f : LaneFrame) : LaneRecord := { r with
  tagFailures := 0
  lastAccepted := some f.xchg
  config := { r.config with station := learnedStation r.config f } }

/-- A lane's record once a value of its counter is taken, before what follows from it (R51). -/
def LaneRecord.counted (r : LaneRecord) : LaneRecord := { r with counter := r.counter + 1 }

theorem State.wrapped_counted (s : State) (l : LaneId) : ((s.wrapped l).lane l).steady = (s.lane l).counted.steady := by
  rw [State.wrapped_lane, State.takeCounter_steady]
  rfl

/-- A lane after a frame is recorded and a value taken. -/
theorem State.wrapped_recorded (s : State) (l : LaneId) (f : LaneFrame) :
    (((s.tagVerified l f).wrapped l).lane l).steady = ((s.lane l).recorded f).counted.steady := by
  rw [State.wrapped_counted, State.tagVerified_lane_same]
  rfl

/-! ## What a recorded frame leaves of what a wrap takes -/

theorem State.laneIdentity_tagVerified (s : State) (l : LaneId) (f : LaneFrame) :
    (s.tagVerified l f).laneIdentity l = s.laneIdentity l := by
  rw [State.laneIdentity, State.tagVerified_lane_same, State.laneIdentity]

theorem State.counter_tagVerified (s : State) (l : LaneId) (f : LaneFrame) :
    ((s.tagVerified l f).lane l).counter = (s.lane l).counter := (s.tagVerified_kept l f).1

theorem Unworked.tagVerified (s : State) (l : LaneId) (f : LaneFrame) : Unworked s (s.tagVerified l f) :=
  Unworked.of_lanes (s.sansLanes_tagVerified l f)

theorem State.otherLanes_tagVerified (s : State) (l : LaneId) (f : LaneFrame) : otherLanes s (s.tagVerified l f) l :=
  fun _ ne => State.lane_modLane_ne s _ ne

theorem State.assignSeq_tagVerified (s : State) (l : LaneId) (f : LaneFrame) :
    (s.tagVerified l f).assignSeq.1 = s.assignSeq.1 := rfl

theorem State.queued_tagVerified (s : State) (l : LaneId) (f : LaneFrame) (e : Envelope) :
    (s.tagVerified l f).queued e = s.queued e := rfl

/-- A frame recorded, then a wrap: what both leave as it was. -/
theorem Unworked.recorded (s : State) (l : LaneId) (f : LaneFrame) : Unworked s ((s.tagVerified l f).wrapped l) :=
  (Unworked.tagVerified s l f).trans (Unworked.wrapped _ l)

theorem State.otherLanes_recorded (s : State) (l : LaneId) (f : LaneFrame) :
    otherLanes s ((s.tagVerified l f).wrapped l) l := fun k ne =>
  ((s.tagVerified l f).otherLanes_wrapped l k ne).trans (s.otherLanes_tagVerified l f k ne)

/-! ## A payment that goes live (R68) -/

/-- The exchange entry of a payment that goes live (R81). -/
def State.liveEntry (s : State) (l : LaneId) (f : LaneFrame) (base : LoadedKey) (c : CardClass) : Exchange :=
  ⟨.payment, .awaiting, l, f.xchg, s.assignSeq.1, none, none, base.slot, base.gen, (s.lane l).counter, some c,
    s.after s.standIn[c].answerTimeout, false, none, s.nextStamp⟩

theorem State.liveEntry_tagVerified (s : State) (l : LaneId) (f : LaneFrame) (base : LoadedKey) (c : CardClass) :
    (s.tagVerified l f).liveEntry l f base c = s.liveEntry l f base c := by
  rw [State.liveEntry, State.counter_tagVerified]
  rfl

/-- What a payment that goes live makes of its lane, once the value is taken. -/
def LaneRecord.wentLive (r : LaneRecord) (item : RecentItem) (i : EntryId) : LaneRecord := { r with
  openPayment := some i
  recent := joinRecent r.recent item
  counters := { r.counters with live := satInc Config.count32Max r.counters.live } }

theorem State.payLive_form (s : State) (l : LaneId) (f : LaneFrame) (base : LoadedKey) (c : CardClass) (clear : Bytes)
    (i : EntryId) : ∃ ps, s.payLive l f base c clear i = (s.wrapped l).sentLive ps
      (s.queued (wrap .payment .live base.key (s.laneIdentity l) (s.lane l).counter s.assignSeq.1 0 clear)) i
      (s.liveEntry l f base c) (s.nextStamp + 1) l (fun r => r.wentLive ⟨f.xchg, s.assignSeq.1, .exchange i⟩ i) := by
  obtain ⟨ps, form, -, -⟩ := s.placeEnvelope_wrapped l
    (wrap .payment .live base.key (s.laneIdentity l) (s.lane l).counter s.assignSeq.1 0 clear)
  have stamp := (Unworked.wrapped s l).nextStamp
  refine ⟨ps, ?_⟩
  unfold State.payLive
  rw [State.wrapFor_eq]
  dsimp only [Option.getD_none]
  rw [form]
  simp only [State.countLive, State.joinRecent, State.modLane_modLane, State.allocate, stamp]
  generalize s.wrapped l = w
  rfl

/-- The row of a payment that goes live. -/
theorem State.exec_payJob_live {s : State} {l : LaneId} {f : LaneFrame} {link base : LoadedKey} {c : CardClass}
    {amount : Nat} {i : EntryId} (verified : verifiedJob s l f link (.pay base))
    (header : readHeader (decrypt link.key f.body) = some (c, amount)) (value : (s.lane l).counter ≤ 4194047)
    (up : s.monitor.state = .up) (empty : s.logCount l = 0) (free : s.freeEntry = some i) :
    exec .payJob s = .next ((s.tagVerified l f).payLive l f base c (decrypt link.key f.body) i).finishJob := by
  have counted : ((s.tagVerified l f).lane l).counter ≤ 4194047 := (s.counter_tagVerified l f).trans_le value
  have route : (s.tagVerified l f).deferral l c amount = .live := by
    rw [State.deferral_tagVerified]
    exact (s.deferral_cases l c amount).1 up empty
  rw [State.exec_payJob_of_header verified header, (State.routePay_of_value f link base c amount _ counted).2.1 i route free]

/-- Settles O40: the payment's frame is recorded, then a value and a sequence are taken, then the envelope, the entry
and the lane are written. -/
theorem payGoesLive : Obligations.PayGoesLive := by
  intro l f link base c amount i s verified header value up empty free
  obtain ⟨ps, form⟩ := (s.tagVerified l f).payLive_form l f base c (decrypt link.key f.body) i
  rw [State.liveEntry_tagVerified, State.laneIdentity_tagVerified, State.counter_tagVerified, State.assignSeq_tagVerified,
    State.queued_tagVerified] at form
  rw [State.exec_payJob_live verified header value up empty free, form]
  have left := Unworked.recorded s l f
  have others := s.otherLanes_recorded l f
  obtain ⟨counter, -, failures, accepted, recent, live, -⟩ := LaneRecord.steady_fields (s.wrapped_recorded l f)
  obtain ⟨onCarrier, onNone⟩ := s.queued_cases (wrap .payment .live base.key (s.laneIdentity l) (s.lane l).counter
    s.assignSeq.1 0 (decrypt link.key f.body))
  generalize (s.tagVerified l f).wrapped l = w at *
  generalize s.queued _ = queue at *
  refine ⟨_, rfl, ?_, ?_, ?_, ?_, ?_, ?_, ?_, ?_, ?_, ?_, ?_, State.finishJob_job _, ?_, ?_, ?_, ?_, ?_⟩
  · rw [State.finishJob_exchange, State.sentLive_exchange]
    rfl
  · intro j ne
    rw [State.finishJob_exchange, State.sentLive_others w _ _ i _ _ _ _ j ne, State.exchange, left.exchanges, State.exchange]
  · rw [State.finishJob_lane, State.sentLive_lane]
    exact counter
  · rw [State.finishJob_lane, State.sentLive_lane]
    rfl
  · rw [State.finishJob_lane, State.sentLive_lane]
    exact accepted
  · rw [State.finishJob_lane, State.sentLive_lane]
    exact failures
  · rw [State.finishJob_lane, State.sentLive_lane, LaneRecord.wentLive, recent]
    rfl
  · rw [State.finishJob_lane, State.sentLive_lane, LaneRecord.wentLive, live]
    rfl
  · intro k ne
    rw [State.finishJob_lane, State.sentLive_lanes w _ _ _ _ _ l _ k ne, others k ne]
  · intro carrier
    rw [State.finishJob_sendQueue, State.sentLive_sendQueue, onCarrier carrier]
  · intro lost
    rw [State.finishJob_sendQueue, State.sentLive_sendQueue, onNone lost]
  · rw [State.finishJob_log, State.sentLive_log, left.log]
  · rw [State.finishJob_answerQueue, (State.sentLive_answers ..).2.1, left.chain.2.2.1]
  · rw [State.finishJob_reassembly, (State.sentLive_answers ..).1, left.chain.2.1]
  · rw [State.finishJob_monitor, (State.sentLive_answers ..).2.2, left.chain.2.2.2]
  · obtain ⟨settings, standIn, slots⟩ := left.tables
    exact ⟨(State.standingTables_finishJob _).1.trans settings, (State.standingTables_finishJob _).2.1.trans standIn,
      (State.standingTables_finishJob _).2.2.trans slots⟩

end Sys2Proof.Machine
end

section
/-! SUPPORT. A wrapped message that goes to the log (R69, R71, R119, R123). -/

namespace Sys2Proof.Machine

open Sys2Proof.Safety

/-! ## The reservation of a place (R123) -/

theorem State.lane_reserveTest (s : State) (k : LogKind) (l : LaneId) : (s.reserveTest k).lane l = s.lane l :=
  State.lane_of_lanes_eq (State.lanes_of_events (s.sansEvents_reserveTest k)) l

theorem Unworked.reserveTest (s : State) (k : LogKind) : Unworked s (s.reserveTest k) :=
  Unworked.of_lanes (State.sansLanes_of_events (s.sansEvents_reserveTest k))

theorem State.reserveTest_persist (s : State) (k : LogKind) : (s.reserveTest k).persist = s.persist :=
  State.persist_of_events (s.sansEvents_reserveTest k)

/-- The reservation that brings the log to its 769th entry raises LOG-HIGH, and no other does (R123). -/
theorem State.reserveTest_logHigh (s : State) (k : LogKind) :
    (s.log.length = 768 → (s.reserveTest k).events[12].latched = true) ∧
    (s.log.length ≠ 768 → s.reserveTest k = s) := by
  unfold State.reserveTest
  refine ⟨fun high => ?_, fun low => if_neg low⟩
  have mark : s.log.length = Config.logHighMark := high
  rw [if_pos mark]
  exact s.raise_latched (.logHigh _ _)

theorem State.reserveTest_carrier (s : State) (k : LogKind) (p : Port) :
    ((s.reserveTest k).port p).carrier = (s.port p).carrier := by
  unfold State.reserveTest
  split
  · exact State.raise_carrier _ _ _
  · rfl

theorem State.reserveTest_order (s : State) (k : LogKind) : (s.port .s).order <+: ((s.reserveTest k).port .s).order ∧
    ((s.reserveTest k).port .s).order.length ≤ (s.port .s).order.length + 1 := by
  unfold State.reserveTest
  split
  · exact ⟨s.raise_order_prefix _ .s, s.raise_frames _⟩
  · exact ⟨List.prefix_rfl, Nat.le_succ _⟩

/-! ## The append write of an entry (R123) -/

theorem State.queueAppend_of_room {m : State} {older : List LogEntry} {x : LogEntry} (src : Option Mac) (till : Nat)
    (log : m.log = older ++ [x]) (before : ∀ e ∈ older, e.serial < x.serial) (room : m.persist.full = false) : ∃ q d,
    m.queueAppend x.serial src till = { m with persist := q, store := d } ∧ .append x src till ∈ q.unwritten := by
  have found : m.logEntry x.serial = some x := by
    rw [State.logEntry, log]
    exact find?_of_split (fun e he => decide_eq_false (Nat.ne_of_lt (before e he))) (decide_eq_true rfl)
  have queued : m.queueAppend x.serial src till = m.setWaiting (m.persist.waiting ++ [.append x src till]) := by
    unfold State.queueAppend
    rw [found]
    exact if_neg (by simp [room])
  obtain ⟨q, d, form⟩ := m.setWaiting_form (m.persist.waiting ++ [.append x src till])
  have unwritten := m.unwritten_setWaiting (m.persist.waiting ++ [.append x src till])
  rw [form] at unwritten
  refine ⟨q, d, queued.trans form, ?_⟩
  rw [show q.unwritten = _ from unwritten]
  exact List.mem_append_right _ (List.mem_append_right _ (List.mem_singleton.mpr rfl))

/-! ## A state that has logged a message -/

/-- An entry is the newest of the log, and its lane follows. -/
def State.entryJoined (w : State) (x : LogEntry) (l : LaneId) (g : LaneRecord → LaneRecord) : State :=
  State.modLane { w with log := w.log ++ [x], nextSerial := w.nextSerial + 1 } l g

/-- What a job that logs a message writes after its wrap and reservation: the log, its lane, and the write queued. -/
def State.logged (w : State) (x : LogEntry) (l : LaneId) (g : LaneRecord → LaneRecord) (q : PersistQueue)
    (d : PersistentStore) : State := { w.entryJoined x l g with persist := q, store := d }

theorem State.queueAppend_entryJoined {w : State} {x : LogEntry} (l : LaneId) (g : LaneRecord → LaneRecord)
    (src : Option Mac) (till : Nat) (serial : x.serial = w.nextSerial) (older : ∀ e ∈ w.log, e.serial < w.nextSerial)
    (room : w.persist.full = false) : ∃ q d,
    (w.entryJoined x l g).queueAppend w.nextSerial src till = w.logged x l g q d ∧ .append x src till ∈ q.unwritten := by
  rw [← serial] at older ⊢
  exact State.queueAppend_of_room (m := w.entryJoined x l g) src till rfl older room

section

variable (w : State) (x : LogEntry) (l : LaneId) (g : LaneRecord → LaneRecord) (q : PersistQueue) (d : PersistentStore)

theorem State.logged_log : (w.logged x l g q d).log = w.log ++ [x] := rfl

theorem State.logged_persist : (w.logged x l g q d).persist = q := rfl

theorem State.logged_lane : (w.logged x l g q d).lane l = g (w.lane l) := State.lane_modLane_same _ l g

theorem State.logged_lanes : otherLanes w (w.logged x l g q d) l := fun _ ne => State.lane_modLane_ne _ g ne

theorem State.logged_exchanges : (w.logged x l g q d).exchanges = w.exchanges := rfl

theorem State.logged_events : (w.logged x l g q d).events = w.events := rfl

theorem State.logged_chain : chainKept w (w.logged x l g q d) := ⟨rfl, rfl, rfl, rfl⟩

theorem State.logged_tables : standingTables w (w.logged x l g q d) := ⟨rfl, rfl, rfl⟩

theorem State.logged_port (p : Port) : (w.logged x l g q d).port p = w.port p := rfl

end

/-! ## A payment that goes to the log (R69, R119) -/

/-- The log entry of a deferred payment (R123). -/
def State.deferredEntry (s : State) (l : LaneId) (f : LaneFrame) (base : LoadedKey) (c : CardClass) (amount : Nat)
    (clear : Bytes) (p : PlaceId) : LogEntry :=
  ⟨p, l, .payment, .queued, false, s.assignSeq.1, none, none, (s.lane l).counter, base.slot, base.gen, some c,
    some amount, f.xchg, 0, wrap .payment .deferred base.key (s.laneIdentity l) (s.lane l).counter s.assignSeq.1 0 clear,
    s.nextSerial, false⟩

/-- What a payment that goes to the log makes of its lane, once the value is taken. -/
def LaneRecord.deferred (r : LaneRecord) (item : RecentItem) : LaneRecord := { r with recent := joinRecent r.recent item }

/-- The reservation leaves what a wrap takes. -/
theorem State.wrapFor_reserveTest (s : State) (k : LogKind) (l : LaneId) (base : LoadedKey) (kind : EnvelopeKind)
    (origin : Origin) (orig : Option ChainSeq) (clear : Bytes) :
    (s.reserveTest k).wrapFor l base kind origin orig clear =
      (⟨(s.lane l).counter, s.assignSeq.1, wrap kind origin base.key (s.laneIdentity l) (s.lane l).counter
        s.assignSeq.1 (orig.getD 0) clear⟩, (s.reserveTest k).wrapped l) := by
  have sans := s.sansEvents_reserveTest k
  have seq : (s.reserveTest k).assignSeq.1 = s.assignSeq.1 := State.assignSeq_congr (State.exchanges_of_events sans)
    (State.log_of_events sans) (State.epoch_of_events sans) (State.engine_of_events sans)
  rw [State.wrapFor_eq, seq, State.laneIdentity, State.lane_reserveTest, State.laneIdentity]

/-- A wrap after the reservation of a place: what both leave as it was. -/
theorem Unworked.reserved (s : State) (k : LogKind) (l : LaneId) : Unworked s ((s.reserveTest k).wrapped l) :=
  (Unworked.reserveTest s k).trans (Unworked.wrapped _ l)

theorem State.payToLog_form (s : State) (l : LaneId) (f : LaneFrame) (base : LoadedKey) (c : CardClass) (amount : Nat)
    (clear : Bytes) (p : PlaceId) : s.payToLog l f base c amount clear p =
      (((s.reserveTest .payment).wrapped l).entryJoined (s.deferredEntry l f base c amount clear p) l
        (fun r => r.deferred ⟨f.xchg, s.assignSeq.1, .log p⟩)).queueAppend
          ((s.reserveTest .payment).wrapped l).nextSerial (some f.src) f.till := by
  unfold State.payToLog
  rw [State.wrapFor_reserveTest]
  have serial := (Unworked.reserved s .payment l).nextSerial
  generalize (s.reserveTest .payment).wrapped l = w at serial
  rw [State.deferredEntry, ← serial]
  rfl

/-- The queue has room for an append after a wrap, where it holds fewer than 4,094 writes (R179). -/
theorem State.wrapped_room {s : State} (l : LaneId) (few : s.persist.unwritten.length < 4094) :
    (s.wrapped l).persist.full = false := by
  rw [PersistQueue.full_eq_false_iff]
  exact Nat.lt_of_le_of_lt (Within.wrapped s l).writes (Nat.add_lt_add_right few 2)

/-- The row of a payment that goes to the log. -/
theorem State.exec_payJob_logged {s : State} {l : LaneId} {f : LaneFrame} {link base : LoadedKey} {c : CardClass}
    {amount : Nat} {p : PlaceId} (verified : verifiedJob s l f link (.pay base))
    (header : readHeader (decrypt link.key f.body) = some (c, amount)) (value : (s.lane l).counter ≤ 4194047)
    (blocked : s.monitor.state ≠ .up ∨ s.logCount l ≠ 0) (stands : standsIn s l c amount) (free : s.freePlace = some p) :
    exec .payJob s = .next ((s.tagVerified l f).payToLog l f base c amount (decrypt link.key f.body) p).finishJob := by
  have counted : ((s.tagVerified l f).lane l).counter ≤ 4194047 := (s.counter_tagVerified l f).trans_le value
  have route : (s.tagVerified l f).deferral l c amount = .toLog := by
    rw [State.deferral_tagVerified]
    exact (s.deferral_cases l c amount).2.1 blocked stands
  rw [State.exec_payJob_of_header verified header, (State.routePay_of_value f link base c amount _ counted).2.2.2 p route free]

theorem State.deferredEntry_tagVerified (s : State) (l : LaneId) (f : LaneFrame) (base : LoadedKey) (c : CardClass)
    (amount : Nat) (clear : Bytes) (p : PlaceId) :
    (s.tagVerified l f).deferredEntry l f base c amount clear p = s.deferredEntry l f base c amount clear p := by
  rw [State.deferredEntry, State.counter_tagVerified, State.laneIdentity_tagVerified, State.assignSeq_tagVerified]
  rfl

/-- Settles O41: the payment's frame is recorded, a place reserved, a value and a sequence taken, and the entry joins the
log and the queue. -/
theorem payGoesToTheLog : Obligations.PayGoesToTheLog := by
  rintro l f link base c amount p x s verified header value blocked stands free few older is
  have entry : (s.tagVerified l f).deferredEntry l f base c amount (decrypt link.key f.body) p = x := by
    rw [State.deferredEntry_tagVerified, is, State.deferredEntry]
  set v := s.tagVerified l f with hv
  have reserved := Unworked.reserved v .payment l
  have left : Unworked s ((v.reserveTest .payment).wrapped l) := (Unworked.tagVerified s l f).trans reserved
  have room : ((v.reserveTest .payment).wrapped l).persist.full = false :=
    State.wrapped_room l (by rw [State.reserveTest_persist]; exact few)
  have logHigh := (Within.wrapped (v.reserveTest .payment) l).logHigh
  obtain ⟨high, low⟩ := v.reserveTest_logHigh .payment
  have others : otherLanes s ((v.reserveTest .payment).wrapped l) l := fun k ne => by
    rw [State.otherLanes_wrapped _ l k ne, State.lane_reserveTest, hv, s.otherLanes_tagVerified l f k ne]
  have steady : (((v.reserveTest .payment).wrapped l).lane l).steady = ((s.lane l).recorded f).counted.steady := by
    rw [State.wrapped_counted, State.lane_reserveTest, hv, State.tagVerified_lane_same]
    rfl
  obtain ⟨counter, payment, -, -, recent, -⟩ := LaneRecord.steady_fields steady
  have form := v.payToLog_form l f base c amount (decrypt link.key f.body) p
  rw [entry] at form
  rw [State.exec_payJob_logged verified header value blocked stands free, form]
  have seq : v.assignSeq.1 = s.assignSeq.1 := s.assignSeq_tagVerified l f
  rw [seq]
  generalize (v.reserveTest .payment).wrapped l = w at *
  have serial : x.serial = w.nextSerial := by
    rw [left.nextSerial, is]
  obtain ⟨q, d, logged, mem⟩ := State.queueAppend_entryJoined (w := w) l
    (fun r => r.deferred ⟨f.xchg, s.assignSeq.1, .log p⟩) (some f.src) f.till serial
    (by rw [left.log, left.nextSerial]; exact older) room
  rw [logged]
  refine ⟨_, rfl, ?_, ?_, ?_, ?_, ?_, ?_, ?_, ?_, ?_, ?_, State.finishJob_job _, ?_, ?_, ?_⟩
  · rw [State.finishJob_log, State.logged_log, left.log]
  · rw [State.finishJob_persist, State.logged_persist]
    exact mem
  · rw [State.finishJob_lane, State.logged_lane]
    exact counter
  · intro at768
    rw [State.finishJob_events, State.logged_events, logHigh]
    exact high at768
  · intro not768
    rw [State.finishJob_events, State.logged_events, logHigh, low not768]
    rfl
  · rw [State.finishJob_lane, State.logged_lane, LaneRecord.deferred, recent]
    rfl
  · rw [State.finishJob_lane, State.logged_lane]
    exact payment
  · intro k ne
    rw [State.finishJob_lane, State.logged_lanes w x l _ q d k ne, others k ne]
  · rw [State.finishJob_exchanges, State.logged_exchanges, left.exchanges]
  · rw [State.finishJob_sendQueue, (State.logged_chain w x l _ q d).1, left.chain.1]
  · rw [State.finishJob_answerQueue, (State.logged_chain w x l _ q d).2.2.1, left.chain.2.2.1]
  · rw [State.finishJob_monitor, (State.logged_chain w x l _ q d).2.2.2, left.chain.2.2.2]
  · obtain ⟨settings, standIn, slots⟩ := left.tables
    exact ⟨(State.standingTables_finishJob _).1.trans settings, (State.standingTables_finishJob _).2.1.trans standIn,
      (State.standingTables_finishJob _).2.2.trans slots⟩

end Sys2Proof.Machine
end

section
/-! SUPPORT. A reversal that a REVERSE wraps (R54, R71, R96, R121, R133). -/

namespace Sys2Proof.Machine

open Sys2Proof.Safety

/-! ## REVERSAL-TAKEN (R70) -/

theorem State.grantHold_order (s : State) (p q : Port) : (s.port q).order <+: ((s.grantHold p).port q).order := by
  unfold State.grantHold
  split
  · split
    · exact State.handFrame_order_prefix (s.setCtl p _) p q _
    · exact List.prefix_rfl
  · exact List.prefix_rfl
  · exact List.prefix_rfl

/-- The end of a job may hand a grant's reply, and takes nothing back. -/
theorem State.finishJob_order (s : State) (p : Port) : (s.port p).order <+: (s.finishJob.port p).order :=
  (State.grantHold_order { s with engine := { s.engine with job := none } } .s p).trans (State.grantHold_order _ .c p)

theorem State.takenInJob_lane (s : State) (l k : LaneId) (f : LaneFrame) (link : LoadedKey) :
    (s.takenInJob l f link).lane k = s.lane k := s.replyInHand_lane l f _ _ k

theorem State.sansTx_takenInJob (s : State) (l : LaneId) (f : LaneFrame) (link : LoadedKey) :
    (s.takenInJob l f link).sansTx = s.sansTx := s.sansTx_replyInHand l f _ _

/-- The reply as it stands in the S-port's order. -/
def State.takenFrame (s : State) (l : LaneId) (f : LaneFrame) (link : LoadedKey) : OutFrame :=
  .till (makeTill f.src s.settings.sStation ((s.lane l).config.till.getD f.till) f.xchg .reversalTaken (some link.key))

/-- The reply joins the S-port's order while the job has handed few frames before it. -/
theorem State.takenInJob_order {s u : State} {l : LaneId} (f : LaneFrame) (link : LoadedKey)
    (settings : u.settings = s.settings) (till : (u.lane l).config.till = (s.lane l).config.till)
    (same : (u.port .s).carrier = (s.port .s).carrier)
    (frames : (u.port .s).order.length ≤ (s.port .s).order.length + 9) (carrier : (s.port .s).carrier = true)
    (room : (s.port .s).order.length < 240) :
    s.takenFrame l f link ∈ ((u.takenInJob l f link).finishJob.port .s).order := by
  have free : (u.port .s).order.length < Config.orderCapacity :=
    Nat.lt_of_le_of_lt frames (Nat.lt_of_lt_of_le (Nat.add_lt_add_right room 9) (by decide))
  have handed : ((u.takenInJob l f link).port .s).order = (u.port .s).order ++ [u.takenFrame l f link] :=
    u.handFrame_order .s _ (same.trans carrier) free
  have frame : u.takenFrame l f link = s.takenFrame l f link := by
    rw [State.takenFrame, settings, till, State.takenFrame]
  refine ((u.takenInJob l f link).finishJob_order .s).subset ?_
  rw [handed, frame]
  exact List.mem_append_right _ (List.mem_singleton.mpr rfl)

/-! ## A new reversal that goes live (R71, R96) -/

/-- The exchange entry of a new reversal that goes live (R81). -/
def State.reversingEntry (s : State) (l : LaneId) (base : LoadedKey) (target : Nat) (orig : ChainSeq) : Exchange :=
  ⟨.reversal, .reversing, l, target, s.assignSeq.1, some orig, some .till, base.slot, base.gen, (s.lane l).counter, none,
    s.after s.settings.reversalTimeout, false, none, s.nextStamp⟩

theorem State.reversingEntry_tagVerified (s : State) (l : LaneId) (f : LaneFrame) (base : LoadedKey) (target : Nat)
    (orig : ChainSeq) : (s.tagVerified l f).reversingEntry l base target orig = s.reversingEntry l base target orig := by
  rw [State.reversingEntry, State.counter_tagVerified]
  rfl

/-- The item of a target moves to a place (R71). -/
def LaneRecord.placed (r : LaneRecord) (target : Nat) (place : RecentPlace) : LaneRecord :=
  { r with recent := r.recent.map (fun x => if x.xchg = target then { x with place := place } else x) }

/-- A reversal sent is counted (R36). -/
def LaneRecord.reversed (r : LaneRecord) : LaneRecord :=
  { r with counters := { r.counters with reversals := satInc Config.count32Max r.counters.reversals } }

theorem State.reverseLive_form (s : State) (l : LaneId) (base : LoadedKey) (target : Nat) (orig : ChainSeq) (i : EntryId) :
    ∃ ps, s.reverseLive l base target orig i = (s.wrapped l).sentLive ps
      (s.queued (wrap .reversal .live base.key (s.laneIdentity l) (s.lane l).counter s.assignSeq.1 orig
        (reversalBody .till target))) i (s.reversingEntry l base target orig) (s.nextStamp + 1) l
      (fun r => (r.placed target (.exchange i)).reversed) ∧ ps.at .s = (s.wrapped l).port .s := by
  obtain ⟨ps, form, -, portS⟩ := s.placeEnvelope_wrapped l (wrap .reversal .live base.key (s.laneIdentity l)
    (s.lane l).counter s.assignSeq.1 orig (reversalBody .till target))
  have stamp := (Unworked.wrapped s l).nextStamp
  refine ⟨ps, ?_, portS⟩
  unfold State.reverseLive
  rw [State.wrapFor_eq]
  dsimp only [Option.getD_some]
  rw [form]
  simp only [State.countReversal, State.placeItem, State.modLane_modLane, State.allocate, stamp]
  generalize s.wrapped l = w
  rfl

/-! ## A reversal that goes to the log (R71, R76, R77) -/

/-- The log entry of a reversal (R123). -/
def State.reversalEntry (s : State) (l : LaneId) (base : LoadedKey) (origin : Origin) (target : Nat) (orig : ChainSeq)
    (cause : ReversalCause) (repeats : Nat) (p : PlaceId) : LogEntry :=
  ⟨p, l, .reversal, .queued, false, s.assignSeq.1, some orig, some cause, (s.lane l).counter, base.slot, base.gen, none,
    none, target, repeats, wrap .reversal origin base.key (s.laneIdentity l) (s.lane l).counter s.assignSeq.1 orig
      (reversalBody cause target), s.nextSerial, false⟩

theorem State.reversalEntry_tagVerified (s : State) (l : LaneId) (f : LaneFrame) (base : LoadedKey) (origin : Origin)
    (target : Nat) (orig : ChainSeq) (cause : ReversalCause) (repeats : Nat) (p : PlaceId) :
    (s.tagVerified l f).reversalEntry l base origin target orig cause repeats p =
      s.reversalEntry l base origin target orig cause repeats p := by
  have serial : (s.tagVerified l f).nextSerial = s.nextSerial := rfl
  rw [State.reversalEntry, State.counter_tagVerified, State.laneIdentity_tagVerified, State.assignSeq_tagVerified, serial,
    State.reversalEntry]

theorem State.freePlace_congr {s t : State} (log : t.log = s.log) : t.freePlace = s.freePlace := by
  rw [State.freePlace, log, State.freePlace]

theorem State.freePlace_tagVerified (s : State) (l : LaneId) (f : LaneFrame) :
    (s.tagVerified l f).freePlace = s.freePlace := State.freePlace_congr (State.log_of_lanes (s.sansLanes_tagVerified l f))

/-- An entry that has its place and its serial joins the log as it is. -/
theorem State.joinLog_eq {w : State} {p : PlaceId} {x : LogEntry} (place : x.place = p) (serial : x.serial = w.nextSerial) :
    w.joinLog p x = { w with log := w.log ++ [x], nextSerial := w.nextSerial + 1 } := by
  have same : { x with place := p, serial := w.nextSerial } = x := by
    rw [← place, ← serial]
  rw [State.joinLog, same]

/-- The state once a value and a sequence are taken for a reversal and its place is reserved. -/
def State.reversalReserved (s : State) (l : LaneId) : State := (s.wrapped l).reserveTest .reversal

theorem State.appendReversal_form (s : State) (l : LaneId) (base : LoadedKey) (origin : Origin) (target : Nat)
    (orig : ChainSeq) (cause : ReversalCause) (repeats : Nat) (p : PlaceId) (move : State → State) :
    s.appendReversal l base origin target orig cause repeats p move =
      (move ((s.reversalReserved l).joinLog p (s.reversalEntry l base origin target orig cause repeats p))).queueAppend
        (s.reversalReserved l).nextSerial none 0 := by
  have serial := (Unworked.wrapped s l).nextSerial
  unfold State.appendReversal State.reversalReserved
  rw [State.wrapFor_eq, State.reserveTest_nextSerial]
  dsimp only [Option.getD_some]
  rw [State.reversalEntry, ← serial]
  generalize s.wrapped l = w
  rfl

theorem Unworked.reversalReserved (s : State) (l : LaneId) : Unworked s (s.reversalReserved l) :=
  (Unworked.wrapped s l).trans (Unworked.reserveTest _ .reversal)

theorem State.reversalReserved_lane (s : State) (l k : LaneId) :
    (s.reversalReserved l).lane k = (s.wrapped l).lane k := State.lane_reserveTest _ _ k

theorem State.reversalReserved_room {s : State} (l : LaneId) (few : s.persist.unwritten.length < 4094) :
    (s.reversalReserved l).persist.full = false := by
  rw [State.reversalReserved, State.reserveTest_persist]
  exact State.wrapped_room l few

/-- At most 9 frames are handed to the S-port before a reversal's entry joins the log. -/
theorem State.reversalReserved_port (s : State) (l : LaneId) :
    ((s.reversalReserved l).port .s).carrier = (s.port .s).carrier ∧
    ((s.reversalReserved l).port .s).order.length ≤ (s.port .s).order.length + 9 := by
  have wrapped := (Within.wrapped s l).frames
  have reserved := ((s.wrapped l).reserveTest_order .reversal).2
  exact ⟨(State.reserveTest_carrier _ _ _).trans (s.wrapped_carrier l .s), reserved.trans (Nat.add_le_add_right wrapped 1)⟩

/-- A reversal's entry that joins the log, its item moved: the newest entry, and its append write. -/
theorem State.appendReversal_of_room {s : State} {l : LaneId} {base : LoadedKey} {origin : Origin} {target : Nat}
    {orig : ChainSeq} {cause : ReversalCause} {repeats : Nat} {p : PlaceId} {w : State} {g : LaneRecord → LaneRecord}
    (move : State → State) (moves : ∀ x : LogEntry, x.place = p → x.serial = (s.reversalReserved l).nextSerial →
      move ((s.reversalReserved l).joinLog p x) = w.entryJoined x l g)
    (log : w.log = s.log) (serial : w.nextSerial = s.nextSerial) (older : ∀ e ∈ s.log, e.serial < s.nextSerial)
    (room : w.persist.full = false) : ∃ q d,
    s.appendReversal l base origin target orig cause repeats p move =
      w.logged (s.reversalEntry l base origin target orig cause repeats p) l g q d ∧
    .append (s.reversalEntry l base origin target orig cause repeats p) none 0 ∈ q.unwritten := by
  have next := (Unworked.reversalReserved s l).nextSerial
  have joined := moves (s.reversalEntry l base origin target orig cause repeats p) rfl next.symm
  rw [State.appendReversal_form, joined, next, ← serial]
  refine State.queueAppend_entryJoined l g none 0 ?_ ?_ room
  · rw [serial]
    rfl
  · rw [log, serial]
    exact older

end Sys2Proof.Machine
end

section
/-! SUPPORT. A REVERSE that must wrap a new reversal (R54, R71, R96, R133). -/

namespace Sys2Proof.Machine

open Sys2Proof.Safety

/-- Where a new reversal goes (R71). -/
theorem State.newReversal_cases (s : State) (l : LaneId) (f : LaneFrame) (link base : LoadedKey) (n : Nat) (orig : ChainSeq)
    (sent : Bool) :
    ((s.lane l).counter = 4194304 → s.newReversal l f link base n orig sent = s.refuseInJob l f link .spent) ∧
    ((s.lane l).counter ≠ 4194304 →
      (∀ i, sent = false → s.monitor.state = .up → s.logCount l = 0 → s.freeEntry = some i →
        s.newReversal l f link base n orig sent = (s.reverseLive l base n orig i).takenInJob l f link) ∧
      ((sent = true ∨ s.monitor.state ≠ .up ∨ s.logCount l ≠ 0 ∨ s.freeEntry = none) →
        s.newReversal l f link base n orig sent = s.reverseToLog l f link base n orig)) := by
  unfold State.newReversal
  refine ⟨fun spent => if_pos spent, fun value => ?_⟩
  have unspent : ¬ (s.lane l).counter = Config.counterEnd := value
  rw [if_neg unspent]
  refine ⟨fun i fresh up empty free => ?_, fun blocked => ?_⟩
  · rw [if_neg (by simp [fresh]), if_pos ⟨up, empty⟩, free]
  · by_cases behind : sent = true
    · rw [if_pos behind]
    rw [if_neg behind]
    by_cases ready : s.monitor.state = .up ∧ s.logCount l = 0
    · have none : s.freeEntry = none :=
        ((blocked.resolve_left behind).resolve_left (fun h => h ready.1)).resolve_left (fun h => h ready.2)
      rw [if_pos ready, none]
    · rw [if_neg ready]

theorem State.reverseToLog_of_free {s : State} {p : PlaceId} (free : s.freePlace = some p) (l : LaneId) (f : LaneFrame)
    (link base : LoadedKey) (n : Nat) (orig : ChainSeq) : s.reverseToLog l f link base n orig =
      (s.appendReversal l base .deferred n orig .till 0 p (fun t => t.placeItem l n (.log p))).takenInJob l f link := by
  unfold State.reverseToLog
  rw [free]

theorem State.reverseToLog_of_full {s : State} (full : s.freePlace = none) (l : LaneId) (f : LaneFrame)
    (link base : LoadedKey) (n : Nat) (orig : ChainSeq) :
    s.reverseToLog l f link base n orig = s.refuseInJob l f link .upstreamFull := by
  unfold State.reverseToLog
  rw [full]

/-- The row of a REVERSE whose item is done, or stands behind its SENT payment. -/
theorem State.exec_reverseJob_new {s : State} {l : LaneId} {f : LaneFrame} {link base : LoadedKey} {n : Nat}
    {item : RecentItem} {sent : Bool} (verified : verifiedJob s l f link (.reverse base)) (target : f.target = some n)
    (found : (s.lane l).recent.find? (fun x => x.xchg = n) = some item)
    (stands : (∃ o, item.place = .done o ∧ sent = false) ∨ (∃ p e, item.place = .log p ∧ s.logAt p = some e ∧
      e.kind = .payment ∧ e.state = .sent ∧ e.seq = item.seq ∧ sent = true)) :
    exec .reverseJob s = .next ((s.tagVerified l f).newReversal l f link base n item.seq sent).finishJob := by
  have recent : ((s.tagVerified l f).lane l).recent = (s.lane l).recent := (s.tagVerified_kept l f).2.1
  obtain ⟨-, acts⟩ := State.reverseWork_of_target (s := s.tagVerified l f) (l := l) (link := link) (base := base) target
  rw [recent] at acts
  obtain ⟨-, -, done, logged⟩ := acts item found
  rw [State.exec_reverseJob verified]
  rcases stands with ⟨o, place, rfl⟩ | ⟨p, e, place, entry, payment, isSent, seq, rfl⟩
  · rw [done o place]
  · rw [logged p place, ← seq]
    exact congrArg (fun t => Host.Outcome.next t.finishJob)
      ((State.reverseLogged_cases (s := s.tagVerified l f) l f link base n entry).2.2 payment isSent)

/-- The live case: what the job leaves (R71, R96). -/
theorem State.reverseLive_spec {s u : State} {l : LaneId} {f : LaneFrame} {link base : LoadedKey} {n : Nat}
    {orig : ChainSeq} {i : EntryId} (is : u = ((s.tagVerified l f).reverseLive l base n orig i).takenInJob l f link) :
    u.finishJob.exchange i = some (s.reversingEntry l base n orig) ∧ otherEntries s u.finishJob i ∧
    u.finishJob.log = s.log ∧ (u.finishJob.lane l).counter = (s.lane l).counter + 1 ∧
    (u.finishJob.lane l).recent = (s.lane l).recent.map (fun x =>
      if x.xchg = n then { x with place := .exchange i } else x) ∧
    u.finishJob.sendQueue = s.queued (wrap .reversal .live base.key (s.laneIdentity l) (s.lane l).counter s.assignSeq.1
      orig (reversalBody .till n)) ∧
    (u.finishJob.lane l).counters.reversals = satInc Config.count32Max (s.lane l).counters.reversals ∧
    ((s.port .s).carrier = true → (s.port .s).order.length < 240 →
      s.takenFrame l f link ∈ (u.finishJob.port .s).order) := by
  obtain ⟨ps, form, portS⟩ := (s.tagVerified l f).reverseLive_form l base n orig i
  rw [State.reversingEntry_tagVerified, State.laneIdentity_tagVerified, State.counter_tagVerified,
    State.assignSeq_tagVerified, State.queued_tagVerified] at form
  have left := Unworked.recorded s l f
  have carrier := (s.tagVerified l f).wrapped_carrier l .s
  have frames := (Within.wrapped (s.tagVerified l f) l).frames
  obtain ⟨counter, -, -, -, recent, -, reversals, till⟩ := LaneRecord.steady_fields (s.wrapped_recorded l f)
  rw [form] at is
  generalize (s.tagVerified l f).wrapped l = w at *
  generalize s.queued _ = queue at *
  have lane : ∀ k, u.finishJob.lane k = (w.sentLive ps queue i (s.reversingEntry l base n orig)
      ((s.tagVerified l f).nextStamp + 1) l (fun r => (r.placed n (.exchange i)).reversed)).lane k := fun k => by
    rw [State.finishJob_lane, is, State.takenInJob_lane]
  have sans := State.sansTx_takenInJob (w.sentLive ps queue i (s.reversingEntry l base n orig)
    ((s.tagVerified l f).nextStamp + 1) l (fun r => (r.placed n (.exchange i)).reversed)) l f link
  rw [← is] at sans
  refine ⟨?_, ?_, ?_, ?_, ?_, ?_, ?_, fun up room => ?_⟩
  · rw [State.finishJob_exchange, State.exchange, State.exchanges_of_tx sans]
    exact State.sentLive_exchange ..
  · intro j ne
    rw [State.finishJob_exchange, State.exchange, State.exchanges_of_tx sans]
    refine (State.sentLive_others w _ _ i _ _ _ _ j ne).trans ?_
    rw [State.exchange, left.exchanges, State.exchange]
  · rw [State.finishJob_log, State.log_of_tx sans, State.sentLive_log, left.log]
  · rw [lane, State.sentLive_lane]
    exact counter
  · rw [lane, State.sentLive_lane, LaneRecord.reversed, LaneRecord.placed, recent]
    rfl
  · rw [State.finishJob_sendQueue, State.sendQueue_of_tx sans, State.sentLive_sendQueue]
  · rw [lane, State.sentLive_lane, LaneRecord.reversed, LaneRecord.placed, reversals]
    rfl
  · rw [is]
    refine State.takenInJob_order f link left.tables.1 ?_ ?_ ?_ up room
    · rw [State.sentLive_lane]
      exact till
    · rw [State.sentLive_port, portS, carrier]
      rfl
    · rw [State.sentLive_port, portS]
      exact frames.trans (Nat.le_succ _)

/-- The log case: what the job leaves (R71, R133). -/
theorem State.reverseToLog_spec {s : State} {l : LaneId} {f : LaneFrame} {link base : LoadedKey} {n : Nat}
    {orig : ChainSeq} {p : PlaceId} (free : s.freePlace = some p) (few : s.persist.unwritten.length < 4094)
    (older : ∀ e ∈ s.log, e.serial < s.nextSerial) : ∃ u,
    (s.tagVerified l f).reverseToLog l f link base n orig = u ∧
    u.finishJob.log = s.log ++ [s.reversalEntry l base .deferred n orig .till 0 p] ∧
    .append (s.reversalEntry l base .deferred n orig .till 0 p) none 0 ∈ u.finishJob.persist.unwritten ∧
    u.finishJob.exchanges = s.exchanges ∧ u.finishJob.sendQueue = s.sendQueue ∧
    (u.finishJob.lane l).counter = (s.lane l).counter + 1 ∧
    (u.finishJob.lane l).counters.reversals = (s.lane l).counters.reversals ∧
    ((s.port .s).carrier = true → (s.port .s).order.length < 240 →
      s.takenFrame l f link ∈ (u.finishJob.port .s).order) ∧
    (u.finishJob.lane l).recent = (s.lane l).recent.map (fun x =>
      if x.xchg = n then { x with place := .log p } else x) := by
  have entry := s.reversalEntry_tagVerified l f base .deferred n orig .till 0 p
  have logs := State.reverseToLog_of_free ((s.freePlace_tagVerified l f).trans free) l f link base n orig
  have reserved := Unworked.reversalReserved (s.tagVerified l f) l
  have left : Unworked s ((s.tagVerified l f).reversalReserved l) := (Unworked.tagVerified s l f).trans reserved
  have steady : (((s.tagVerified l f).reversalReserved l).lane l).steady = ((s.lane l).recorded f).counted.steady := by
    rw [State.reversalReserved_lane, State.wrapped_recorded]
  obtain ⟨counter, -, -, -, recent, -, reversals, till⟩ := LaneRecord.steady_fields steady
  obtain ⟨carrier, frames⟩ := (s.tagVerified l f).reversalReserved_port l
  obtain ⟨q, d, form, mem⟩ := State.appendReversal_of_room (s := s.tagVerified l f) (l := l) (base := base)
    (origin := .deferred) (target := n) (orig := orig) (cause := .till) (repeats := 0) (p := p)
    (w := (s.tagVerified l f).reversalReserved l) (g := fun r => r.placed n (.log p)) (fun t => t.placeItem l n (.log p))
    (fun x place serial => by rw [State.joinLog_eq place serial]; rfl) reserved.log reserved.nextSerial older
    (State.reversalReserved_room l few)
  rw [entry] at form mem
  refine ⟨_, logs, ?_⟩
  rw [form]
  generalize (s.tagVerified l f).reversalReserved l = w at *
  generalize s.reversalEntry l base .deferred n orig .till 0 p = x at *
  have sans := State.sansTx_takenInJob (w.logged x l (fun r => r.placed n (.log p)) q d) l f link
  refine ⟨?_, ?_, ?_, ?_, ?_, ?_, fun up room => ?_, ?_⟩
  · rw [State.finishJob_log, State.log_of_tx sans, State.logged_log, left.log]
  · rw [State.finishJob_persist, State.persist_of_tx sans, State.logged_persist]
    exact mem
  · rw [State.finishJob_exchanges, State.exchanges_of_tx sans, State.logged_exchanges, left.exchanges]
  · rw [State.finishJob_sendQueue, State.sendQueue_of_tx sans, (State.logged_chain w x l _ q d).1, left.chain.1]
  · rw [State.finishJob_lane, State.takenInJob_lane, State.logged_lane]
    exact counter
  · rw [State.finishJob_lane, State.takenInJob_lane, State.logged_lane]
    exact reversals
  · refine State.takenInJob_order f link left.tables.1 ?_ carrier frames up room
    rw [State.logged_lane]
    exact till
  · rw [State.finishJob_lane, State.takenInJob_lane, State.logged_lane, LaneRecord.placed, recent]
    rfl

/-- Settles O45: the counter decides first, then whether the payment's entry is SENT, then the monitor, the lane's log and
the free entry. -/
theorem newReversalWrapped : Obligations.NewReversalWrapped := by
  intro l f link base n item sent taken s verified target handed found stands
  obtain ⟨spent, acts⟩ := (s.tagVerified l f).newReversal_cases l f link base n item.seq sent
  rw [State.counter_tagVerified] at spent acts
  rw [State.exec_reverseJob_new verified target found stands]
  refine ⟨fun gone => by rw [spent gone], fun value => ?_⟩
  obtain ⟨live, logs⟩ := acts value
  refine ⟨fun i fresh up empty free => ?_, fun p x blocked free few older is => ?_, fun blocked full => ?_⟩
  · obtain ⟨entry, others, log, counter, recent, queue, reversals, reply⟩ := State.reverseLive_spec (s := s) (l := l)
      (f := f) (link := link) (base := base) (n := n) (orig := item.seq) (i := i) rfl
    rw [live i fresh up empty free]
    refine ⟨_, rfl, entry, others, log, counter, recent, fun carrier => ?_, reversals, (handed _).mpr reply,
      State.finishJob_job _⟩
    rw [queue, (s.queued_cases _).1 carrier]
  · obtain ⟨u, made, log, mem, exchanges, queue, counter, reversals, reply, recent⟩ := State.reverseToLog_spec (s := s)
      (l := l) (f := f) (link := link) (base := base) (n := n) (orig := item.seq) free few older
    have entry : x = s.reversalEntry l base .deferred n item.seq .till 0 p := by
      rw [is, State.reversalEntry]
    rw [logs blocked, made, entry]
    exact ⟨_, rfl, log, mem, exchanges, queue, counter, reversals, (handed _).mpr reply, recent, State.finishJob_job _⟩
  · rw [logs blocked, State.reverseToLog_of_full ((s.freePlace_tagVerified l f).trans full)]

end Sys2Proof.Machine
end

section
/-! SUPPORT. The reversal job and the repeat job (R76, R77, R94, R95). -/

namespace Sys2Proof.Machine

open Sys2Proof.Safety

/-- The work of a reversal job or a repeat job on its entry (R76, R77). -/
def State.reverseAgain (s : State) (repeated : Bool) (i : EntryId) (e : Exchange) (base : Option LoadedKey) : State :=
  if repeated then s.repeatWork i e base else s.reversalWork i e base

/-- The row of a job on an entry that is still in the state of that job. -/
theorem State.exec_reverseAgain {c : Instr} {i : EntryId} {e : Exchange} {l : LaneId} {base : Option LoadedKey}
    {repeated : Bool} {s : State} (entry : s.exchange i = some e)
    (job : (repeated = false ∧ c = .reversalJob ∧ e.state = .reversalDue ∧ s.engine.job = some (.reversal i l base)) ∨
      (repeated = true ∧ c = .repeatJob ∧ e.state = .reversing ∧ s.engine.job = some (.repetition i l base))) :
    exec c s = .next (s.reverseAgain repeated i e base).finishJob := by
  rcases job with ⟨rfl, rfl, due, inFlight⟩ | ⟨rfl, rfl, reversing, inFlight⟩
  · have acts : s.entryWork i .reversalDue (fun e => s.reversalWork i e base) = s.reversalWork i e base := by
      rw [State.entryWork, entry]
      exact if_pos due
    simp only [exec, execReversalJob, State.reversalJob, inFlight, acts]
    rfl
  · have acts : s.entryWork i .reversing (fun e => s.repeatWork i e base) = s.repeatWork i e base := by
      rw [State.entryWork, entry]
      exact if_pos reversing
    simp only [exec, execRepeatJob, State.repeatJob, inFlight, acts]
    rfl

theorem LaneRecord.cannotReverse_iff (r : LaneRecord) : r.cannotReverse = true ↔ r.counter = 4194304 ∨
    (r.config.state = .faulted .ceiling ∧ r.counter = r.config.ceiling) := by
  simp only [LaneRecord.cannotReverse, Bool.or_eq_true, Bool.and_eq_true, decide_eq_true_eq]
  exact Iff.rfl

/-- The origin and the repeat count of a reversal that moves into the log (R76, R77). -/
theorem State.reverseAgain_cases (s : State) (repeated : Bool) (i : EntryId) (e : Exchange) :
    s.reverseAgain repeated i e none = s.abandonReversal i e ∧
    (∀ k, (s.lane e.lane).cannotReverse = true → s.reverseAgain repeated i e (some k) = s.abandonReversal i e) ∧
    (∀ k, (s.lane e.lane).cannotReverse = false → repeated = false → s.monitor.state = .up → s.logCount e.lane = 0 →
      s.reverseAgain repeated i e (some k) = s.reversalLive i e k) ∧
    (∀ k, (s.lane e.lane).cannotReverse = false → (repeated = true ∨ s.monitor.state ≠ .up ∨ s.logCount e.lane ≠ 0) →
      s.reverseAgain repeated i e (some k) =
        s.reversalToLog i e k (if repeated then .repeated else .deferred) (if repeated then 1 else 0)) := by
  unfold State.reverseAgain State.repeatWork State.reversalWork
  refine ⟨by cases repeated <;> rfl, fun k cannot => ?_, fun k can fresh up empty => ?_, fun k can blocked => ?_⟩
  · cases repeated <;> simp only [cannot, if_true, Bool.false_eq_true, if_false]
  · rw [if_neg (by simp [fresh])]
    dsimp only
    rw [if_neg (by simp [can]), if_pos ⟨up, empty⟩]
  · cases repeated with
    | true =>
      rw [if_pos rfl]
      dsimp only
      rw [if_neg (by simp [can])]
      rfl
    | false =>
      have not_ready : ¬ (s.monitor.state = .up ∧ s.logCount e.lane = 0) := fun h =>
        (blocked.resolve_left Bool.false_ne_true).elim (fun down => down h.1) (fun drains => drains h.2)
      rw [if_neg Bool.false_ne_true]
      dsimp only
      rw [if_neg (by simp [can]), if_neg not_ready]
      rfl

theorem State.reversalToLog_of_full {s : State} (full : s.freePlace = none) (i : EntryId) (e : Exchange) (base : LoadedKey)
    (origin : Origin) (repeats : Nat) : s.reversalToLog i e base origin repeats = s.abandonReversal i e := by
  unfold State.reversalToLog
  rw [full]

theorem State.reversalToLog_of_free {s : State} {p : PlaceId} (free : s.freePlace = some p) (i : EntryId) (e : Exchange)
    (base : LoadedKey) (origin : Origin) (repeats : Nat) : s.reversalToLog i e base origin repeats =
      s.appendReversal e.lane base origin e.xchg (e.orig.getD 0) (e.cause.getD .timeout) repeats p
        (fun t => (t.free i).moveItem e.lane (.exchange i) (.log p)) := by
  unfold State.reversalToLog
  rw [free]

/-- The entry of a reversal that a job has sent live (R76). -/
def State.sentReversal (s : State) (e : Exchange) (base : LoadedKey) : Exchange := { e with
  state := .reversing
  seq := s.assignSeq.1
  base := base.slot
  gen := base.gen
  counter := (s.lane e.lane).counter
  deadline := s.after s.settings.reversalTimeout }

theorem State.reversalLive_form {s : State} {e : Exchange} {orig : ChainSeq} {cause : ReversalCause} (i : EntryId)
    (base : LoadedKey) (hasOrig : e.orig = some orig) (hasCause : e.cause = some cause) :
    ∃ ps, s.reversalLive i e base = (s.wrapped e.lane).sentLive ps
      (s.queued (wrap .reversal .live base.key (s.laneIdentity e.lane) (s.lane e.lane).counter s.assignSeq.1 orig
        (reversalBody cause e.xchg))) i (s.sentReversal e base) (s.wrapped e.lane).nextStamp e.lane
      (fun r => r.reversed) := by
  obtain ⟨ps, form, -, -⟩ := s.placeEnvelope_wrapped e.lane (wrap .reversal .live base.key (s.laneIdentity e.lane)
    (s.lane e.lane).counter s.assignSeq.1 orig (reversalBody cause e.xchg))
  refine ⟨ps, ?_⟩
  unfold State.reversalLive State.sentReversal
  rw [State.wrapFor_eq, hasOrig, hasCause]
  dsimp only [Option.getD_some]
  rw [form]
  generalize s.wrapped e.lane = w
  rfl

/-- An item that stands at a place moves to another (R28). -/
def LaneRecord.moved (r : LaneRecord) (old new : RecentPlace) : LaneRecord :=
  { r with recent := r.recent.map (fun x => if x.place = old then { x with place := new } else x) }

/-- The live case: what the job leaves (R76, case 2). -/
theorem State.reversalLive_spec {s : State} {e : Exchange} {orig : ChainSeq} {cause : ReversalCause} {i : EntryId}
    {base : LoadedKey} (hasOrig : e.orig = some orig) (hasCause : e.cause = some cause) :
    (s.reversalLive i e base).finishJob.exchange i = some (s.sentReversal e base) ∧
    otherEntries s (s.reversalLive i e base).finishJob i ∧
    ((s.reversalLive i e base).finishJob.lane e.lane).counter = (s.lane e.lane).counter + 1 ∧
    ((s.reversalLive i e base).finishJob.lane e.lane).counters.reversals =
      satInc Config.count32Max (s.lane e.lane).counters.reversals ∧
    (s.reversalLive i e base).finishJob.sendQueue = s.queued (wrap .reversal .live base.key (s.laneIdentity e.lane)
      (s.lane e.lane).counter s.assignSeq.1 orig (reversalBody cause e.xchg)) ∧
    (s.reversalLive i e base).finishJob.log = s.log := by
  obtain ⟨ps, form⟩ := State.reversalLive_form (s := s) i base hasOrig hasCause
  have left := Unworked.wrapped s e.lane
  obtain ⟨counter, -, -, -, -, -, reversals, -⟩ := LaneRecord.steady_fields (s.wrapped_counted e.lane)
  rw [form]
  generalize s.wrapped e.lane = w at *
  generalize s.queued _ = queue at *
  refine ⟨?_, ?_, ?_, ?_, ?_, ?_⟩
  · rw [State.finishJob_exchange, State.sentLive_exchange]
  · intro j ne
    rw [State.finishJob_exchange, State.sentLive_others w _ _ i _ _ _ _ j ne, State.exchange, left.exchanges, State.exchange]
  · rw [State.finishJob_lane, State.sentLive_lane]
    exact counter
  · rw [State.finishJob_lane, State.sentLive_lane, LaneRecord.reversed, reversals]
    rfl
  · rw [State.finishJob_sendQueue, State.sentLive_sendQueue]
  · rw [State.finishJob_log, State.sentLive_log, left.log]

/-- The log case: what the job leaves (R76, case 3; R77). -/
theorem State.reversalToLog_spec {s : State} {e : Exchange} {orig : ChainSeq} {cause : ReversalCause} {i : EntryId}
    {base : LoadedKey} {origin : Origin} {repeats : Nat} {p : PlaceId} (free : s.freePlace = some p)
    (hasOrig : e.orig = some orig) (hasCause : e.cause = some cause) (few : s.persist.unwritten.length < 4094)
    (older : ∀ y ∈ s.log, y.serial < s.nextSerial) : ∃ u, s.reversalToLog i e base origin repeats = u ∧
    u.finishJob.log = s.log ++ [s.reversalEntry e.lane base origin e.xchg orig cause repeats p] ∧
    .append (s.reversalEntry e.lane base origin e.xchg orig cause repeats p) none 0 ∈ u.finishJob.persist.unwritten ∧
    u.finishJob.exchange i = none ∧ otherEntries s u.finishJob i ∧ u.finishJob.sendQueue = s.sendQueue ∧
    (u.finishJob.lane e.lane).counter = (s.lane e.lane).counter + 1 ∧
    (u.finishJob.lane e.lane).recent = (s.lane e.lane).recent.map (fun y =>
      if y.place = .exchange i then { y with place := .log p } else y) := by
  have logs := State.reversalToLog_of_free free i e base origin repeats
  rw [hasOrig, hasCause] at logs
  have left := Unworked.reversalReserved s e.lane
  have steady : ((s.reversalReserved e.lane).lane e.lane).steady = (s.lane e.lane).counted.steady := by
    rw [State.reversalReserved_lane, State.wrapped_counted]
  obtain ⟨counter, -, -, -, recent, -⟩ := LaneRecord.steady_fields steady
  obtain ⟨q, d, form, mem⟩ := State.appendReversal_of_room (s := s) (l := e.lane) (base := base) (origin := origin)
    (target := e.xchg) (orig := orig) (cause := cause) (repeats := repeats) (p := p)
    (w := (s.reversalReserved e.lane).setExchange i none) (g := fun r => r.moved (.exchange i) (.log p))
    (fun t => (t.free i).moveItem e.lane (.exchange i) (.log p))
    (fun x place serial => by
      rw [State.joinLog_eq place serial]
      generalize s.reversalReserved e.lane = w
      rfl) left.log left.nextSerial older
    (State.reversalReserved_room e.lane few)
  refine ⟨_, logs, ?_⟩
  dsimp only [Option.getD_some]
  rw [form]
  generalize s.reversalReserved e.lane = w at *
  generalize s.reversalEntry e.lane base origin e.xchg orig cause repeats p = x at *
  refine ⟨?_, ?_, ?_, ?_, ?_, ?_, ?_⟩
  · rw [State.finishJob_log, State.logged_log, State.setExchange_log, left.log]
  · rw [State.finishJob_persist, State.logged_persist]
    exact mem
  · rw [State.finishJob_exchange, State.exchange, State.logged_exchanges]
    exact w.exchange_setExchange_same i none
  · intro j ne
    rw [State.finishJob_exchange, State.exchange, State.logged_exchanges]
    refine (w.exchange_setExchange_ne none ne).trans ?_
    rw [State.exchange, left.exchanges, State.exchange]
  · rw [State.finishJob_sendQueue, (State.logged_chain _ x e.lane _ q d).1, State.setExchange_sendQueue, left.chain.1]
  · rw [State.finishJob_lane, State.logged_lane]
    exact counter
  · rw [State.finishJob_lane, State.logged_lane, State.lane_setExchange, LaneRecord.moved, recent]
    rfl

/-- Settles O48: the base key decides first, then the lane's counter, then the monitor and the lane's log, then the log's
free place. -/
theorem reversalJobsAct : Obligations.ReversalJobsAct := by
  intro c i e l base repeated s entry job
  obtain ⟨noKey, cannot, live, logs⟩ := s.reverseAgain_cases repeated i e
  rw [State.exec_reverseAgain entry job]
  refine ⟨fun gone => ?_, fun k orig cause has hasOrig hasCause value notAtCeiling => ?_⟩
  · have abandons : s.reverseAgain repeated i e base = s.abandonReversal i e := by
      cases base with
      | none => exact noKey
      | some k =>
        cases able : (s.lane e.lane).cannotReverse with
        | true => exact cannot k able
        | false =>
          have has : ¬ ((s.lane e.lane).counter = 4194304 ∨ ((s.lane e.lane).config.state = .faulted .ceiling ∧
              (s.lane e.lane).counter = (s.lane e.lane).config.ceiling)) := by
            rw [← LaneRecord.cannotReverse_iff, able]
            exact Bool.false_ne_true
          obtain ⟨blocked, full⟩ := ((gone.resolve_left nofun).resolve_left (fun h => has (.inl h))).resolve_left
            (fun h => has (.inr h))
          rw [logs k able blocked, State.reversalToLog_of_full full]
    rw [abandons]
    rfl
  · subst has
    have able : (s.lane e.lane).cannotReverse = false := by
      rw [← Bool.not_eq_true, LaneRecord.cannotReverse_iff]
      rintro (spent | ⟨faulted, atCeiling⟩)
      · exact value spent
      · exact notAtCeiling faulted atCeiling
    refine ⟨fun fresh up empty => ?_, fun p x blocked free few older is => ?_⟩
    · obtain ⟨exchange, others, counter, reversals, queue, log⟩ := State.reversalLive_spec (s := s) (i := i) (base := k)
        hasOrig hasCause
      rw [live k able fresh up empty]
      refine ⟨_, rfl, exchange, others, counter, reversals, fun carrier => ?_, log, State.finishJob_job _⟩
      rw [queue, (s.queued_cases _).1 carrier]
    · obtain ⟨u, made, log, mem, exchange, others, queue, counter, recent⟩ := State.reversalToLog_spec (s := s) (i := i)
        (base := k) (origin := if repeated then .repeated else .deferred) (repeats := if repeated then 1 else 0) free
        hasOrig hasCause few older
      have same : x = s.reversalEntry e.lane k (if repeated then .repeated else .deferred) e.xchg orig cause
          (if repeated then 1 else 0) p := by
        rw [is, State.reversalEntry]
      rw [logs k able blocked, made, same]
      exact ⟨_, rfl, log, mem, exchange, others, queue, counter, recent, State.finishJob_job _⟩

end Sys2Proof.Machine
end

section
/-! SUPPORT. What a committed entry makes of its record (R35, R41, R42, R45, R56). -/

namespace Sys2Proof.Machine

open Sys2Proof.Safety

/-! ## A SLOT entry (R41, R42) -/

theorem writtenGeneration_eq (n : SlotId) (g : Nat) :
    writtenGeneration n g = if n.val < 2 ∧ g = 65535 then 65535 else g + 1 := by
  have is : writtenGeneration n g = if n.val < 2 ∧ g = 65535 then g else g + 1 := rfl
  rw [is]
  split
  · rename_i h
    exact h.2
  · rfl

/-- A written slot, or an erased one, is the one that the entry names. -/
theorem applySlot_spec (slots : Vector SlotRecord 96) (n m : SlotId) (u : SlotUsage) (k : Key) (c : CheckValue) :
    (applySlot slots ⟨n.val, .slotWrite u k c⟩)[m] = (if m = n then writtenSlot n slots[n] u k else slots[m]) ∧
    (applySlot slots ⟨n.val, .slotErase⟩)[m] = (if m = n then erasedSlot slots[n] else slots[m]) := by
  have written : applySlot slots ⟨n.val, .slotWrite u k c⟩ = slots.set n (writtenSlot n slots[n] u k) := dif_pos n.isLt
  have erased : applySlot slots ⟨n.val, .slotErase⟩ = slots.set n (erasedSlot slots[n]) := dif_pos n.isLt
  rw [written, erased]
  by_cases e : m = n
  · subst e
    rw [if_pos rfl, if_pos rfl]
    exact ⟨Vector.getElem_set_self _, Vector.getElem_set_self _⟩
  · have val : n.val ≠ m.val := fun h => e (Fin.ext h.symm)
    rw [if_neg e, if_neg e]
    exact ⟨Vector.getElem_set_ne _ _ val, Vector.getElem_set_ne _ _ val⟩

/-! ## A LANE entry (R35, R45, R56) -/

theorem applyLane_spec (slots : Vector SlotRecord 96) (lanes : Vector LaneRecord 48) (l k : LaneId) (r : StagedLane) :
    (applyLane slots lanes ⟨l.val, .lane r⟩)[k] = if k = l then committedLane slots lanes[l] r else lanes[k] := by
  have applied : applyLane slots lanes ⟨l.val, .lane r⟩ = lanes.set l (committedLane slots lanes[l] r) := dif_pos l.isLt
  rw [applied]
  by_cases e : k = l
  · subst e
    rw [if_pos rfl]
    exact Vector.getElem_set_self _
  · have val : l.val ≠ k.val := fun h => e (Fin.ext h.symm)
    rw [if_neg e]
    exact Vector.getElem_set_ne _ _ val

theorem baseChanges_iff (old new : LaneConfig) :
    baseChanges old new = true ↔ old.base ≠ new.base ∨ old.baseGen ≠ new.baseGen := by
  simp only [baseChanges, Bool.or_eq_true, decide_eq_true_eq]

theorem bindsAnew_iff (old new : LaneConfig) : bindsAnew old new = true ↔
    ¬ (old.base = new.base ∧ old.baseGen = new.baseGen ∧ old.identity = new.identity) := by
  simp only [bindsAnew, Bool.or_eq_true, baseChanges_iff, decide_eq_true_eq]
  tauto

/-- What a commit of its record keeps of a lane, and what it takes from the entry. -/
theorem committedLane_config (slots : Vector SlotRecord 96) (q : LaneRecord) (r : StagedLane) :
    (committedLane slots q r).config = { committedConfig slots q.config r with
      ceiling := if baseChanges q.config (committedConfig slots q.config r) then 1 else q.config.ceiling } ∧
    (committedLane slots q r).counter =
      (if baseChanges q.config (committedConfig slots q.config r) then 1 else q.counter) ∧
    (committedLane slots q r).lostCommit = none ∧
    { committedLane slots q r with config := q.config, counter := q.counter, lostCommit := q.lostCommit } = q := by
  unfold committedLane
  dsimp only
  split <;> exact ⟨rfl, rfl, rfl, rfl⟩

theorem committedState_eq (st : LaneState) : ((∀ c, st ≠ .faulted c) → committedState st = st) ∧
    ((∃ c, st = .faulted c) → committedState st = .suspended .control) := by
  cases st <;> simp [committedState]

/-- The identity that a LANE entry binds joins the bound identities of its base slot, where it is bound anew. -/
theorem applyBinding_spec (lanes : Vector LaneRecord 48) (slots : Vector SlotRecord 96) (l : LaneId) (r : StagedLane) :
    (∀ n, slotOf r.base = some n → (applyBinding lanes slots ⟨l.val, .lane r⟩) =
      if lanes[l].config.base = some n ∧ lanes[l].config.baseGen = some slots[n].generation ∧
        lanes[l].config.identity = some r.identity then slots
      else slots.set n { slots[n] with bound := slots[n].bound ++ [r.identity] }) ∧
    (slotOf r.base = none → applyBinding lanes slots ⟨l.val, .lane r⟩ = slots) := by
  have base : (committedConfig slots lanes[l].config r).base = slotOf r.base := rfl
  have unfolds : applyBinding lanes slots ⟨l.val, .lane r⟩ = (committedConfig slots lanes[l].config r).base.elim slots
      (fun n => if bindsAnew lanes[l].config (committedConfig slots lanes[l].config r) then
        slots.set n { slots[n] with bound := slots[n].bound ++ [r.identity] } else slots) := by
    refine (dif_pos l.isLt).trans ?_
    dsimp only
    cases (committedConfig slots lanes[l].config r).base <;> rfl
  rw [unfolds, base]
  refine ⟨fun n is => ?_, fun is => by rw [is, Option.elim_none]⟩
  have binds : bindsAnew lanes[l].config (committedConfig slots lanes[l].config r) = true ↔
      ¬ (lanes[l].config.base = some n ∧ lanes[l].config.baseGen = some slots[n].generation ∧
        lanes[l].config.identity = some r.identity) := by
    have gen : (committedConfig slots lanes[l].config r).baseGen = some slots[n].generation := by
      have committed : (committedConfig slots lanes[l].config r).baseGen =
          (slotOf r.base).map (fun n => slots[n].generation) := rfl
      rw [committed, is, Option.map_some]
    rw [bindsAnew_iff, base, is, gen]
    exact Iff.rfl
  rw [is, Option.elim_some]
  by_cases same : lanes[l].config.base = some n ∧ lanes[l].config.baseGen = some slots[n].generation ∧
      lanes[l].config.identity = some r.identity
  · rw [if_pos same, if_neg (fun h => binds.mp h same)]
  · rw [if_neg same, if_pos (binds.mpr same)]

/-- Settles O26: each kind of entry on the record it names and on the others. -/
theorem committedRecords : Obligations.CommittedRecords := by
  refine ⟨fun slots n u k c => ?_, fun slots lanes l r new is => ?_⟩
  · refine ⟨?_, ?_, fun m ne => ?_⟩
    · rw [(applySlot_spec slots n n u k c).1, if_pos rfl, writtenSlot, writtenGeneration_eq]
    · rw [(applySlot_spec slots n n u k c).2, if_pos rfl, erasedSlot]
    · rw [(applySlot_spec slots n m u k c).1, (applySlot_spec slots n m u k c).2, if_neg ne, if_neg ne]
      exact ⟨rfl, rfl⟩
  · rw [applyLane_spec, if_pos rfl] at is
    obtain ⟨config, counter, lost, rest⟩ := committedLane_config slots lanes[l] r
    rw [← is] at config counter lost rest
    have state : new.config.state = committedState lanes[l].config.state := by
      rw [config]
      rfl
    have base : new.config.base = (committedConfig slots lanes[l].config r).base := by rw [config]
    have gen : new.config.baseGen = (committedConfig slots lanes[l].config r).baseGen := by rw [config]
    have ceiling : new.config.ceiling = if baseChanges lanes[l].config (committedConfig slots lanes[l].config r) then 1
        else lanes[l].config.ceiling := by rw [config]
    obtain ⟨binds, unbound⟩ := applyBinding_spec lanes slots l r
    refine ⟨by rw [config]; rfl, by rw [config]; rfl, by rw [config]; rfl, by rw [config]; rfl, by rw [config]; rfl,
      by rw [config]; rfl, base, gen, (congrArg LaneRecord.recent rest :), (congrArg LaneRecord.lastAccepted rest :),
      (congrArg LaneRecord.tagFailures rest :), fun sound => ?_, fun faulted => ?_, fun sameBase sameGen => ?_, fun changes => ?_,
      lost, fun k ne => ?_, fun n is => ?_, fun m other => ?_⟩
    · rw [state, (committedState_eq _).1 sound]
    · rw [state, (committedState_eq _).2 faulted]
    · have keeps : ¬ baseChanges lanes[l].config (committedConfig slots lanes[l].config r) = true := by
        rw [baseChanges_iff, ← base, ← gen, sameBase, sameGen]
        exact fun h => h.elim (fun ne => ne rfl) (fun ne => ne rfl)
      rw [counter, ceiling, if_neg keeps, if_neg keeps]
      exact ⟨rfl, rfl⟩
    · have resets : baseChanges lanes[l].config (committedConfig slots lanes[l].config r) = true := by
        rw [baseChanges_iff, ← base, ← gen]
        exact changes.imp Ne.symm Ne.symm
      rw [counter, ceiling, if_pos resets, if_pos resets]
      exact ⟨rfl, rfl⟩
    · rw [applyLane_spec, if_neg ne]
    · rw [binds n is]
      split
      · rfl
      · exact Vector.getElem_set_self _
    · cases bound : slotOf r.base with
      | none => rw [unbound bound]
      | some n =>
        have val : n.val ≠ m.val := fun h => other (bound.trans (congrArg some (Fin.ext h)))
        rw [binds n bound]
        split
        · rfl
        · exact Vector.getElem_set_ne _ _ val

end Sys2Proof.Machine
end

section
/-! SUPPORT. STAGE (R137, R139, R140). -/

namespace Sys2Proof.Machine

open Sys2Proof.Safety

/-! ## The index a STAGE names (R139) -/

theorem ChangeSet.setLast_entries (c : ChangeSet) (t : StageTable) (k : Nat) : (c.setLast t k).entries = c.entries := by
  cases t <;> rfl

theorem ChangeSet.setLast_last (c : ChangeSet) (t u : StageTable) (k : Nat) :
    (c.setLast t k).last u = if u = t then some k else c.last u := by
  cases t <;> cases u <;> rfl

/-- An index given is used as it is; NEXT is one above the most recent (R139). -/
theorem ChangeSet.resolve_cases (c : ChangeSet) (t : StageTable) (index : Nat) :
    (index < 256 → c.resolve t index = some index) ∧
    (index = 65535 → c.last t = none → c.resolve t index = some 0) ∧
    (∀ k, index = 65535 → c.last t = some k → c.resolve t index = if k < 255 then some (k + 1) else none) ∧
    (256 ≤ index → index ≠ 65535 → c.resolve t index = none) := by
  unfold ChangeSet.resolve
  refine ⟨fun given => ?_, fun next none => ?_, fun k next some => ?_, fun high other => ?_⟩
  · rw [if_neg (by omega), if_pos given]
  · rw [if_pos next, none]
  · rw [if_pos next, some]
    simp only [Nat.add_lt_add_iff_right (n := k) (k := 1) (m := 255)]
  · rw [if_neg other, if_neg (by omega)]

/-- A set that differs in its idle timer alone names the same index. -/
theorem ChangeSet.resolve_idle (c : ChangeSet) (idle : Option Nat) (t : StageTable) (index : Nat) :
    ChangeSet.resolve { c with idle := idle } t index = c.resolve t index := by
  cases t <;> rfl

/-! ## An entry joins the set (R139) -/

theorem ChangeSet.stage_of_present {c : ChangeSet} {k : Nat} {r : StagedRecord}
    (present : ∃ e ∈ c.entries, e.isFor r.table k = true) : c.stage k r = some (ChangeSet.setLast { c with
      entries := c.entries.map (fun e => if e.isFor r.table k then ⟨k, r⟩ else e) } r.table k) :=
  if_pos (List.any_eq_true.mpr present)

theorem ChangeSet.stage_of_absent {c : ChangeSet} {k : Nat} {r : StagedRecord}
    (absent : ∀ e ∈ c.entries, e.isFor r.table k = false) :
    (c.entries.length < 32 → c.stage k r =
      some (ChangeSet.setLast { c with entries := c.entries ++ [⟨k, r⟩] } r.table k)) ∧
    (32 ≤ c.entries.length → c.stage k r = none) := by
  have none : ¬ (c.entries.any (fun e => e.isFor r.table k)) = true := by
    rw [Bool.not_eq_true, List.any_eq_false]
    exact fun e he => Bool.eq_false_iff.mp (absent e he)
  refine ⟨fun room => ?_, fun full => ?_⟩
  · exact (if_neg none).trans (if_pos room)
  · exact (if_neg none).trans (if_neg (Nat.not_lt.mpr full))

/-! ## The request (R139, R140) -/

/-- A STAGE of a readable entry answers by what the set makes of it. -/
theorem State.stageRequest_of_read {s : State} {p : Port} {code index k : Nat} {bytes : Bytes} {r : StagedRecord}
    (table : readStageTable code = some r.table) (resolved : (s.ctl p).changeSet.resolve r.table index = some k)
    (read : readRecord (s.controlKey p) code bytes = some r) :
    (∀ c, (s.ctl p).changeSet.stage k r = some c → s.stageRequest p code index bytes =
      ((s.setCtl p { s.ctl p with changeSet := c }).restartIdle p, ⟨.done, .staged k c.entries.length⟩)) ∧
    ((s.ctl p).changeSet.stage k r = none → s.stageRequest p code index bytes = (s, refusal .full)) := by
  unfold State.stageRequest
  simp only [table, resolved, read]
  exact ⟨fun c joins => by rw [joins], fun full => by rw [full]⟩

theorem State.stageRequest_of_unread {s : State} {p : Port} {code index : Nat} {bytes : Bytes}
    (bad : readStageTable code = none ∨ readRecord (s.controlKey p) code bytes = none ∨
      ∀ t, readStageTable code = some t → (s.ctl p).changeSet.resolve t index = none) :
    s.stageRequest p code index bytes = (s, refusal .malformed) := by
  unfold State.stageRequest
  cases table : readStageTable code with
  | none => rfl
  | some t =>
    dsimp only
    cases resolved : (s.ctl p).changeSet.resolve t index with
    | none => rfl
    | some k =>
      have unread : readRecord (s.controlKey p) code bytes = none := by
        rcases bad with none | unread | unresolved
        · exact absurd (table.symm.trans none) nofun
        · exact unread
        · exact absurd (resolved.symm.trans (unresolved t table)) nofun
      dsimp only
      rw [unread]

/-- The row of an accepted STAGE. -/
theorem State.exec_stage {s : State} {p : Port} {f : EthFrame} {g : ControlFrame} {code index : Nat} {bytes : Bytes}
    (haccepted : accepted s p f g) (read : g.read = some (.stage code index bytes)) :
    exec (.stage p f) s = .next (((heard s p g).stageRequest p code index bytes).1.answer p g (s.controlKey p)
      ((heard s p g).stageRequest p code index bytes).2 false) := by
  have run : exec (.stage p f) s = .next (s.receiveFrame p f) := rfl
  rw [run, State.receiveFrame_of_accepted haccepted]
  simp only [State.carryOut, read, State.replyCarried, Bool.false_eq_true, if_false]

theorem heard_controlKey (s : State) (p : Port) (g : ControlFrame) : (heard s p g).controlKey p = s.controlKey p :=
  State.controlKey_congr (by rw [heard_eq]; rfl) p

theorem heard_entries (s : State) (p : Port) (g : ControlFrame) :
    ((heard s p g).ctl p).changeSet.entries = (s.ctl p).changeSet.entries := by rw [heard_ctl]

/-- Settles O24: the index and the record are read in the state that has heard the frame, which differs from the one
before in the set's idle timer. -/
theorem stageJoinsTheSet : Obligations.StageJoinsTheSet := by
  refine ⟨fun c t index => ?_, fun p f g code index bytes s haccepted read => ?_⟩
  · obtain ⟨given, first, next, neither⟩ := c.resolve_cases t index
    exact ⟨given, first, next, neither, (c.setLast_last t t index).trans (if_pos rfl),
      fun u ne => (c.setLast_last t u index).trans (if_neg ne), c.setLast_entries t index⟩
  have resolve : ∀ t, ((heard s p g).ctl p).changeSet.resolve t index = (s.ctl p).changeSet.resolve t index := fun t => by
    rw [heard_ctl]
    exact ChangeSet.resolve_idle _ _ t index
  rw [State.exec_stage haccepted read]
  refine ⟨fun k r table resolved record => ?_, fun bad => ?_⟩
  · rw [← resolve] at resolved
    rw [← heard_controlKey s p g] at record
    obtain ⟨joins, full⟩ := State.stageRequest_of_read table resolved record
    rw [← heard_entries s p g]
    refine ⟨fun present => ?_, fun absent => ⟨fun room => ?_, fun none => ?_⟩⟩
    · rw [joins _ (ChangeSet.stage_of_present present), ChangeSet.setLast_entries, List.length_map]
    · rw [joins _ ((ChangeSet.stage_of_absent absent).1 room), ChangeSet.setLast_entries, List.length_append]
      rfl
    · rw [full ((ChangeSet.stage_of_absent absent).2 none)]
      rfl
  · rw [State.stageRequest_of_unread (s := heard s p g)]
    · rfl
    · simp only [resolve, heard_controlKey]
      exact bad

end Sys2Proof.Machine
end

section
/-! SUPPORT. ASK and its clear flag (R39, R101, R135, R160, R165 to R167, R173, R177). -/

namespace Sys2Proof.Machine

open Sys2Proof.Safety

/-! ## The row (R166) -/

/-- The row of an accepted ASK. -/
theorem State.exec_ask {s : State} {p : Port} {f : EthFrame} {g : ControlFrame} {table : AskTable} {first count : Nat}
    {clear : Bool} (row : AskTable) (haccepted : accepted s p f g) (read : g.read = some (.ask table first count clear)) :
    exec (askRow row p f) s = .next (((heard s p g).ask table first count clear).1.answer p g (s.controlKey p)
      ((heard s p g).ask table first count clear).2 false) := by
  have run : exec (askRow row p f) s = .next (s.receiveFrame p f) := by cases row <;> rfl
  rw [run, State.receiveFrame_of_accepted haccepted]
  simp only [State.carryOut, read, State.replyCarried, Bool.false_eq_true, if_false]

theorem heard_tableLength (s : State) (p : Port) (g : ControlFrame) (t : AskTable) :
    (heard s p g).tableLength t = s.tableLength t := by
  have log : (heard s p g).log = s.log := by
    rw [heard_eq]
    rfl
  cases t <;> simp only [State.tableLength, log]

/-- The snapshot of an ASK whose count and first item are good, and the refusal of any other (R166). -/
theorem State.ask_cases (s : State) (table : AskTable) (first count : Nat) (clear : Bool) :
    (1 ≤ count → count ≤ 64 → (table = .log ∨ first < s.tableLength table) → s.ask table first count clear =
      (if clear then s.askClear table first (s.askItems table first count).length else s,
        ⟨.done, .ask (s.askItems table first count) (s.askTotals table)⟩)) ∧
    (count = 0 ∨ 64 < count ∨ (table ≠ .log ∧ s.tableLength table ≤ first) →
      s.ask table first count clear = (s, refusal .malformed)) := by
  unfold State.ask
  refine ⟨fun low high inside => ?_, fun bad => ?_⟩
  · have good : ¬ (table ≠ .log ∧ s.tableLength table ≤ first) := fun h =>
      inside.elim h.1 (fun lt => absurd h.2 (Nat.not_le.mpr lt))
    rw [if_neg (by omega), if_neg good]
  · by_cases counts : count = 0 ∨ 64 < count
    · rw [if_pos counts]
    · have beyond : table ≠ .log ∧ s.tableLength table ≤ first :=
        (bad.resolve_left (fun h => counts (.inl h))).resolve_left (fun h => counts (.inr h))
      rw [if_neg counts, if_pos beyond]

/-! ## The clear flag (R160, R167, R173) -/

/-- Operations on one index after another: what the operation on index `j` makes of a part of the state, the others
leave alone. -/
theorem foldl_at {α : Type} (part : State → α) (op : State → Nat → State) (g : α → α) (j : Nat)
    (acts : ∀ s k, part (op s k) = if k = j then g (part s) else part s) (idem : ∀ a, g (g a) = g a) (ks : List Nat)
    (s : State) : part (ks.foldl op s) = if j ∈ ks then g (part s) else part s := by
  induction ks generalizing s with
  | nil => exact (if_neg List.not_mem_nil).symm
  | cons k ks ih =>
    rw [List.foldl_cons, ih, acts]
    by_cases here : k = j
    · subst here
      rw [if_pos rfl, if_pos List.mem_cons_self, idem, ite_self]
    · rw [if_neg here]
      exact if_congr (by rw [List.mem_cons]; exact ⟨.inr, fun h => h.resolve_left (Ne.symm here)⟩) rfl rfl

theorem mem_indexes (first n j : Nat) :
    j ∈ (List.range n).map (fun k => first + k) ↔ first ≤ j ∧ j < first + n := by
  simp only [List.mem_map, List.mem_range]
  constructor
  · rintro ⟨k, lt, rfl⟩
    omega
  · rintro ⟨low, high⟩
    exact ⟨j - first, by omega, by omega⟩

/-- A table cleared from the first index on: a part that stands at one index. -/
theorem foldl_indexes {α : Type} (part : State → α) (op : State → Nat → State) (g : α → α) (j : Nat)
    (acts : ∀ s k, part (op s k) = if k = j then g (part s) else part s) (idem : ∀ a, g (g a) = g a) (first n : Nat)
    (s : State) : part (((List.range n).map (fun k => first + k)).foldl op s) =
      if first ≤ j ∧ j < first + n then g (part s) else part s := by
  rw [foldl_at part op g j acts idem]
  exact if_congr (mem_indexes first n j) rfl rfl

/-- The index of a port's counters among the groups (R177). -/
def portGroup : Port → Nat
  | .s => 0
  | .c => 1

/-- The groups of counters, one for each index (R177). -/
theorem State.clearGroup_cases (s : State) (k : Nat) :
    (∃ p, k = portGroup p ∧ s.clearGroup k = s.countPort p (fun _ => zeroPortCounters)) ∨
    (k = 2 ∧ s.clearGroup k = { s with device := zeroDeviceCounters }) ∨
    (∃ l : LaneId, k = l.val + 3 ∧ s.clearGroup k = s.modLane l (fun r => { r with counters := zeroLaneCounters })) ∨
    (51 ≤ k ∧ s.clearGroup k = s) := by
  unfold State.clearGroup
  by_cases zero : k = 0
  · exact .inl ⟨.s, zero, if_pos zero⟩
  by_cases one : k = 1
  · exact .inl ⟨.c, one, by rw [if_neg zero, if_pos one]⟩
  by_cases two : k = 2
  · exact .inr (.inl ⟨two, by rw [if_neg zero, if_neg one, if_pos two]⟩)
  rw [if_neg zero, if_neg one, if_neg two]
  by_cases lane : k - 3 < 48
  · exact .inr (.inr (.inl ⟨⟨k - 3, lane⟩, (Nat.sub_add_cancel (by omega)).symm, dif_pos lane⟩))
  · exact .inr (.inr (.inr ⟨by omega, dif_neg lane⟩))

theorem portGroup_lt (p : Port) : portGroup p < 2 := by cases p <;> decide

theorem portGroup_ne {p q : Port} (h : p ≠ q) : portGroup p ≠ portGroup q := by
  cases p <;> cases q <;> simp_all [portGroup]

theorem State.clearGroup_port (s : State) (k : Nat) (p : Port) : ((s.clearGroup k).port p).counters =
    if k = portGroup p then zeroPortCounters else (s.port p).counters := by
  have low := portGroup_lt p
  rcases s.clearGroup_cases k with ⟨q, is, cleared⟩ | ⟨is, cleared⟩ | ⟨l, is, cleared⟩ | ⟨is, cleared⟩
  · rw [cleared, is, State.countPort]
    by_cases same : p = q
    · subst same
      rw [State.port_setPort_same, if_pos rfl]
    · rw [State.port_setPort_ne _ _ same, if_neg (fun h => portGroup_ne same h.symm)]
  · rw [cleared, if_neg (by omega)]
    rfl
  · rw [cleared, if_neg (by omega)]
    rfl
  · rw [cleared, if_neg (by omega)]

theorem State.clearGroup_device (s : State) (k : Nat) :
    (s.clearGroup k).device = if k = 2 then zeroDeviceCounters else s.device := by
  rcases s.clearGroup_cases k with ⟨q, is, cleared⟩ | ⟨is, cleared⟩ | ⟨l, is, cleared⟩ | ⟨is, cleared⟩
  · have low := portGroup_lt q
    rw [cleared, if_neg (by omega)]
    rfl
  · rw [cleared, if_pos is]
  · rw [cleared, if_neg (by omega)]
    rfl
  · rw [cleared, if_neg (by omega)]

theorem State.clearGroup_lane (s : State) (k : Nat) (l : LaneId) : (s.clearGroup k).lane l =
    if k = l.val + 3 then { s.lane l with counters := zeroLaneCounters } else s.lane l := by
  rcases s.clearGroup_cases k with ⟨q, is, cleared⟩ | ⟨is, cleared⟩ | ⟨j, is, cleared⟩ | ⟨is, cleared⟩
  · have low := portGroup_lt q
    rw [cleared, if_neg (by omega)]
    rfl
  · rw [cleared, if_neg (by omega)]
    rfl
  · rw [cleared, is, State.lane_modLane]
    exact if_congr ⟨fun h => by rw [h], fun h => Fin.ext (by omega)⟩ rfl rfl
  · have lt := l.isLt
    rw [cleared, if_neg (by omega)]

theorem State.clearEvent_event (s : State) (j : Nat) (k : EventNumber) :
    (s.clearEvent j).events[k] = if j = k.val then clearLatch else s.events[k] := by
  unfold State.clearEvent
  by_cases inside : j < 18
  · rw [dif_pos inside]
    exact Vector.getElem_set inside k.isLt
  · have lt := k.isLt
    rw [dif_neg inside, if_neg (by omega)]

theorem State.clearFault_map (s : State) (j : Nat) (q : Position) :
    (s.clearFault j).scrub.map[q] = if j = q.val then clearFaultEntry else s.scrub.map[q] := by
  unfold State.clearFault
  by_cases inside : j < 145
  · rw [dif_pos inside]
    exact Vector.getElem_set inside q.isLt
  · have lt := q.isLt
    rw [dif_neg inside, if_neg (by omega)]

/-- A fault map cleared writes the map alone. -/
theorem State.clearFault_leaves (s : State) (j : Nat) : ((s.clearFault j).scrub.suppress, (s.clearFault j).scrub.walk,
    (s.clearFault j).device) = (s.scrub.suppress, s.scrub.walk, s.device) := by
  unfold State.clearFault
  split <;> rfl

/-- What the clear flag makes of each table that has something to clear (R160, R167). -/
theorem askClear_spec (first n : Nat) (s : State) :
    (∀ p, ((s.askClear .counters first n).port p).counters =
      if first ≤ portGroup p ∧ portGroup p < first + n then zeroPortCounters else (s.port p).counters) ∧
    ((s.askClear .counters first n).device = if first ≤ 2 ∧ 2 < first + n then zeroDeviceCounters else s.device) ∧
    (∀ l : LaneId, (s.askClear .counters first n).lane l =
      if first ≤ l.val + 3 ∧ l.val + 3 < first + n then { s.lane l with counters := zeroLaneCounters } else s.lane l) ∧
    (∀ k : EventNumber, (s.askClear .events first n).events[k] =
      if first ≤ k.val ∧ k.val < first + n then clearLatch else s.events[k]) ∧
    (∀ q : Position, (s.askClear .faults first n).scrub.map[q] =
      if first ≤ q.val ∧ q.val < first + n then clearFaultEntry else s.scrub.map[q]) ∧
    ((s.askClear .faults first n).scrub.suppress, (s.askClear .faults first n).scrub.walk,
      (s.askClear .faults first n).device) = (s.scrub.suppress, s.scrub.walk, s.device) := by
  refine ⟨fun p => ?_, ?_, fun l => ?_, fun k => ?_, fun q => ?_, ?_⟩
  · exact foldl_indexes (fun t => (t.port p).counters) State.clearGroup (fun _ => zeroPortCounters) (portGroup p)
      (fun t k => t.clearGroup_port k p) (fun _ => rfl) first n s
  · exact foldl_indexes (fun t => t.device) State.clearGroup (fun _ => zeroDeviceCounters) 2
      (fun t k => t.clearGroup_device k) (fun _ => rfl) first n s
  · exact foldl_indexes (fun t => t.lane l) State.clearGroup (fun r => { r with counters := zeroLaneCounters }) (l.val + 3)
      (fun t k => t.clearGroup_lane k l) (fun _ => rfl) first n s
  · exact foldl_indexes (fun t => t.events[k]) State.clearEvent (fun _ => clearLatch) k.val
      (fun t j => t.clearEvent_event j k) (fun _ => rfl) first n s
  · exact foldl_indexes (fun t => t.scrub.map[q]) State.clearFault (fun _ => clearFaultEntry) q.val
      (fun t j => t.clearFault_map j q) (fun _ => rfl) first n s
  · exact foldl_keeps (fun t => (t.scrub.suppress, t.scrub.walk, t.device)) State.clearFault State.clearFault_leaves _ s

/-! ## The items an ASK returns (R166) -/

/-- The bytes of some items in a reply. -/
def itemBytes (items : List AskItem) : Nat := (items.map (fun x => x.lengthed.length)).sum

/-- The longest run that fits: it fits, and the item after it does not. -/
theorem fitting_spec (room : Nat) (items : List AskItem) : ∃ rest, items = fitting room items ++ rest ∧
    itemBytes (fitting room items) ≤ room ∧
    ∀ x more, rest = x :: more → room < itemBytes (fitting room items) + x.lengthed.length := by
  induction items generalizing room with
  | nil => exact ⟨[], rfl, Nat.zero_le _, fun _ _ h => absurd h nofun⟩
  | cons y items ih =>
    unfold fitting
    by_cases fits : y.lengthed.length ≤ room
    · obtain ⟨rest, split, within, next⟩ := ih (room - y.lengthed.length)
      have size : ∀ xs, itemBytes (y :: xs) = y.lengthed.length + itemBytes xs := fun xs => rfl
      rw [if_pos fits]
      refine ⟨rest, by rw [List.cons_append, ← split], ?_, fun x more is => ?_⟩
      · rw [size]
        omega
      · have := next x more is
        rw [size]
        omega
    · rw [if_neg fits]
      refine ⟨y :: items, rfl, Nat.zero_le _, fun x more is => ?_⟩
      obtain ⟨rfl, -⟩ := List.cons.inj is
      have empty : itemBytes [] = 0 := rfl
      rw [empty, Nat.zero_add]
      exact Nat.not_le.mp fits

/-- Every index below a table's length has an item (R166). -/
theorem State.askItem_isSome (s : State) (t : AskTable) {k : Nat} (inside : k < s.tableLength t) :
    ∃ x, s.askItem t k = some x := by
  cases t with
  | lane => exact ⟨_, dif_pos inside⟩
  | slot => exact ⟨_, dif_pos inside⟩
  | standIn => exact ⟨_, dif_pos inside⟩
  | settings => exact ⟨_, if_pos (Nat.lt_one_iff.mp inside)⟩
  | exchange => exact ⟨_, dif_pos inside⟩
  | log => exact ⟨_, by rw [State.askItem, List.getElem?_eq_getElem inside, Option.map_some]⟩
  | faults => exact ⟨_, dif_pos inside⟩
  | events => exact ⟨_, dif_pos inside⟩
  | counters =>
    have below : k - 3 < 48 := by
      have : k < 51 := inside
      omega
    unfold State.askItem State.counterItem
    dsimp only
    split
    · exact ⟨_, rfl⟩
    split
    · exact ⟨_, rfl⟩
    split
    · exact ⟨_, rfl⟩
    · exact ⟨_, rfl⟩

theorem map_some_filterMap {α β : Type} {f : α → Option β} {xs : List α} (all : ∀ x ∈ xs, ∃ y, f x = some y) :
    (xs.filterMap f).map some = xs.map f := by
  induction xs with
  | nil => rfl
  | cons x xs ih =>
    obtain ⟨y, is⟩ := all x List.mem_cons_self
    rw [List.filterMap_cons_some is, List.map_cons, List.map_cons, is, ih (fun z hz => all z (List.mem_cons_of_mem x hz))]

/-- The items returned are the first of those asked for, as many as the reply holds (R166, log 30). -/
theorem askItems_spec (table : AskTable) (first count : Nat) (s : State) :
    ∃ rest, ((List.range' first (min count (s.tableLength table - first))).map (s.askItem table)) =
        (s.askItems table first count ++ rest).map some ∧
      itemBytes (s.askItems table first count) ≤ 1477 - (s.askTotals table).bytes.length ∧
      ∀ x more, rest = x :: more →
        1477 - (s.askTotals table).bytes.length < itemBytes (s.askItems table first count) + x.lengthed.length := by
  have indexes : (List.range (min count (s.tableLength table - first))).map (fun k => first + k) =
      List.range' first (min count (s.tableLength table - first)) := (List.range'_eq_map_range ..).symm
  obtain ⟨rest, split, within, next⟩ := fitting_spec (1477 - (s.askTotals table).bytes.length)
    ((List.range' first (min count (s.tableLength table - first))).filterMap (s.askItem table))
  have items : s.askItems table first count = fitting (1477 - (s.askTotals table).bytes.length)
      ((List.range' first (min count (s.tableLength table - first))).filterMap (s.askItem table)) := by
    rw [← indexes]
    rfl
  rw [items]
  refine ⟨rest, ?_, within, next⟩
  rw [← split]
  refine (map_some_filterMap (fun k hk => s.askItem_isSome table ?_)).symm
  obtain ⟨i, lt, rfl⟩ := List.mem_range'.mp hk
  omega

end Sys2Proof.Machine
end

section
/-! SUPPORT. The fields an ASK returns (R39, R101, R135, R160, R166, R177). -/

namespace Sys2Proof.Machine

open Sys2Proof.Safety

theorem State.refCount_eq (s : State) (n : SlotId) : s.refCount n = s.lanes.toList.countP (fun r =>
    decide (r.config.state ≠ .unused) && (decide (r.config.link = some n) || decide (r.config.base = some n))) := by
  have names : ∀ c : LaneConfig, c.names n =
      (decide (c.state ≠ .unused) && (decide (c.link = some n) || decide (c.base = some n))) := fun c => by
    unfold LaneConfig.names
    rw [beq_eq_decide, beq_eq_decide]
  simp only [State.refCount, countNaming, names]

/-- The item of each index, with the fields its table gives (R166). -/
theorem askItem_spec (s : State) :
    (∀ l : LaneId, s.askItem .lane l.val = some (.lane ⟨(s.lane l).config, (s.lane l).counter, (s.lane l).openPayment,
      (s.lane l).tagFailures, (s.lane l).lastAccepted, (s.lane l).recent, s.log.countP (fun e => e.lane = l),
      s.jobInFlight l, (s.lane l).advancePending, (s.lane l).mailbox.map (fun f => (f.kind, f.xchg))⟩)) ∧
    (∀ n : SlotId, s.askItem .slot n.val = some (.slot ⟨(s.slot n).state, (s.slot n).usage, (s.slot n).generation,
      (s.slot n).check, s.lanes.toList.countP (fun r => decide (r.config.state ≠ .unused) &&
        (decide (r.config.link = some n) || decide (r.config.base = some n))), (s.slot n).bound.length⟩)) ∧
    (∀ i : EntryId, s.askItem .exchange i.val =
      some (.exchange ((s.exchange i).map (fun e => (e, e.deadline - s.clock))))) ∧
    (∀ k e, s.log[k]? = some e → s.askItem .log k = some (.log ⟨e.place, e.lane, e.kind, e.state, e.written, e.seq,
      e.orig, e.cause, e.counter, e.base, e.gen, e.cardClass, e.amount, e.xchg, e.repeatCount,
      e.message.messageLength⟩)) ∧
    (∀ c : CardClass, s.askItem .standIn c.val = some (.standIn s.standIn[c])) ∧
    s.askItem .settings 0 = some (.settings s.settings) ∧
    s.askItem .counters 0 = some (.portCounters (s.port .s).counters) ∧
    s.askItem .counters 1 = some (.portCounters (s.port .c).counters) ∧
    s.askItem .counters 2 = some (.deviceCounters s.device) ∧
    (∀ l : LaneId, s.askItem .counters (l.val + 3) = some (.laneCounters (s.lane l).counters)) ∧
    (∀ q : Position, s.askItem .faults q.val = some (.fault s.scrub.map[q])) ∧
    (∀ k : EventNumber, s.askItem .events k.val = some (.event s.events[k] s.settings.notices[k])) := by
  refine ⟨fun l => dif_pos l.isLt, fun n => ?_, fun i => dif_pos i.isLt, fun k e is => ?_, fun c => dif_pos c.isLt, rfl, rfl,
    rfl, rfl, fun l => ?_, fun q => dif_pos q.isLt, fun k => dif_pos k.isLt⟩
  · rw [← State.refCount_eq]
    exact dif_pos n.isLt
  · simp only [State.askItem, is, Option.map_some]
    rfl
  · have zero : ¬ l.val + 3 = 0 := by omega
    have one : ¬ l.val + 3 = 1 := by omega
    have two : ¬ l.val + 3 = 2 := by omega
    have lane : l.val + 3 - 3 < 48 := l.isLt
    simp only [State.askItem, State.counterItem]
    rw [if_neg zero, if_neg one, if_neg two, dif_pos lane]
    rfl

/-- Settles O23: the request's checks; the clear flag index by index; the run of items that fits; and the fields. -/
theorem askReturnsAndClears : Obligations.AskReturnsAndClears := by
  refine ⟨fun table rowTable p f g first count clear s haccepted read => ?_, fun first n s => ?_,
    fun table first count s size is => ?_, fun s => ?_⟩
  · obtain ⟨good, bad⟩ := (heard s p g).ask_cases table first count clear
    rw [heard_tableLength] at good bad
    rw [State.exec_ask rowTable haccepted read]
    refine ⟨fun low high inside => by rw [good low high inside], fun wrong => by rw [bad wrong]; rfl, fun c e f n => ?_⟩
    cases table with
    | counters => exact absurd rfl c
    | events => exact absurd rfl e
    | faults => exact absurd rfl f
    | _ => rfl
  · obtain ⟨ports, device, lanes, events, faults, others⟩ := askClear_spec first n s
    refine ⟨fun p => ?_, device, lanes, events, faults, rfl, rfl, congrArg Prod.fst others,
      congrArg (fun x => x.2.1) others, congrArg (fun x => x.2.2) others⟩
    rw [ports p]
    cases p <;> rfl
  · have same : size = itemBytes := funext is
    rw [same]
    exact askItems_spec table first count s
  · obtain ⟨lane, slot, exchange, log, standIn, settings, shop, chain, device, lanes, faults, events⟩ := askItem_spec s
    exact ⟨lane, slot, exchange, log, standIn, settings, shop, chain, device, lanes, faults, events, rfl, rfl, rfl⟩

end Sys2Proof.Machine
end

section
/-! SUPPORT. COMMIT's judgement (R142 to R145). -/

namespace Sys2Proof.Machine

open Sys2Proof.Safety

/-! ## The entries in the set's order (R142) -/

/-- What the entry at a place of a list is judged, the list beginning with some slots. -/
def State.judgedAt (s : State) (p : Port) (es : List StagedEntry) (lanes : Vector LaneRecord 48)
    (slots : Vector SlotRecord 96) (rest : List StagedEntry) (j : Nat) (e : StagedEntry) : Option ControlReason :=
  s.judgeEntry p es ((rest.take j).foldl (applyBinding s.lanes) slots) lanes e

/-- The judgement of a list of entries: none fails, or the first that fails decides. -/
theorem State.judgeFrom_spec (s : State) (p : Port) (es : List StagedEntry) (lanes : Vector LaneRecord 48)
    (rest : List StagedEntry) (slots : Vector SlotRecord 96) (k : Nat) :
    (s.judgeFrom p es lanes slots k rest = none ↔
      ∀ j e, rest[j]? = some e → s.judgedAt p es lanes slots rest j e = none) ∧
    ∀ e n reason, s.judgeFrom p es lanes slots k rest = some (e, n, reason) ↔ ∃ j, n = k + j ∧ rest[j]? = some e ∧
      s.judgedAt p es lanes slots rest j e = some reason ∧
      ∀ m x, m < j → rest[m]? = some x → s.judgedAt p es lanes slots rest m x = none := by
  induction rest generalizing slots k with
  | nil => exact ⟨⟨fun _ j e h => absurd h nofun, fun _ => rfl⟩, fun e n reason => ⟨nofun, fun ⟨j, _, h, _⟩ => absurd h nofun⟩⟩
  | cons y rest ih =>
    obtain ⟨none_iff, some_iff⟩ := ih (applyBinding s.lanes slots y) (k + 1)
    have first : ∀ e, s.judgedAt p es lanes slots (y :: rest) 0 e = s.judgeEntry p es slots lanes e := fun _ => rfl
    have later : ∀ j e, s.judgedAt p es lanes slots (y :: rest) (j + 1) e =
        s.judgedAt p es lanes (applyBinding s.lanes slots y) rest j e := fun _ _ => rfl
    cases verdict : s.judgeEntry p es slots lanes y with
    | some r =>
      have fails : s.judgeFrom p es lanes slots k (y :: rest) = some (y, k, r) := by
        rw [State.judgeFrom, verdict]
      rw [fails]
      refine ⟨⟨nofun, fun all => ?_⟩, fun e n reason => ⟨fun is => ?_, ?_⟩⟩
      · exact absurd ((first y).symm.trans (all 0 y rfl)) (by rw [verdict]; nofun)
      · obtain ⟨rfl, rfl, rfl⟩ : y = e ∧ k = n ∧ r = reason := by simpa using is
        exact ⟨0, rfl, rfl, verdict, fun m x h => absurd h (Nat.not_lt_zero m)⟩
      · rintro ⟨j, rfl, at_, is, before⟩
        cases j with
        | zero =>
          obtain rfl : y = e := Option.some.inj at_
          rw [first, verdict] at is
          rw [Option.some.inj is, Nat.add_zero]
        | succ j => exact absurd ((first y).symm.trans (before 0 y (Nat.succ_pos j) rfl)) (by rw [verdict]; nofun)
    | none =>
      have passes : s.judgeFrom p es lanes slots k (y :: rest) =
          s.judgeFrom p es lanes (applyBinding s.lanes slots y) (k + 1) rest := by
        rw [State.judgeFrom, verdict]
      rw [passes, none_iff]
      refine ⟨⟨fun all j e at_ => ?_, fun all j e at_ => ?_⟩, fun e n reason => ?_⟩
      · cases j with
        | zero =>
          obtain rfl : y = e := Option.some.inj at_
          exact verdict
        | succ j => exact all j e at_
      · exact all (j + 1) e at_
      · rw [some_iff]
        constructor
        · rintro ⟨j, rfl, at_, is, before⟩
          refine ⟨j + 1, by omega, at_, is, fun m x lt atm => ?_⟩
          cases m with
          | zero =>
            obtain rfl : y = x := Option.some.inj atm
            exact verdict
          | succ m => exact before m x (Nat.lt_of_succ_lt_succ lt) atm
        · rintro ⟨j, rfl, at_, is, before⟩
          cases j with
          | zero =>
            obtain rfl : y = e := Option.some.inj at_
            exact absurd (is.symm.trans verdict) nofun
          | succ j => exact ⟨j, by omega, at_, is, fun m x lt atm => before (m + 1) x (Nat.succ_lt_succ lt) atm⟩

theorem judge_spec (p : Port) (es : List StagedEntry) (s : State) (verdict : Nat → StagedEntry → Option ControlReason)
    (is : ∀ k e, verdict k e = s.judgeEntry p es (slotsBefore s es k) (lanesApplied s es) e) :
    (s.judge p es = none ↔ ∀ k e, es[k]? = some e → verdict k e = none) ∧
    (∀ e k reason, s.judge p es = some (e, k, reason) ↔ ∃ n, k = n + 1 ∧ es[n]? = some e ∧
      verdict n e = some reason ∧ ∀ m x, m < n → es[m]? = some x → verdict m x = none) := by
  obtain ⟨none_iff, some_iff⟩ := s.judgeFrom_spec p es (lanesApplied s es) es (slotsWritten s es) 1
  have at_ : ∀ k e, s.judgedAt p es (lanesApplied s es) (slotsWritten s es) es k e = verdict k e := fun k e => (is k e).symm
  simp only [at_] at none_iff some_iff
  refine ⟨none_iff, fun e k reason => (some_iff e k reason).trans ?_⟩
  simp only [Nat.add_comm 1]

/-! ## The first check that fails -/

theorem firstFailing_cons (ok : Bool) (r : ControlReason) (rest : List (Bool × ControlReason)) :
    firstFailing ((ok, r) :: rest) = if ok = true then firstFailing rest else some r := rfl

/-- Checks with one reason between them: all pass, or that is the reason. -/
theorem firstFailing_same (r : ControlReason) (oks : List Bool) :
    firstFailing (oks.map (fun ok => (ok, r))) = if ∀ ok ∈ oks, ok = true then none else some r := by
  induction oks with
  | nil => exact (if_pos nofun).symm
  | cons ok oks ih =>
    rw [List.map_cons, firstFailing_cons, ih]
    simp only [List.forall_mem_cons]
    by_cases here : ok = true
    · rw [if_pos here]
      exact if_congr ⟨fun h => ⟨here, h⟩, And.right⟩ rfl rfl
    · rw [if_neg here, if_neg (fun h => here h.1)]

/-! ## A LANE entry (R143) -/

theorem admitsCommit_iff (st : LaneState) : admitsCommit st = true ↔
    st = .unused ∨ (∃ c, st = .suspended c) ∨ ∃ c, st = .faulted c := by
  cases st <;> simp [admitsCommit]

theorem slotOf_eq_some (k : Nat) (n : SlotId) : slotOf k = some n ↔ k = n.val ∧ k ≠ 0 := by
  unfold slotOf
  split
  · split
    · rename_i zero
      exact ⟨nofun, fun h => absurd zero h.2⟩
    · rename_i lt nonzero
      rw [Option.some.injEq, Fin.ext_iff]
      exact ⟨fun h => ⟨h, nonzero⟩, And.left⟩
  · rename_i big
    exact ⟨nofun, fun h => absurd (h.1 ▸ n.isLt) big⟩

theorem activeIn_iff (slots : Vector SlotRecord 96) (n : Option SlotId) (u : SlotUsage) :
    activeIn slots n u = true ↔ ∃ m, n = some m ∧ slots[m].state = .active ∧ slots[m].usage = some u := by
  cases n with
  | none => simp [activeIn]
  | some m => simp only [activeIn, Bool.and_eq_true, decide_eq_true_eq, Option.some.injEq, exists_eq_left']

theorem uniqueIn_iff (lanes : Vector LaneRecord 48) (l : LaneId) : uniqueIn lanes l = true ↔
    (lanes[l].config.state = .unused ∨ ∀ k : LaneId, k ≠ l → lanes[k].config.state ≠ .unused →
      lanes[k].config.till ≠ lanes[l].config.till ∧ lanes[k].config.identity ≠ lanes[l].config.identity) := by
  have each : ∀ k : LaneId, (k = l ∨ lanes[k].config.state = .unused) ∨
      (lanes[k].config.till ≠ lanes[l].config.till ∧ lanes[k].config.identity ≠ lanes[l].config.identity) ↔
      (k ≠ l → lanes[k].config.state ≠ .unused →
        lanes[k].config.till ≠ lanes[l].config.till ∧ lanes[k].config.identity ≠ lanes[l].config.identity) := fun k => by
    tauto
  simp only [uniqueIn, Bool.or_eq_true, decide_eq_true_eq, List.all_eq_true, allLanes, List.mem_finRange, true_implies,
    Bool.and_eq_true, each]

theorem bindingPasses_iff (slots : Vector SlotRecord 96) (old : LaneConfig) (r : StagedLane) {base : SlotId}
    (is : slotOf r.base = some base) : bindingPasses slots old (committedConfig slots old r) r.identity = true ↔
      (old.base = some base ∧ old.baseGen = some slots[base].generation ∧ old.identity = some r.identity) ∨
        (r.identity ∉ slots[base].bound ∧ slots[base].bound.length < 48) := by
  have new : (committedConfig slots old r).base = some base := is
  have gen : (committedConfig slots old r).baseGen = some slots[base].generation := by
    have committed : (committedConfig slots old r).baseGen = (slotOf r.base).map (fun n => slots[n].generation) := rfl
    rw [committed, is, Option.map_some]
  have anew := bindsAnew_iff old (committedConfig slots old r)
  rw [new, gen] at anew
  have keeps : bindsAnew old (committedConfig slots old r) = false ↔ (old.base = some base ∧
      old.baseGen = some slots[base].generation ∧ old.identity = some r.identity) := by
    rw [← Bool.not_eq_true, anew, not_not]
    exact Iff.rfl
  unfold bindingPasses
  rw [new]
  dsimp only
  simp only [Bool.or_eq_true, Bool.and_eq_true, Bool.not_eq_true', decide_eq_true_eq, keeps]
  refine or_congr_right (and_congr ?_ Iff.rfl)
  rw [← Bool.not_eq_true, List.contains_iff_mem]

/-- The checks of a LANE entry after the lane's idleness (R143, checks 3 to 7). -/
def laneChecks (slots : Vector SlotRecord 96) (lanes : Vector LaneRecord 48) (l : LaneId) (old : LaneConfig)
    (r : StagedLane) : List Bool :=
  [decide (1 ≤ r.till) && decide (r.till ≤ 4095) && printableIdentity r.identity && r.station.all individual &&
      decide (r.classes.toNat < 1024),
    decide (2 ≤ r.link) && decide (r.link ≤ 95) && decide (2 ≤ r.base) && decide (r.base ≤ 95),
    activeIn slots (committedConfig slots old r).link .link && activeIn slots (committedConfig slots old r).base .base,
    uniqueIn lanes l, bindingPasses slots old (committedConfig slots old r) r.identity]

theorem State.judgeLane_eq (s : State) (slots : Vector SlotRecord 96) (lanes : Vector LaneRecord 48) (l : LaneId)
    (r : StagedLane) : s.judgeLane slots lanes l.val r =
      if (admitsCommit (s.lane l).config.state && (s.lane l).mailbox.isNone && !s.jobInFlight l) = true then
        (if ∀ ok ∈ laneChecks slots lanes l (s.lane l).config r, ok = true then none else some .badReference)
      else some .conflict := by
  rw [← firstFailing_same]
  exact dif_pos l.isLt

/-- The fields of a LANE entry (R143, check 3). -/
theorem laneFields_iff (r : StagedLane) :
    (decide (1 ≤ r.till) && decide (r.till ≤ 4095) && printableIdentity r.identity && r.station.all individual &&
      decide (r.classes.toNat < 1024)) = true ↔
    1 ≤ r.till ∧ r.till ≤ 4095 ∧ printableIdentity r.identity = true ∧
      (∀ a, r.station = some a → individual a = true) ∧ r.classes.toNat < 1024 := by
  simp only [Bool.and_eq_true, decide_eq_true_eq, and_assoc, Option.all_eq_true]

/-- The slots of a LANE entry and its binding (R143, checks 4, 5 and 7). -/
theorem laneSlots_iff (slots : Vector SlotRecord 96) (old : LaneConfig) (r : StagedLane) :
    ((decide (2 ≤ r.link) && decide (r.link ≤ 95) && decide (2 ≤ r.base) && decide (r.base ≤ 95)) = true ∧
      (activeIn slots (committedConfig slots old r).link .link &&
        activeIn slots (committedConfig slots old r).base .base) = true ∧
      bindingPasses slots old (committedConfig slots old r) r.identity = true) ↔
    ∃ link base : SlotId, r.link = link.val ∧ r.base = base.val ∧ 2 ≤ link.val ∧ 2 ≤ base.val ∧
      slots[link].state = .active ∧ slots[link].usage = some .link ∧ slots[base].state = .active ∧
      slots[base].usage = some .base ∧
      ((old.base = some base ∧ old.baseGen = some slots[base].generation ∧ old.identity = some r.identity) ∨
        (r.identity ∉ slots[base].bound ∧ slots[base].bound.length < 48)) := by
  have link_eq : (committedConfig slots old r).link = slotOf r.link := rfl
  have base_eq : (committedConfig slots old r).base = slotOf r.base := rfl
  simp only [Bool.and_eq_true, decide_eq_true_eq, activeIn_iff, link_eq, base_eq]
  constructor
  · rintro ⟨⟨⟨⟨low, -⟩, low'⟩, -⟩, ⟨⟨link, isLink, active, usage⟩, base, isBase, active', usage'⟩, binds⟩
    rw [bindingPasses_iff slots old r isBase] at binds
    obtain ⟨link_val, -⟩ := (slotOf_eq_some _ _).mp isLink
    obtain ⟨base_val, -⟩ := (slotOf_eq_some _ _).mp isBase
    exact ⟨link, base, link_val, base_val, link_val ▸ low, base_val ▸ low', active, usage, active', usage', binds⟩
  · rintro ⟨link, base, link_val, base_val, low, low', active, usage, active', usage', binds⟩
    have isLink : slotOf r.link = some link := (slotOf_eq_some _ _).mpr ⟨link_val, by omega⟩
    have isBase : slotOf r.base = some base := (slotOf_eq_some _ _).mpr ⟨base_val, by omega⟩
    have high := link.isLt
    have high' := base.isLt
    exact ⟨⟨⟨⟨by omega, by omega⟩, by omega⟩, by omega⟩, ⟨⟨link, isLink, active, usage⟩, base, isBase, active', usage'⟩,
      (bindingPasses_iff slots old r isBase).mpr binds⟩

theorem laneChecks_iff (slots : Vector SlotRecord 96) (lanes : Vector LaneRecord 48) (l : LaneId) (old : LaneConfig)
    (r : StagedLane) : (∀ ok ∈ laneChecks slots lanes l old r, ok = true) ↔
      (1 ≤ r.till ∧ r.till ≤ 4095 ∧ printableIdentity r.identity = true ∧
          (∀ a, r.station = some a → individual a = true) ∧ r.classes.toNat < 1024) ∧
        (∃ link base : SlotId, r.link = link.val ∧ r.base = base.val ∧ 2 ≤ link.val ∧ 2 ≤ base.val ∧
          slots[link].state = .active ∧ slots[link].usage = some .link ∧ slots[base].state = .active ∧
          slots[base].usage = some .base ∧
          ((old.base = some base ∧ old.baseGen = some slots[base].generation ∧ old.identity = some r.identity) ∨
            (r.identity ∉ slots[base].bound ∧ slots[base].bound.length < 48))) ∧
        (lanes[l].config.state = .unused ∨ ∀ k : LaneId, k ≠ l → lanes[k].config.state ≠ .unused →
          lanes[k].config.till ≠ lanes[l].config.till ∧ lanes[k].config.identity ≠ lanes[l].config.identity) := by
  rw [← laneSlots_iff, ← laneFields_iff, ← uniqueIn_iff]
  simp only [laneChecks, List.forall_mem_cons, List.not_mem_nil, false_implies, implies_true, and_true]
  tauto

/-- The judgement of a LANE entry: the index, the lane's idleness, and then the rest with one reason (R143). -/
theorem judgeEntry_lane (p : Port) (es : List StagedEntry) (slots : Vector SlotRecord 96) (lanes : Vector LaneRecord 48)
    (index : Nat) (r : StagedLane) (s : State) :
    (48 ≤ index → s.judgeEntry p es slots lanes ⟨index, .lane r⟩ = some .badReference) ∧
    (∀ (l : LaneId) (idle good : Prop), index = l.val →
      (idle ↔ ((s.lane l).config.state = .unused ∨ (∃ c, (s.lane l).config.state = .suspended c) ∨
          ∃ c, (s.lane l).config.state = .faulted c) ∧ (s.lane l).mailbox = none ∧ s.jobInFlight l = false) →
      (good ↔ ∀ ok ∈ laneChecks slots lanes l (s.lane l).config r, ok = true) →
      (¬ idle → s.judgeEntry p es slots lanes ⟨index, .lane r⟩ = some .conflict) ∧
      (idle → ¬ good → s.judgeEntry p es slots lanes ⟨index, .lane r⟩ = some .badReference) ∧
      (idle → good → s.judgeEntry p es slots lanes ⟨index, .lane r⟩ = none)) := by
  refine ⟨fun beyond => dif_neg (Nat.not_lt.mpr beyond), fun l idle good is idle_iff good_iff => ?_⟩
  subst is
  have judged : s.judgeEntry p es slots lanes ⟨l.val, .lane r⟩ = s.judgeLane slots lanes l.val r := rfl
  have quiet : (admitsCommit (s.lane l).config.state && (s.lane l).mailbox.isNone && !s.jobInFlight l) = true ↔ idle := by
    rw [idle_iff, Bool.and_eq_true, Bool.and_eq_true, admitsCommit_iff, Option.isNone_iff_eq_none, Bool.not_eq_true',
      and_assoc]
  rw [judged, State.judgeLane_eq]
  refine ⟨fun busy => ?_, fun rests bad => ?_, fun rests passes => ?_⟩
  · rw [if_neg (fun h => busy (quiet.mp h))]
  · rw [if_pos (quiet.mpr rests), if_neg (fun h => bad (good_iff.mpr h))]
  · rw [if_pos (quiet.mpr rests), if_pos (good_iff.mp passes)]

end Sys2Proof.Machine
end

section
/-! SUPPORT. COMMIT's judgement: the SLOT, STANDIN and SETTINGS entries (R144, R145). -/

namespace Sys2Proof.Machine

open Sys2Proof.Safety

/-! ## What a SLOT entry is checked against -/

theorem forall_mem_lanes (lanes : Vector LaneRecord 48) (P : LaneRecord → Prop) :
    (∀ r ∈ lanes.toList, P r) ↔ ∀ l : LaneId, P lanes[l] := by
  constructor
  · exact fun all l => all _ (Vector.mem_toList_iff.mpr (Vector.getElem_mem l.isLt))
  · intro all r mem
    obtain ⟨i, lt, rfl⟩ := Vector.mem_iff_getElem.mp (Vector.mem_toList_iff.mp mem)
    exact all ⟨i, lt⟩

theorem slotAllowed_erase_iff (p : Port) (n : SlotId) (generation : Nat) :
    slotAllowed p n generation none = true ↔ n ≠ controlSlot p.opposite ∧ 2 ≤ n.val := by
  unfold slotAllowed
  rw [Bool.and_eq_true, decide_eq_true_eq, decide_eq_true_eq]

theorem slotAllowed_write_iff (p : Port) (n : SlotId) (generation : Nat) (u : SlotUsage) :
    slotAllowed p n generation (some u) = true ↔ n ≠ controlSlot p.opposite ∧
      (n.val < 2 → u = .control) ∧ (2 ≤ n.val → u ≠ .control ∧ generation < 65535) := by
  unfold slotAllowed
  rw [Bool.and_eq_true, decide_eq_true_eq]
  refine and_congr_right' ?_
  by_cases low : n.val < 2
  · simp only [low, if_true, decide_eq_true_eq, true_implies, show ¬ 2 ≤ n.val from Nat.not_le.mpr low, false_implies,
      and_true]
  · simp only [low, if_false, Bool.and_eq_true, decide_eq_true_eq, false_implies, true_and,
      show 2 ≤ n.val from Nat.not_lt.mp low, true_implies]
    exact Iff.rfl

theorem usageSuits_iff (lanes : Vector LaneRecord 48) (n : SlotId) (u : SlotUsage) : usageSuits lanes n u = true ↔
    ∀ l : LaneId, lanes[l].config.state ≠ .unused →
      (lanes[l].config.link = some n → u = .link) ∧ (lanes[l].config.base = some n → u = .base) := by
  unfold usageSuits
  rw [List.all_eq_true, forall_mem_lanes lanes (fun r => (decide (r.config.state = .unused) ||
    ((decide (r.config.link ≠ some n) || decide (u = .link)) &&
      (decide (r.config.base ≠ some n) || decide (u = .base)))) = true)]
  simp only [Bool.or_eq_true, Bool.and_eq_true, decide_eq_true_eq, or_iff_not_imp_left, not_not, ne_eq]

theorem StagedEntry.isFor_iff (e : StagedEntry) (t : StageTable) (k : Nat) :
    e.isFor t k = true ↔ e.record.table = t ∧ e.index = k := by
  simp only [StagedEntry.isFor, Bool.and_eq_true, beq_iff_eq]

theorem State.baseLanesStaged_iff (s : State) (es : List StagedEntry) (n : SlotId) : s.baseLanesStaged es n = true ↔
    ∀ l : LaneId, (s.lane l).config.state ≠ .unused → (s.lane l).config.base = some n →
      ∃ e ∈ es, e.record.table = .lane ∧ e.index = l.val := by
  simp only [State.baseLanesStaged, List.all_eq_true, allLanes, List.mem_finRange, true_implies, Bool.or_eq_true,
    decide_eq_true_eq, List.any_eq_true, StagedEntry.isFor_iff, ne_eq]
  refine forall_congr' fun l => ?_
  tauto

theorem countNaming_eq_zero_iff (lanes : Vector LaneRecord 48) (n : SlotId) : countNaming lanes n = 0 ↔
    ∀ l : LaneId, lanes[l].config.state ≠ .unused →
      lanes[l].config.link ≠ some n ∧ lanes[l].config.base ≠ some n := by
  unfold countNaming
  rw [List.countP_eq_zero, forall_mem_lanes lanes (fun r => ¬ r.config.names n = true)]
  simp only [LaneConfig.names, Bool.and_eq_true, decide_eq_true_eq, Bool.or_eq_true, beq_iff_eq, not_and, not_or, ne_eq]

/-! ## A SLOT entry (R144) -/

/-- The checks of a SLOT entry after its index: the hold, the use, and then those of a WRITE or of an ERASE. -/
def slotChecks (s : State) (es : List StagedEntry) (lanes : Vector LaneRecord 48) (n : SlotId) :
    Option (SlotUsage × Key × CheckValue) → List (Bool × ControlReason)
  | some (u, k, c) => [(decide (Config.checkValue k = c), .checkValue), (usageSuits lanes n u, .badReference),
      (s.baseLanesStaged es n, .badReference)]
  | none => [(decide (countNaming lanes n = 0), .inUse)]

theorem State.judgeSlot_eq (s : State) (p : Port) (es : List StagedEntry) (lanes : Vector LaneRecord 48) (n : SlotId)
    (write : Option (SlotUsage × Key × CheckValue)) : s.judgeSlot p es lanes n.val write =
      if (s.ctl p).hold.covers n.val = true then
        (if slotAllowed p n (s.slot n).generation (write.map Prod.fst) = true then
          firstFailing (slotChecks s es lanes n write)
        else some .notAllowed)
      else some .notHeld := by
  refine (dif_pos n.isLt).trans ?_
  cases write <;> rfl

/-- The hold and the use of a SLOT entry decide before the checks of a WRITE or of an ERASE. -/
theorem State.judgeSlot_cases (s : State) (p : Port) (es : List StagedEntry) (lanes : Vector LaneRecord 48) (n : SlotId)
    (write : Option (SlotUsage × Key × CheckValue)) {holds allows : Prop}
    (holds_iff : holds ↔ ∃ q, grantedRange s p = some q ∧ q.low ≤ n.val ∧ n.val ≤ q.high)
    (allows_iff : slotAllowed p n (s.slot n).generation (write.map Prod.fst) = true ↔ allows) :
    (¬ holds → s.judgeSlot p es lanes n.val write = some .notHeld) ∧
      (holds → ¬ allows → s.judgeSlot p es lanes n.val write = some .notAllowed) ∧
      (holds → allows → s.judgeSlot p es lanes n.val write = firstFailing (slotChecks s es lanes n write)) := by
  have held : (s.ctl p).hold.covers n.val = true ↔ holds := by rw [holds_iff, Hold.covers_iff, grantedRange_eq]
  rw [State.judgeSlot_eq]
  refine ⟨fun no => if_neg (fun h => no (held.mp h)), fun yes no => ?_, fun yes may => ?_⟩
  · rw [if_pos (held.mpr yes), if_neg (fun h => no (allows_iff.mp h))]
  · rw [if_pos (held.mpr yes), if_pos (allows_iff.mpr may)]

theorem firstFailing_erase (s : State) (es : List StagedEntry) (lanes : Vector LaneRecord 48) (n : SlotId) :
    firstFailing (slotChecks s es lanes n none) = if countNaming lanes n = 0 then none else some .inUse := by
  rw [slotChecks, firstFailing_cons]
  exact if_congr (decide_eq_true_iff) rfl rfl

theorem firstFailing_write (s : State) (es : List StagedEntry) (lanes : Vector LaneRecord 48) (n : SlotId) (u : SlotUsage)
    (k : Key) (c : CheckValue) : firstFailing (slotChecks s es lanes n (some (u, k, c))) =
      if Config.checkValue k = c then
        (if usageSuits lanes n u = true ∧ s.baseLanesStaged es n = true then none else some .badReference)
      else some .checkValue := by
  rw [slotChecks, firstFailing_cons]
  refine if_congr decide_eq_true_iff ?_ rfl
  refine (firstFailing_same .badReference [usageSuits lanes n u, s.baseLanesStaged es n]).trans ?_
  simp only [List.forall_mem_cons, List.not_mem_nil, false_implies, implies_true, and_true]

/-- The judgement of an ERASE. -/
theorem judgeEntry_slotErase (p : Port) (es : List StagedEntry) (slots : Vector SlotRecord 96)
    (lanes : Vector LaneRecord 48) (n : SlotId) (s : State) {holds allows unnamed : Prop}
    (holds_iff : holds ↔ ∃ q, grantedRange s p = some q ∧ q.low ≤ n.val ∧ n.val ≤ q.high)
    (allows_iff : allows ↔ n ≠ controlSlot p.opposite ∧ 2 ≤ n.val)
    (unnamed_iff : unnamed ↔ ∀ l : LaneId, lanes[l].config.state ≠ .unused →
        lanes[l].config.link ≠ some n ∧ lanes[l].config.base ≠ some n) :
    (¬ holds → s.judgeEntry p es slots lanes ⟨n.val, .slotErase⟩ = some .notHeld) ∧
      (holds → ¬ allows → s.judgeEntry p es slots lanes ⟨n.val, .slotErase⟩ = some .notAllowed) ∧
      (holds → allows → (unnamed → s.judgeEntry p es slots lanes ⟨n.val, .slotErase⟩ = none) ∧
        (¬ unnamed → s.judgeEntry p es slots lanes ⟨n.val, .slotErase⟩ = some .inUse)) := by
  have judged : s.judgeEntry p es slots lanes ⟨n.val, .slotErase⟩ = s.judgeSlot p es lanes n.val none := rfl
  obtain ⟨unheld, unfit, checked⟩ := s.judgeSlot_cases p es lanes n none holds_iff
    ((slotAllowed_erase_iff p n _).trans allows_iff.symm)
  rw [firstFailing_erase] at checked
  rw [judged]
  refine ⟨unheld, unfit, fun held may => ⟨fun free => ?_, fun used => ?_⟩⟩
  · exact (checked held may).trans (if_pos ((countNaming_eq_zero_iff lanes n).mpr (unnamed_iff.mp free)))
  · exact (checked held may).trans (if_neg (fun h => used (unnamed_iff.mpr ((countNaming_eq_zero_iff lanes n).mp h))))

/-- The judgement of a WRITE. -/
theorem judgeEntry_slotWrite (p : Port) (es : List StagedEntry) (slots : Vector SlotRecord 96)
    (lanes : Vector LaneRecord 48) (n : SlotId) (s : State) (u : SlotUsage) (k : Key) (c : CheckValue)
    {holds allows : Prop} (holds_iff : holds ↔ ∃ q, grantedRange s p = some q ∧ q.low ≤ n.val ∧ n.val ≤ q.high)
    (allows_iff : allows ↔ n ≠ controlSlot p.opposite ∧
      (n.val < 2 → u = .control) ∧ (2 ≤ n.val → u ≠ .control ∧ (s.slot n).generation < 65535)) :
    (¬ holds → s.judgeEntry p es slots lanes ⟨n.val, .slotWrite u k c⟩ = some .notHeld) ∧
      (holds → ¬ allows → s.judgeEntry p es slots lanes ⟨n.val, .slotWrite u k c⟩ = some .notAllowed) ∧
      (holds → allows → ∀ suits : Prop,
        (suits ↔ (∀ l : LaneId, lanes[l].config.state ≠ .unused →
            (lanes[l].config.link = some n → u = .link) ∧ (lanes[l].config.base = some n → u = .base)) ∧
          ∀ l : LaneId, (s.lane l).config.state ≠ .unused → (s.lane l).config.base = some n →
            ∃ e ∈ es, e.record.table = .lane ∧ e.index = l.val) →
        (Config.checkValue k ≠ c → s.judgeEntry p es slots lanes ⟨n.val, .slotWrite u k c⟩ = some .checkValue) ∧
        (Config.checkValue k = c →
          (suits → s.judgeEntry p es slots lanes ⟨n.val, .slotWrite u k c⟩ = none) ∧
          (¬ suits → s.judgeEntry p es slots lanes ⟨n.val, .slotWrite u k c⟩ = some .badReference))) := by
  have judged : s.judgeEntry p es slots lanes ⟨n.val, .slotWrite u k c⟩ =
      s.judgeSlot p es lanes n.val (some (u, k, c)) := rfl
  obtain ⟨unheld, unfit, checked⟩ := s.judgeSlot_cases p es lanes n (some (u, k, c)) holds_iff
    ((slotAllowed_write_iff p n _ u).trans allows_iff.symm)
  rw [firstFailing_write] at checked
  rw [judged]
  refine ⟨unheld, unfit, fun held may suits suits_iff => ?_⟩
  rw [← usageSuits_iff, ← State.baseLanesStaged_iff] at suits_iff
  rw [checked held may]
  exact ⟨fun other => if_neg other, fun same => ⟨fun fits => (if_pos same).trans (if_pos (suits_iff.mp fits)),
    fun bad => (if_pos same).trans (if_neg (fun h => bad (suits_iff.mpr h)))⟩⟩

/-! ## A STANDIN and a SETTINGS entry (R145) -/

theorem within_iff (low high n : Nat) : within low high n = true ↔ low ≤ n ∧ n ≤ high := by
  simp only [within, Bool.and_eq_true, decide_eq_true_eq]

theorem judgeStandIn_spec (index : Nat) (r : ClassRecord) {good : Prop} (good_iff : good ↔ index ≤ 9 ∧ r.low ≤ r.high ∧
    r.high ≤ 99999999 ∧ r.laneCap ≤ 960 ∧ 5 ≤ r.answerTimeout ∧ r.answerTimeout ≤ 120) :
    (good → judgeStandIn index r = none) ∧ (¬ good → judgeStandIn index r = some .badReference) := by
  unfold judgeStandIn
  simp only [within_iff]
  exact ⟨fun h => if_pos (good_iff.mp h), fun h => if_neg (fun g => h (good_iff.mpr g))⟩

theorem judgeSettings_spec (index : Nat) (b : SettingsBlock) {good : Prop} (good_iff : good ↔ index = 0 ∧
    individual b.sStation = true ∧
        individual b.cStation = true ∧ (1024 ≤ b.warnMargin ∧ b.warnMargin ≤ 1048576) ∧
        (5 ≤ b.reversalTimeout ∧ b.reversalTimeout ≤ 120) ∧ (1 ≤ b.probeInterval ∧ b.probeInterval ≤ 60) ∧
        (1 ≤ b.missLimit ∧ b.missLimit ≤ 10) ∧ (1 ≤ b.reassemblyLimit ∧ b.reassemblyLimit ≤ 10) ∧
        (5 ≤ b.scrubInterval ∧ b.scrubInterval ≤ 1000) ∧ (10 ≤ b.holdLimit ∧ b.holdLimit ≤ 600) ∧
        (10 ≤ b.idleLimit ∧ b.idleLimit ≤ 900)) :
    (good → judgeSettings index b = none) ∧ (¬ good → judgeSettings index b = some .badReference) := by
  unfold judgeSettings
  simp only [within_iff]
  exact ⟨fun h => if_pos (good_iff.mp h), fun h => if_neg (fun g => h (good_iff.mpr g))⟩

/-! ## The obligation -/

theorem StagedRecord.of_table_slot {r : StagedRecord} (is : r.table = .slot) :
    r = .slotErase ∨ ∃ u k c, r = .slotWrite u k c := by
  cases r with
  | slotErase => exact .inl rfl
  | slotWrite u k c => exact .inr ⟨u, k, c, rfl⟩
  | lane r => exact absurd is nofun
  | standIn r => exact absurd is nofun
  | settings b => exact absurd is nofun

/-- Settles O9: the walk of `judge_spec`, and the checks of the entries of each table. -/
theorem commitJudgesEachEntry : Obligations.CommitJudgesEachEntry := by
  unfold Obligations.CommitJudgesEachEntry
  refine ⟨judge_spec, ?_, ?_, ?_⟩
  · rintro p es slots lanes index r s _ rfl
    obtain ⟨beyond, checked⟩ := judgeEntry_lane p es slots lanes index r s
    refine ⟨beyond, fun l idle good is idle_iff good_iff => checked l idle good is idle_iff ?_⟩
    rw [good_iff, laneChecks_iff]
  · rintro p es slots lanes index record s _ table rfl
    rcases StagedRecord.of_table_slot table with rfl | ⟨u, k, c, rfl⟩
    · refine ⟨fun beyond => dif_neg (Nat.not_lt.mpr beyond), ?_⟩
      rintro n holds allows unnamed rfl holds_iff allows_iff unnamed_iff
      have may : allows ↔ n ≠ controlSlot p.opposite ∧ 2 ≤ n.val := by
        rw [allows_iff]
        exact and_congr_right' ⟨fun h => h.1 rfl, fun h => ⟨fun _ => h, nofun⟩⟩
      obtain ⟨unheld, unfit, judged⟩ := judgeEntry_slotErase p es slots lanes n s holds_iff may unnamed_iff
      exact ⟨unheld, unfit, fun held fit => ⟨fun _ => judged held fit, nofun⟩⟩
    · refine ⟨fun beyond => dif_neg (Nat.not_lt.mpr beyond), ?_⟩
      rintro n holds allows unnamed rfl holds_iff allows_iff -
      have may : allows ↔ n ≠ controlSlot p.opposite ∧
          (n.val < 2 → u = .control) ∧ (2 ≤ n.val → u ≠ .control ∧ (s.slot n).generation < 65535) := by
        rw [allows_iff]
        refine and_congr_right' ⟨fun h => h.2 u k c rfl, fun h => ⟨nofun, ?_⟩⟩
        rintro _ _ _ ⟨⟩
        exact h
      obtain ⟨unheld, unfit, judged⟩ := judgeEntry_slotWrite p es slots lanes n s u k c holds_iff may
      refine ⟨unheld, unfit, fun held fit => ⟨nofun, ?_⟩⟩
      rintro _ _ _ ⟨⟩
      exact judged held fit
  · intro p es slots lanes index s verdict is
    refine ⟨fun r good good_iff => ?_, fun b good good_iff => ?_⟩
    · rw [is]
      exact judgeStandIn_spec index r good_iff
    · rw [is]
      exact judgeSettings_spec index b good_iff

end Sys2Proof.Machine
end

section
/-! SUPPORT. What COMMIT makes of the tables, and of the lanes of its set (R142, R146, R147). -/

namespace Sys2Proof.Machine

open Sys2Proof.Safety

/-! ## A set is judged and applied on the tables alone -/

/-- Two states that show COMMIT the same tables and the same hold. -/
structure SameTables (p : Port) (s t : State) : Prop where
  slots : t.slots = s.slots
  lanes : t.lanes = s.lanes
  engine : t.engine = s.engine
  hold : (t.ctl p).hold = (s.ctl p).hold

namespace SameTables

variable {p : Port} {s t : State} (h : SameTables p s t) (es : List StagedEntry)

include h

theorem lane (l : LaneId) : t.lane l = s.lane l := by rw [State.lane, h.lanes, State.lane]

theorem slot (n : SlotId) : t.slot n = s.slot n := by rw [State.slot, h.slots, State.slot]

theorem slotsWritten_eq : slotsWritten t es = slotsWritten s es := by rw [slotsWritten, h.slots, slotsWritten]

theorem lanesApplied_eq : lanesApplied t es = lanesApplied s es := by
  rw [lanesApplied, h.slotsWritten_eq, h.lanes, lanesApplied]

theorem slotsApplied_eq : slotsApplied t es = slotsApplied s es := by
  rw [slotsApplied, h.slotsWritten_eq, h.lanes, slotsApplied]

theorem resetLanes_eq : resetLanes t es = resetLanes s es := by
  simp only [resetLanes, h.lane, h.lanesApplied_eq]

theorem commitGroup_eq : commitGroup t es = commitGroup s es := by
  simp only [commitGroup, changedSlots, h.slotsApplied_eq, h.lanesApplied_eq, h.slot]

theorem jobInFlight_eq (l : LaneId) : t.jobInFlight l = s.jobInFlight l := by rw [State.jobInFlight, h.engine, State.jobInFlight]

theorem judgeEntry_eq (slots : Vector SlotRecord 96) (lanes : Vector LaneRecord 48) (e : StagedEntry) :
    t.judgeEntry p es slots lanes e = s.judgeEntry p es slots lanes e := by
  obtain ⟨index, record⟩ := e
  have staged : ∀ n, t.baseLanesStaged es n = s.baseLanesStaged es n := fun n => by
    simp only [State.baseLanesStaged, h.lane]
  cases record with
  | lane r => simp only [State.judgeEntry, State.judgeLane, h.lane, h.jobInFlight_eq]
  | slotWrite u k c => simp only [State.judgeEntry, State.judgeSlot, h.slot, h.hold, staged]
  | slotErase => simp only [State.judgeEntry, State.judgeSlot, h.slot, h.hold]
  | standIn r => rfl
  | settings b => rfl

theorem judgeFrom_eq (lanes : Vector LaneRecord 48) (rest : List StagedEntry) (slots : Vector SlotRecord 96) (k : Nat) :
    t.judgeFrom p es lanes slots k rest = s.judgeFrom p es lanes slots k rest := by
  induction rest generalizing slots k with
  | nil => rfl
  | cons e rest ih => rw [State.judgeFrom, State.judgeFrom, h.judgeEntry_eq, ih, h.lanes]

theorem judge_eq : t.judge p es = s.judge p es := by
  rw [State.judge, State.judge, h.judgeFrom_eq, h.lanesApplied_eq, h.slotsWritten_eq]

end SameTables

/-- Hearing the frame changes no table. -/
theorem SameTables.heard (s : State) (p : Port) (g : ControlFrame) : SameTables p s (heard s p g) where
  slots := by rw [heard_eq]; rfl
  lanes := by rw [heard_eq]; rfl
  engine := by rw [heard_eq]; rfl
  hold := by rw [heard_ctl]

/-! ## The lanes a set has an entry for -/

/-- The lane an entry is for. -/
def StagedEntry.laneOf (e : StagedEntry) : Option LaneId :=
  match e.record with
  | .lane _ => if h : e.index < 48 then some ⟨e.index, h⟩ else none
  | _ => none

theorem laneEntries_eq (es : List StagedEntry) : laneEntries es = es.filterMap StagedEntry.laneOf := rfl

theorem StagedEntry.of_laneOf {e : StagedEntry} {l : LaneId} (is : e.laneOf = some l) : ∃ r, e = ⟨l.val, .lane r⟩ := by
  obtain ⟨index, record⟩ := e
  cases record with
  | lane r =>
    unfold StagedEntry.laneOf at is
    dsimp only at is
    split at is
    · obtain rfl := Option.some.inj is
      exact ⟨r, rfl⟩
    · exact absurd is nofun
  | slotWrite u k c => exact absurd is nofun
  | slotErase => exact absurd is nofun
  | standIn r => exact absurd is nofun
  | settings b => exact absurd is nofun

theorem applyLane_of_noLane (slots : Vector SlotRecord 96) (lanes : Vector LaneRecord 48) {e : StagedEntry}
    (is : e.laneOf = none) : applyLane slots lanes e = lanes := by
  unfold applyLane
  split
  · rename_i low
    obtain ⟨index, record⟩ := e
    cases record with
    | lane r => exact absurd ((dif_pos low).symm.trans is) nofun
    | slotWrite u k c => rfl
    | slotErase => rfl
    | standIn r => rfl
    | settings b => rfl
  · rfl

/-- An entry commits the record of its own lane and leaves the others as they are. -/
theorem applyLane_cases (slots : Vector SlotRecord 96) (lanes : Vector LaneRecord 48) (e : StagedEntry) (k : LaneId) :
    (e.laneOf ≠ some k ∧ (applyLane slots lanes e)[k] = lanes[k]) ∨
      e.laneOf = some k ∧ ∃ r, (applyLane slots lanes e)[k] = committedLane slots lanes[k] r := by
  cases is : e.laneOf with
  | none => exact .inl ⟨nofun, by rw [applyLane_of_noLane slots lanes is]⟩
  | some l =>
    obtain ⟨r, rfl⟩ := StagedEntry.of_laneOf is
    rw [applyLane_spec]
    by_cases same : k = l
    · subst same
      exact .inr ⟨rfl, r, if_pos rfl⟩
    · exact .inl ⟨fun h => same (Option.some.inj h).symm, if_neg same⟩

/-- What every commit of a lane's record keeps of it, a whole set keeps. -/
theorem foldl_applyLane_keeps (slots : Vector SlotRecord 96) (k : LaneId) {P : LaneRecord → Prop}
    (step : ∀ q r, P q → P (committedLane slots q r)) (es : List StagedEntry) (lanes : Vector LaneRecord 48)
    (start : P lanes[k]) : P (es.foldl (applyLane slots) lanes)[k] := by
  induction es generalizing lanes with
  | nil => exact start
  | cons e es ih =>
    refine ih _ ?_
    rcases applyLane_cases slots lanes e k with ⟨-, same⟩ | ⟨-, r, committed⟩
    · rwa [same]
    · rw [committed]
      exact step _ r start

/-- What every commit makes of a lane's record, a set with an entry for the lane makes of it. -/
theorem foldl_applyLane_makes (slots : Vector SlotRecord 96) {k : LaneId} {P : LaneRecord → Prop}
    (makes : ∀ q r, P (committedLane slots q r)) {es : List StagedEntry} (lanes : Vector LaneRecord 48)
    (mem : k ∈ laneEntries es) : P (es.foldl (applyLane slots) lanes)[k] := by
  induction es generalizing lanes with
  | nil => exact absurd mem List.not_mem_nil
  | cons e es ih =>
    rw [List.foldl_cons]
    rcases applyLane_cases slots lanes e k with ⟨other, -⟩ | ⟨-, r, committed⟩
    · refine ih _ ?_
      obtain ⟨x, memx, is⟩ := List.mem_filterMap.mp mem
      rcases List.mem_cons.mp memx with rfl | later
      · exact absurd is other
      · exact List.mem_filterMap.mpr ⟨x, later, is⟩
    · refine foldl_applyLane_keeps slots k (fun q r _ => makes q r) es _ ?_
      rw [committed]
      exact makes _ r

/-- A lane without an entry stays as it is. -/
theorem foldl_applyLane_other (slots : Vector SlotRecord 96) {k : LaneId} {es : List StagedEntry}
    (lanes : Vector LaneRecord 48) (absent : k ∉ laneEntries es) : (es.foldl (applyLane slots) lanes)[k] = lanes[k] := by
  induction es generalizing lanes with
  | nil => rfl
  | cons e es ih =>
    have later : k ∉ laneEntries es := fun mem => absent (by
      obtain ⟨x, memx, is⟩ := List.mem_filterMap.mp mem
      exact List.mem_filterMap.mpr ⟨x, List.mem_cons_of_mem e memx, is⟩)
    rw [List.foldl_cons, ih _ later]
    rcases applyLane_cases slots lanes e k with ⟨-, same⟩ | ⟨is, -⟩
    · exact same
    · exact absurd (List.mem_filterMap.mpr ⟨e, List.mem_cons_self, is⟩) absent

/-- A set keeps what a commit does not write of a lane. -/
theorem lanesApplied_frame (s : State) (es : List StagedEntry) (k : LaneId) :
    (lanesApplied s es)[k].mailbox = (s.lane k).mailbox ∧ (lanesApplied s es)[k].counters = (s.lane k).counters := by
  refine foldl_applyLane_keeps (slotsWritten s es) k
    (P := fun q => q.mailbox = (s.lane k).mailbox ∧ q.counters = (s.lane k).counters) (fun q r h => ?_) es s.lanes ⟨rfl, rfl⟩
  obtain ⟨-, -, -, rest⟩ := committedLane_config (slotsWritten s es) q r
  exact ⟨(congrArg LaneRecord.mailbox rest :).trans h.1, (congrArg LaneRecord.counters rest :).trans h.2⟩

/-- A committed lane has lost no commit; another keeps what it had (log 23). -/
theorem lanesApplied_lostCommit (s : State) (es : List StagedEntry) (k : LaneId) :
    (k ∈ laneEntries es → (lanesApplied s es)[k].lostCommit = none) ∧
    (k ∉ laneEntries es → (lanesApplied s es)[k] = s.lane k) := by
  refine ⟨fun mem => ?_, foldl_applyLane_other _ s.lanes⟩
  refine foldl_applyLane_makes (slotsWritten s es) (P := fun q => q.lostCommit = none) (fun q r => ?_) s.lanes mem
  obtain ⟨-, -, lost, -⟩ := committedLane_config (slotsWritten s es) q r
  exact lost

theorem baseChanges_trans {a b c : LaneConfig} (changes : baseChanges a c = true) (same : baseChanges b c = false) :
    baseChanges a b = true := by
  rw [baseChanges_iff] at changes ⊢
  rw [← Bool.not_eq_true, baseChanges_iff, not_or, not_not, not_not] at same
  rwa [same.1, same.2]

/-- A lane whose base changes stands at the ceiling 1 (R56). -/
theorem lanesApplied_ceiling (s : State) (es : List StagedEntry) (k : LaneId)
    (changes : baseChanges (s.lane k).config (lanesApplied s es)[k].config = true) :
    (lanesApplied s es)[k].config.ceiling = 1 := by
  refine foldl_applyLane_keeps (slotsWritten s es) k
    (P := fun q => baseChanges (s.lane k).config q.config = true → q.config.ceiling = 1) (fun q r kept moved => ?_) es s.lanes
    (fun h => ?_) changes
  · obtain ⟨config, -, -, -⟩ := committedLane_config (slotsWritten s es) q r
    have base : baseChanges (s.lane k).config (committedLane (slotsWritten s es) q r).config =
        baseChanges (s.lane k).config (committedConfig (slotsWritten s es) q.config r) := by rw [config]; rfl
    have ceiling : (committedLane (slotsWritten s es) q r).config.ceiling =
        if baseChanges q.config (committedConfig (slotsWritten s es) q.config r) then 1 else q.config.ceiling := by rw [config]
    rw [ceiling]
    rw [base] at moved
    split
    · rfl
    · rename_i stands
      exact kept (baseChanges_trans moved (Bool.eq_false_iff.mpr stands))
  · rw [baseChanges_iff] at h
    exact h.elim (fun ne => absurd rfl ne) (fun ne => absurd rfl ne)

end Sys2Proof.Machine
end

section
/-! SUPPORT. The steps of an application: the tables, the group, the advances (R146, R147, R179). -/

namespace Sys2Proof.Machine

open Sys2Proof.Safety

/-! ## The state before the group joins -/

/-- The queue without a lane's ceiling writes that wait, the one being written stale (R53). -/
def PersistQueue.withoutCeilings (q : PersistQueue) (l : LaneId) : PersistQueue := { q with
  current := q.current.map (Write.stale l)
  waiting := q.waiting.filter (fun w => !w.isCeilingOf l) }

theorem State.foldl_dropCeilings (ls : List LaneId) (s : State) :
    ls.foldl State.dropCeilings s = { s with persist := ls.foldl PersistQueue.withoutCeilings s.persist } := by
  induction ls generalizing s with
  | nil => rfl
  | cons l ls ih => exact ih _

theorem State.rewrittenBy_eq (s : State) (g : CommitGroup) : ∃ ups, s.rewrittenBy g = { s with upsets := ups } := by
  have fold : ∀ {α : Type} (pos : α → Position) (xs : List α) (t : State),
      ∃ ups, xs.foldl (fun t x => t.rewritten (pos x)) t = { t with upsets := ups } := by
    intro α pos xs
    induction xs with
    | nil => exact fun t => ⟨t.upsets, rfl⟩
    | cons x xs ih =>
      intro t
      obtain ⟨ups, is⟩ := ih (t.rewritten (pos x))
      exact ⟨ups, is⟩
  unfold State.rewrittenBy
  dsimp only
  obtain ⟨ups, slots⟩ := fold (fun x : SlotId × SlotRecord => slotPosition x.1) g.slots s
  rw [slots]
  obtain ⟨ups', lanes⟩ := fold (fun x : LaneId × LaneConfig => lanePosition x.1) g.lanes { s with upsets := ups }
  rw [lanes]
  split
  · exact ⟨_, rfl⟩
  · exact ⟨_, rfl⟩

/-- A state with a set in its tables, and without the older ceiling writes of the lanes it resets (R53, R146). -/
def State.stood (s : State) (es : List StagedEntry) (ups : List (Position × Upset)) : State :=
  { s.applyTables es with
    upsets := ups
    persist := (resetLanes s es).foldl PersistQueue.withoutCeilings s.persist }

/-- The group of a set joins the queue, or is lost at once where the queue is full (R147, R179). -/
def State.joinGroup (s : State) (g : CommitGroup) : State :=
  s.enqueue (fun ws => ws ++ [.group g]) (fun v => v.loseGroup g (fun _ => true))

/-- The advances that follow the group, and the advance tests of the set's lanes (R53, R146). -/
def State.advanceAll (s : State) (reset lanes : List LaneId) : State :=
  lanes.foldl State.foundedAdvanceTest (reset.foldl State.resetAdvance s)

theorem State.applySet_eq (s : State) (p : Port) (es : List StagedEntry) : ∃ ups, s.applySet p es =
    (((s.stood es ups).joinGroup (commitGroup s es)).advanceAll (resetLanes s es) (laneEntries es)).emptySet p := by
  obtain ⟨ups, rewritten⟩ := (s.applyTables es).rewrittenBy_eq (commitGroup s es)
  refine ⟨ups, ?_⟩
  have dropped : (resetLanes s es).foldl State.dropCeilings ((s.applyTables es).rewrittenBy (commitGroup s es)) =
      s.stood es ups := by
    rw [rewritten, State.foldl_dropCeilings]
    rfl
  rw [← dropped]
  rfl

/-! ## What stands through the application -/

theorem State.sansLanes_joinGroup (s : State) (g : CommitGroup) : (s.joinGroup g).sansLanes = s.sansLanes := by
  unfold State.joinGroup State.enqueue
  split
  · exact State.sansLanes_loseGroup _ _ _
  · exact congrArg eraseLanes (State.sansStore_setWaiting _ _)

theorem State.sansLanes_advanceAll (s : State) (reset lanes : List LaneId) :
    (s.advanceAll reset lanes).sansLanes = s.sansLanes :=
  (foldl_keeps State.sansLanes _ State.sansLanes_foundedAdvanceTest lanes _).trans
    (foldl_keeps State.sansLanes _ (fun s l => State.sansLanes_requestAdvance s l _) reset s)

theorem State.hold_of_lanes {s t : State} (h : t.sansLanes = s.sansLanes) (p : Port) : (t.ctl p).hold = (s.ctl p).hold := by
  have erased : ∀ u : State, (u.sansLanes.ctl p).hold = (u.ctl p).hold := fun u => by cases p <;> rfl
  rw [← erased t, ← erased s, h]

/-- Each lane keeps what an advance does not write of it. -/
def steadyLanes (s t : State) : Prop := ∀ k, (t.lane k).steady = (s.lane k).steady

theorem steadyLanes.refl (s : State) : steadyLanes s s := fun _ => rfl

theorem steadyLanes.trans {s t u : State} (h : steadyLanes s t) (k : steadyLanes t u) : steadyLanes s u :=
  fun l => (k l).trans (h l)

theorem steadyLanes.of_within {l : LaneId} {n w : Nat} {s t : State} (h : Within l n w s t) : steadyLanes s t := by
  intro k
  by_cases e : k = l
  · subst e
    exact h.lane
  · rw [h.others k e]

theorem steadyLanes.foldl {α : Type} {op : State → α → State} (h : ∀ s a, steadyLanes s (op s a)) (xs : List α)
    (s : State) : steadyLanes s (xs.foldl op s) := by
  induction xs generalizing s with
  | nil => exact .refl s
  | cons x xs ih => exact (h s x).trans (ih _)

theorem steadyLanes.requestAdvance (s : State) (l : LaneId) (join : Write → List Write → List Write)
    (one : ∀ w ws, (join w ws).length = ws.length + 1) : steadyLanes s (s.requestAdvance l join) :=
  .of_within ((Within.modLane s l (fun r => { r with advancePending := true }) (fun _ => rfl)).trans
    (Within.enqueue _ _ (fun t => t.ceilingFailed l) (one _) (Within.ceilingFailed _ l)))

theorem steadyLanes.foundedAdvanceTest (s : State) (l : LaneId) : steadyLanes s (s.foundedAdvanceTest l) := by
  unfold State.foundedAdvanceTest
  split
  · split
    · exact .requestAdvance s l _ joinCeiling_length
    · split
      · exact .requestAdvance s l _ (joinBehind_length l)
      · exact .refl s
  · exact .refl s

theorem steadyLanes.advanceAll (s : State) (reset lanes : List LaneId) : steadyLanes s (s.advanceAll reset lanes) :=
  (steadyLanes.foldl (fun s l => .requestAdvance s l _ (joinBehind_length l)) reset s).trans
    (steadyLanes.foldl steadyLanes.foundedAdvanceTest lanes _)

theorem LaneRecord.of_steady {r q : LaneRecord} (h : r.steady = q.steady) : r = { q with
    advancePending := r.advancePending
    mailbox := r.mailbox
    counters := r.counters
    config := { q.config with state := r.config.state } } := by
  obtain ⟨⟨_⟩⟩ := r
  obtain ⟨⟨_⟩⟩ := q
  simp only [LaneRecord.steady, LaneRecord.mk.injEq, LaneConfig.mk.injEq] at h ⊢
  tauto

/-- What the group's joining makes of a lane. -/
theorem State.joinGroup_lane (s : State) (g : CommitGroup) (l : LaneId) : (s.joinGroup g).lane l =
    if s.persist.full = true then g.keepLost (fun _ => true) l (s.lane l) else s.lane l := by
  unfold State.joinGroup State.enqueue
  split
  · exact State.loseGroup_lane _ _ _ _
  · exact State.setWaiting_lane _ _ _

theorem commitGroup_laneOf (s : State) (es : List StagedEntry) (l : LaneId) : (commitGroup s es).laneOf l =
    if l ∈ laneEntries es then some (lanesApplied s es)[l].config else none := by
  have found : ∀ ls : List LaneId,
      ((ls.map (fun l => (l, (lanesApplied s es)[l].config))).find? (fun x => x.1 == l)).map Prod.snd =
        if l ∈ ls then some (lanesApplied s es)[l].config else none := by
    intro ls
    induction ls with
    | nil => rfl
    | cons k ls ih =>
      rw [List.map_cons, List.find?_cons]
      by_cases same : k = l
      · subst same
        simp
      · have other : (k == l) = false := beq_false_of_ne same
        simp only [other, ih, List.mem_cons, Ne.symm same, false_or]
  exact found _

/-- A lane of the set keeps the record of the lost group, any other what it had (log 23). -/
theorem State.joinGroup_lostCommit (s : State) (es : List StagedEntry) (ups : List (Position × Upset)) (l : LaneId) :
    (l ∈ laneEntries es → (((s.stood es ups).joinGroup (commitGroup s es)).lane l).lostCommit =
      if (s.stood es ups).persist.full = true then some (lanesApplied s es)[l].config else none) ∧
    (l ∉ laneEntries es → (((s.stood es ups).joinGroup (commitGroup s es)).lane l).lostCommit = (s.lane l).lostCommit) := by
  have stood : (s.stood es ups).lane l = (lanesApplied s es)[l] := rfl
  have carried := commitGroup_laneOf s es l
  obtain ⟨none, same⟩ := lanesApplied_lostCommit s es l
  rw [State.joinGroup_lane, stood]
  refine ⟨fun mem => ?_, fun absent => ?_⟩
  · rw [if_pos mem] at carried
    rw [CommitGroup.keepLost_of_last _ _ _ _ _ rfl carried]
    split
    · rfl
    · exact none mem
  · rw [if_neg absent] at carried
    rw [CommitGroup.keepLost_of_later _ _ _ _ (.inr carried), ite_self, same absent]

/-- Whether or not the group is lost, its lanes are the set's in all but the lost commit. -/
theorem State.joinGroup_steady (s : State) (es : List StagedEntry) (ups : List (Position × Upset)) (l : LaneId) :
    ((s.stood es ups).joinGroup (commitGroup s es)).lane l = { (lanesApplied s es)[l] with
      lostCommit := (((s.stood es ups).joinGroup (commitGroup s es)).lane l).lostCommit } := by
  have stood : (s.stood es ups).lane l = (lanesApplied s es)[l] := rfl
  rw [State.joinGroup_lane, stood]
  split
  · exact CommitGroup.keepLost_only _ _ _ _
  · rfl

/-! ## The application, wherever the queue stands -/

/-- What COMMIT makes of the state besides the queue and the latches. -/
structure Committed (s : State) (p : Port) (es : List StagedEntry) (t : State) : Prop where
  slots : t.slots = slotsApplied s es
  settings : t.settings = (settingsEntry es).getD s.settings
  standIn : t.standIn = (classEntries es).foldl (fun v x => v.set x.1 x.2) s.standIn
  lanes : ∀ l : LaneId, t.lane l = { (lanesApplied s es)[l] with
    advancePending := (t.lane l).advancePending
    mailbox := (t.lane l).mailbox
    counters := (t.lane l).counters
    lostCommit := (t.lane l).lostCommit
    config := { (lanesApplied s es)[l].config with state := (t.lane l).config.state } }
  lost : ∀ l ∈ laneEntries es, (t.lane l).lostCommit =
    if ((resetLanes s es).foldl State.dropCeilings s).persist.full = true then some (lanesApplied s es)[l].config else none
  kept : ∀ l, l ∉ laneEntries es → (t.lane l).lostCommit = (s.lane l).lostCommit
  changeSet : (t.ctl p).changeSet = emptyChangeSet
  hold : (t.ctl p).hold = (s.ctl p).hold
  work : workKept s t
  chain : chainKept s t

theorem State.applySet_committed (s : State) (p : Port) (es : List StagedEntry) : Committed s p es (s.applySet p es) := by
  obtain ⟨ups, is⟩ := s.applySet_eq p es
  rw [is]
  have same := (State.sansLanes_advanceAll ((s.stood es ups).joinGroup (commitGroup s es)) (resetLanes s es)
    (laneEntries es)).trans (State.sansLanes_joinGroup _ _)
  have steady := steadyLanes.advanceAll ((s.stood es ups).joinGroup (commitGroup s es)) (resetLanes s es) (laneEntries es)
  have joined := s.joinGroup_steady es ups
  have lost := s.joinGroup_lostCommit es ups
  have full : (s.stood es ups).persist.full = ((resetLanes s es).foldl State.dropCeilings s).persist.full := by
    rw [State.foldl_dropCeilings]
    rfl
  rw [full] at lost
  generalize (s.stood es ups).joinGroup (commitGroup s es) = u at *
  generalize u.advanceAll (resetLanes s es) (laneEntries es) = v at *
  have lane : ∀ l, (v.emptySet p).lane l = v.lane l := fun _ => rfl
  have commit : ∀ l, (v.lane l).lostCommit = (u.lane l).lostCommit := fun l => (congrArg LaneRecord.lostCommit (steady l) :)
  constructor
  case slots => exact (State.slots_of_lanes same).trans rfl
  case settings => exact (State.settings_of_lanes same).trans rfl
  case standIn => exact (State.standIn_of_lanes same).trans rfl
  case lanes =>
    intro l
    rw [lane]
    have eq := LaneRecord.of_steady (steady l)
    rw [joined l] at eq
    rw [commit]
    exact eq
  case lost => exact fun l mem => (commit l).trans ((lost l).1 mem)
  case kept => exact fun l absent => (commit l).trans ((lost l).2 absent)
  case changeSet => exact State.emptySet_changeSet v p
  case hold => exact (State.emptySet_hold v p).trans ((State.hold_of_lanes same p).trans rfl)
  case work => exact ⟨(State.exchanges_of_lanes same).trans rfl, (State.log_of_lanes same).trans rfl,
    (State.engine_of_lanes same).trans rfl⟩
  case chain => exact ⟨(State.sendQueue_of_lanes same).trans rfl, (State.reassembly_of_lanes same).trans rfl,
    (State.answerQueue_of_lanes same).trans rfl, (State.monitor_of_lanes same).trans rfl⟩

end Sys2Proof.Machine
end

section
/-! SUPPORT. The commit group and the advances at a queue with room (R53, R147, R179; log 20). -/

namespace Sys2Proof.Machine

open Sys2Proof.Safety

/-! ## The group in the queue -/

/-- The queue writes `c`; a group stands in it, written or waiting, with `tail` and nothing else behind it. -/
structure GroupQueued (g : CommitGroup) (ok : Write → Prop) (c : Write) (tail : List Write) (q : PersistQueue) : Prop where
  current : q.current = some c
  ceilings : ∀ w ∈ tail, w.isCeiling = true
  place : (c = .group g ∧ q.waiting = tail) ∨ ∃ before, q.waiting = before ++ .group g :: tail ∧ ∀ w ∈ before, ok w

theorem touchesLane_of_ceiling {w : Write} (l : LaneId) (h : w.isCeiling = true) : w.touchesLane l = false := by
  cases w with
  | ceiling _ _ _ _ _ => rfl
  | group g => exact absurd h nofun
  | laneState _ _ => rfl
  | slotState _ _ => rfl
  | append _ _ _ => rfl
  | update _ => rfl
  | removal _ _ _ => rfl
  | epoch _ => rfl

theorem joinCeiling_of_ceilings (new : Write) {ws : List Write} (h : ∀ w ∈ ws, w.isCeiling = true) :
    joinCeiling new ws = ws ++ [new] := by
  induction ws with
  | nil => rfl
  | cons w ws ih =>
    rw [joinCeiling, if_pos (h w List.mem_cons_self), ih (fun x mem => h x (List.mem_cons_of_mem w mem)), List.cons_append]

/-- Before a group that waits a ceiling write joins the writes there. -/
theorem joinCeiling_before (new : Write) (g : CommitGroup) (before tail : List Write) :
    joinCeiling new (before ++ .group g :: tail) = joinCeiling new before ++ .group g :: tail := by
  induction before with
  | nil => rfl
  | cons w ws ih =>
    rw [List.cons_append, joinCeiling, joinCeiling]
    split
    · rw [ih, List.cons_append]
    · rfl

namespace GroupQueued

variable {g : CommitGroup} {ok : Write → Prop} {c new : Write} {tail : List Write} {q : PersistQueue}

theorem unwritten (h : GroupQueued g ok c tail q) : ∃ before, q.unwritten = before ++ .group g :: tail ∧
    ∀ w ∈ before, w = c ∨ ok w := by
  rw [PersistQueue.unwritten, h.current]
  rcases h.place with ⟨rfl, waiting⟩ | ⟨before, waiting, good⟩
  · exact ⟨[], by rw [waiting, Option.toList_some, List.singleton_append, List.nil_append],
      fun w mem => absurd mem List.not_mem_nil⟩
  · refine ⟨c :: before, by rw [waiting, Option.toList_some, List.singleton_append, List.cons_append], fun w mem => ?_⟩
    rcases List.mem_cons.mp mem with rfl | later
    · exact .inl rfl
    · exact .inr (good w later)

theorem mem (h : GroupQueued g ok c tail q) : .group g ∈ q.unwritten := by
  obtain ⟨before, is, -⟩ := h.unwritten
  rw [is]
  exact List.mem_append_right _ List.mem_cons_self

theorem ceilings_concat (h : GroupQueued g ok c tail q) (ceiling : new.isCeiling = true) :
    ∀ w ∈ tail ++ [new], w.isCeiling = true := by
  intro w mem
  rcases List.mem_append.mp mem with old | last
  · exact h.ceilings w old
  · rw [List.mem_singleton.mp last]
    exact ceiling

/-- An advance of a lane of the group joins behind it (R147). -/
theorem behindGroup (h : GroupQueued g ok c tail q) (l : LaneId) (ceiling : new.isCeiling = true)
    (touches : (Write.group g).touchesLane l = true) :
    GroupQueued g ok c (tail ++ [new]) { q with waiting := joinBehind l new q.waiting } where
  current := h.current
  ceilings := h.ceilings_concat ceiling
  place := by
    have quiet : tail.any (Write.touchesLane l) = false :=
      List.any_eq_false.mpr (fun w mem => by rw [touchesLane_of_ceiling l (h.ceilings w mem)]; exact Bool.false_ne_true)
    rcases h.place with ⟨is, waiting⟩ | ⟨before, waiting, good⟩
    · refine .inl ⟨is, ?_⟩
      dsimp only
      rw [waiting, joinBehind_of_none l new tail quiet, joinCeiling_of_ceilings new h.ceilings]
    · refine .inr ⟨before, ?_, good⟩
      dsimp only
      rw [waiting, joinBehind_append l new (.group g) before tail touches quiet, joinCeiling_of_ceilings new h.ceilings]

/-- An advance that the store founds joins before the group, or behind the advances of one that is being written (R179). -/
theorem besideGroup (h : GroupQueued g ok c tail q) (ceiling : new.isCeiling = true) (good : ok new) :
    ∃ behind, GroupQueued g ok c (tail ++ behind) { q with waiting := joinCeiling new q.waiting } := by
  rcases h.place with ⟨is, waiting⟩ | ⟨before, waiting, all⟩
  · refine ⟨[new], h.current, h.ceilings_concat ceiling, .inl ⟨is, ?_⟩⟩
    dsimp only
    rw [waiting, joinCeiling_of_ceilings new h.ceilings]
  · refine ⟨[], h.current, ?_, .inr ⟨joinCeiling new before, ?_, fun w mem => ?_⟩⟩
    · rw [List.append_nil]
      exact h.ceilings
    · dsimp only
      rw [waiting, joinCeiling_before, List.append_nil]
    · rcases List.mem_cons.mp ((joinCeiling_perm new before).mem_iff.mp mem) with rfl | old
      · exact good
      · exact all w old

end GroupQueued

/-! ## An advance at a queue with room -/

theorem PersistQueue.room_of_length {q : PersistQueue} (h : q.unwritten.length < 4096) : q.full = false := by
  have count : q.waiting.length + (if q.current.isSome then 1 else 0) = q.unwritten.length := by
    rw [PersistQueue.length_unwritten]
    cases q.current with
    | none => exact (Nat.zero_add _).symm
    | some c => exact Nat.add_comm _ _
  unfold PersistQueue.full
  rw [count]
  exact decide_eq_false (Nat.not_le.mpr h)

theorem State.pump_of_writing {s : State} {c : Write} (h : s.persist.current = some c) : s.pump = s := by
  unfold State.pump
  rw [h]

/-- A queue that is writing takes a write among those that wait and begins nothing. -/
theorem State.requestAdvance_waits {s : State} {c : Write} (l : LaneId) (join : Write → List Write → List Write)
    (current : s.persist.current = some c) (room : s.persist.full = false) : s.requestAdvance l join =
      { s.modLane l (fun r => { r with advancePending := true }) with
        persist := { s.persist with waiting := join (s.advanceWrite l) s.persist.waiting } } := by
  have queued : s.requestAdvance l join = (s.modLane l (fun r => { r with advancePending := true })).setWaiting
      (join (s.advanceWrite l) s.persist.waiting) := if_neg (by simp [room])
  exact queued.trans (State.pump_of_writing current)

end Sys2Proof.Machine
end

section
/-! SUPPORT. The advances of a commit at a queue with room (R52, R53, R147). -/

namespace Sys2Proof.Machine

open Sys2Proof.Safety

/-- `t` comes of `s` by requests for advances at a queue with room: no event, and of a lane its pending mark alone. -/
structure Advances (s t : State) : Prop where
  events : t.events = s.events
  lane : ∀ k, t.lane k = { s.lane k with advancePending := (t.lane k).advancePending }
  pending : ∀ k, (s.lane k).advancePending = true → (t.lane k).advancePending = true

namespace Advances

variable {s t u : State}

theorem refl (s : State) : Advances s s := ⟨rfl, fun _ => rfl, fun _ h => h⟩

theorem trans (h : Advances s t) (k : Advances t u) : Advances s u where
  events := k.events.trans h.events
  lane l := by rw [k.lane l, h.lane l]
  pending l was := k.pending l (h.pending l was)

theorem advanceWrite (h : Advances s t) (l : LaneId) : t.advanceWrite l = s.advanceWrite l := by
  rw [State.advanceWrite, State.advanceWrite, h.lane l]

/-- A lane whose advance is pending makes no request (R52). -/
theorem wantsAdvance_of_pending {r : LaneRecord} (h : r.advancePending = true) : r.wantsAdvance = false := by
  rw [LaneRecord.wantsAdvance, h]
  rfl

/-- A lane that wants no advance goes on wanting none. -/
theorem wantsNone (h : Advances s t) {l : LaneId} (none : (s.lane l).wantsAdvance = false) :
    (t.lane l).wantsAdvance = false := by
  cases pending : (t.lane l).advancePending with
  | true => exact wantsAdvance_of_pending pending
  | false =>
    have was : (s.lane l).advancePending = false := by
      cases was : (s.lane l).advancePending with
      | true => exact absurd ((h.pending l was).symm.trans pending) nofun
      | false => rfl
    have same : t.lane l = s.lane l := by
      rw [h.lane l, pending, ← was]
    rw [same]
    exact none

end Advances

/-- A request where the queue is writing and has room. -/
theorem State.requestAdvance_advances {s : State} {c : Write} (l : LaneId) (join : Write → List Write → List Write)
    (current : s.persist.current = some c) (room : s.persist.full = false) :
    Advances s (s.requestAdvance l join) ∧ ((s.requestAdvance l join).lane l).advancePending = true ∧
    (s.requestAdvance l join).persist = { s.persist with waiting := join (s.advanceWrite l) s.persist.waiting } := by
  rw [State.requestAdvance_waits l join current room]
  have same : (s.modLane l (fun r => { r with advancePending := true })).lane l =
      { s.lane l with advancePending := true } := State.lane_modLane_same s l _
  have other : ∀ k, k ≠ l → (s.modLane l (fun r => { r with advancePending := true })).lane k = s.lane k :=
    fun k ne => State.lane_modLane_ne s _ ne
  generalize hm : s.modLane l (fun r => { r with advancePending := true }) = m at *
  have events : m.events = s.events := by rw [← hm]; rfl
  have lane : ∀ (q : PersistQueue) k, { m with persist := q }.lane k = m.lane k := fun _ _ => rfl
  refine ⟨⟨events, fun k => ?_, fun k was => ?_⟩, ?_, rfl⟩
  · rw [lane]
    by_cases e : k = l
    · rw [e, same]
    · rw [other k e]
  · rw [lane]
    by_cases e : k = l
    · rw [e, same]
    · rw [other k e]
      exact was
  · rw [lane, same]

theorem PersistQueue.length_waiting (q : PersistQueue) {ws : List Write} (more : ws.length = q.waiting.length + 1) :
    (PersistQueue.unwritten { q with waiting := ws }).length = q.unwritten.length + 1 := by
  rw [PersistQueue.length_unwritten, PersistQueue.length_unwritten, more, Nat.add_assoc]

/-! ## The advances of the reset lanes -/

theorem State.advanceWrite_isCeiling (s : State) (l : LaneId) : (s.advanceWrite l).isCeiling = true := rfl

/-- The advances of the reset lanes stand behind the group in the set's order (R147; log 20). -/
theorem GroupQueued.resets {g : CommitGroup} {ok : Write → Prop} {c : Write} (ls : List LaneId)
    (touches : ∀ l ∈ ls, (Write.group g).touchesLane l = true) {s : State} {tail : List Write}
    (h : GroupQueued g ok c tail s.persist) (room : s.persist.unwritten.length + ls.length ≤ 4096) :
    GroupQueued g ok c (tail ++ ls.map s.advanceWrite) (ls.foldl State.resetAdvance s).persist ∧
    (ls.foldl State.resetAdvance s).persist.unwritten.length = s.persist.unwritten.length + ls.length ∧
    Advances s (ls.foldl State.resetAdvance s) ∧
    ∀ l ∈ ls, ((ls.foldl State.resetAdvance s).lane l).advancePending = true := by
  induction ls generalizing s tail with
  | nil =>
    rw [List.map_nil, List.append_nil]
    exact ⟨h, rfl, .refl s, fun l mem => absurd mem List.not_mem_nil⟩
  | cons l ls ih =>
    rw [List.length_cons] at room
    obtain ⟨step, pending, persist⟩ := State.requestAdvance_advances l (joinBehind l) h.current
      (PersistQueue.room_of_length (by omega))
    have queued := h.behindGroup l (s.advanceWrite_isCeiling l) (touches l List.mem_cons_self)
    have length := s.persist.length_waiting (joinBehind_length l (s.advanceWrite l) s.persist.waiting)
    rw [← persist] at queued length
    rw [List.foldl_cons, State.resetAdvance]
    generalize s.requestAdvance l (joinBehind l) = t at *
    obtain ⟨queued', length', step', pending'⟩ := ih (fun k mem => touches k (List.mem_cons_of_mem l mem)) queued
      (by omega)
    have writes : ls.map t.advanceWrite = ls.map s.advanceWrite := List.map_congr_left (fun k _ => step.advanceWrite k)
    rw [writes, List.append_assoc, List.singleton_append] at queued'
    refine ⟨queued', by rw [List.length_cons]; omega, step.trans step', fun k mem => ?_⟩
    rcases List.mem_cons.mp mem with rfl | later
    · exact step'.pending k pending
    · exact pending' k later

/-! ## The advance tests -/

/-- The lanes without a pending advance. -/
def State.unasked (s : State) : Finset LaneId := Finset.univ.filter (fun k => (s.lane k).advancePending = false)

theorem State.mem_unasked (s : State) (l : LaneId) : l ∈ s.unasked ↔ (s.lane l).advancePending = false := by
  simp [State.unasked]

theorem State.card_unasked_le (s : State) : s.unasked.card ≤ 48 := (Finset.card_le_univ _).trans (Fintype.card_fin 48).le

/-- A request takes its lane from those without one. -/
theorem Advances.card_unasked {s t : State} (h : Advances s t) {l : LaneId} (was : (s.lane l).advancePending = false)
    (now : (t.lane l).advancePending = true) : t.unasked.card < s.unasked.card := by
  refine Finset.card_lt_card ((Finset.ssubset_iff_of_subset fun k mem => ?_).mpr ⟨l, ?_, ?_⟩)
  · rw [State.mem_unasked] at mem ⊢
    cases before : (s.lane k).advancePending with
    | true => exact absurd ((h.pending k before).symm.trans mem) nofun
    | false => rfl
  · exact (s.mem_unasked l).mpr was
  · rw [State.mem_unasked, now]
    nofun

/-- What the advance tests leave: the group and the writes behind it in place, no more writes than lanes without one. -/
structure Tested (g : CommitGroup) (ok : Write → Prop) (c : Write) (tail : List Write) (s t : State) : Prop where
  advances : Advances s t
  queued : ∃ behind, GroupQueued g ok c (tail ++ behind) t.persist
  length : t.persist.unwritten.length + t.unasked.card ≤ s.persist.unwritten.length + s.unasked.card

section

variable {g : CommitGroup} {ok : Write → Prop} {c : Write}

theorem Tested.refl {s : State} {tail : List Write} (h : GroupQueued g ok c tail s.persist) : Tested g ok c tail s s :=
  ⟨.refl s, ⟨[], by rwa [List.append_nil]⟩, le_rfl⟩

theorem GroupQueued.test {s : State} {tail : List Write} (h : GroupQueued g ok c tail s.persist) (l : LaneId)
    (touches : (Write.group g).touchesLane l = true) (room : s.persist.unwritten.length + s.unasked.card ≤ 4096)
    (good : (s.lane l).advancePending = false → ok (s.advanceWrite l)) :
    Tested g ok c tail s (s.foundedAdvanceTest l) ∧ ((s.foundedAdvanceTest l).lane l).wantsAdvance = false := by
  obtain ⟨founded, unfounded⟩ := s.foundedAdvanceTest_cases l
  cases wants : (s.lane l).wantsAdvance with
  | false =>
    have stands : s.foundedAdvanceTest l = s := if_neg (by rw [wants]; exact Bool.false_ne_true)
    rw [stands]
    exact ⟨.refl h, wants⟩
  | true =>
    obtain ⟨was, -⟩ := (LaneRecord.wantsAdvance_iff _).mp wants
    have one : 0 < s.unasked.card := Finset.card_pos.mpr ⟨l, (s.mem_unasked l).mpr was⟩
    have free : s.persist.full = false := PersistQueue.room_of_length (by omega)
    have request : ∀ join : Write → List Write → List Write, (∀ w ws, (join w ws).length = ws.length + 1) →
        (∃ behind, GroupQueued g ok c (tail ++ behind)
          { s.persist with waiting := join (s.advanceWrite l) s.persist.waiting }) →
        Tested g ok c tail s (s.requestAdvance l join) ∧ ((s.requestAdvance l join).lane l).wantsAdvance = false := by
      rintro join more queued
      obtain ⟨step, pending, persist⟩ := State.requestAdvance_advances l join h.current free
      have length := s.persist.length_waiting (more (s.advanceWrite l) s.persist.waiting)
      rw [← persist] at queued length
      have fewer := step.card_unasked was pending
      exact ⟨⟨step, queued, by omega⟩, Advances.wantsAdvance_of_pending pending⟩
    cases found : s.store.founds (s.advanceWrite l) with
    | true =>
      rw [founded (.inr found), State.advanceTest, if_pos wants]
      exact request joinCeiling joinCeiling_length (h.besideGroup (s.advanceWrite_isCeiling l) (good was))
    | false =>
      rw [(unfounded wants found).1 ⟨.group g, h.mem, touches⟩]
      exact request (joinBehind l) (joinBehind_length l) ⟨_, h.behindGroup l (s.advanceWrite_isCeiling l) touches⟩

theorem GroupQueued.tests (ls : List LaneId) (touches : ∀ l ∈ ls, (Write.group g).touchesLane l = true) {s : State}
    {tail : List Write} (h : GroupQueued g ok c tail s.persist)
    (room : s.persist.unwritten.length + s.unasked.card ≤ 4096)
    (good : ∀ l, (s.lane l).advancePending = false → ok (s.advanceWrite l)) :
    Tested g ok c tail s (ls.foldl State.foundedAdvanceTest s) ∧
      ∀ l ∈ ls, ((ls.foldl State.foundedAdvanceTest s).lane l).wantsAdvance = false := by
  induction ls generalizing s tail with
  | nil => exact ⟨.refl h, fun l mem => absurd mem List.not_mem_nil⟩
  | cons l ls ih =>
    obtain ⟨⟨step, ⟨behind, queued⟩, length⟩, none⟩ := h.test l (touches l List.mem_cons_self) room (good l)
    rw [List.foldl_cons]
    generalize s.foundedAdvanceTest l = t at *
    have good' : ∀ k, (t.lane k).advancePending = false → ok (t.advanceWrite k) := by
      intro k now
      rw [step.advanceWrite k]
      refine good k ?_
      cases was : (s.lane k).advancePending with
      | true => exact absurd ((step.pending k was).symm.trans now) nofun
      | false => rfl
    obtain ⟨⟨step', ⟨behind', queued'⟩, length'⟩, none'⟩ := ih (fun k mem => touches k (List.mem_cons_of_mem l mem)) queued
      (length.trans room) good'
    refine ⟨⟨step.trans step', ⟨behind ++ behind', by rwa [← List.append_assoc]⟩, length'.trans length⟩, fun k mem => ?_⟩
    rcases List.mem_cons.mp mem with rfl | later
    · exact step'.wantsNone none
    · exact none' k later

end

end Sys2Proof.Machine
end

section
/-! SUPPORT. COMMIT at a queue with room, and as a whole (R142, R146, R147, R179). -/

namespace Sys2Proof.Machine

open Sys2Proof.Safety

/-! ## The older ceiling writes of the reset lanes (R53) -/

theorem foldl_stale_ceiling (ls : List LaneId) (k : LaneId) (base : Option SlotId) (gen : Option Nat) (target : Nat)
    (old : Bool) : ls.foldl (fun w l => Write.stale l w) (.ceiling k base gen target old) =
      Write.ceiling k base gen target (old || ls.any (k == ·)) := by
  induction ls generalizing old with
  | nil => rw [List.any_nil, Bool.or_false]; rfl
  | cons l ls ih => rw [List.foldl_cons, List.any_cons, ← Bool.or_assoc, ← ih]; rfl

theorem Write.stale_of_other {w : Write} (l : LaneId) (h : w.isCeiling = false) : w.stale l = w := by
  cases w with
  | ceiling _ _ _ _ _ => exact absurd h nofun
  | group _ => rfl
  | laneState _ _ => rfl
  | slotState _ _ => rfl
  | append _ _ _ => rfl
  | update _ => rfl
  | removal _ _ _ => rfl
  | epoch _ => rfl

theorem foldl_stale_other (ls : List LaneId) {w : Write} (h : w.isCeiling = false) :
    ls.foldl (fun w l => Write.stale l w) w = w := by
  induction ls with
  | nil => rfl
  | cons l ls ih => rw [List.foldl_cons, Write.stale_of_other l h, ih]

/-- A write made stale for several lanes is stale for each of them. -/
theorem stale_foldl_stale (ls : List LaneId) (w : Write) {l : LaneId} (mem : l ∈ ls)
    (is : (ls.foldl (fun w l => Write.stale l w) w).isCeilingOf l = true) :
    (ls.foldl (fun w l => Write.stale l w) w).stale l = ls.foldl (fun w l => Write.stale l w) w := by
  cases kind : w.isCeiling with
  | false => rw [foldl_stale_other ls kind, Write.stale_of_other l kind]
  | true =>
    cases w with
    | ceiling k base gen target old =>
      rw [foldl_stale_ceiling] at is ⊢
      have same : k = l := by simpa [Write.isCeilingOf] using is
      have staled : ls.any (k == ·) = true := List.any_eq_true.mpr ⟨l, mem, by rw [same, beq_self_eq_true]⟩
      rw [staled, Bool.or_true]
      rfl
    | group _ => exact absurd kind nofun
    | laneState _ _ => exact absurd kind nofun
    | slotState _ _ => exact absurd kind nofun
    | append _ _ _ => exact absurd kind nofun
    | update _ => exact absurd kind nofun
    | removal _ _ _ => exact absurd kind nofun
    | epoch _ => exact absurd kind nofun

/-- The queue without the ceiling writes of several lanes. -/
theorem foldl_withoutCeilings (ls : List LaneId) (q : PersistQueue) :
    (ls.foldl PersistQueue.withoutCeilings q).current = q.current.map (fun w => ls.foldl (fun w l => Write.stale l w) w) ∧
    (ls.foldl PersistQueue.withoutCeilings q).waiting.Sublist q.waiting ∧
    ∀ w ∈ (ls.foldl PersistQueue.withoutCeilings q).waiting, ∀ l ∈ ls, w.isCeilingOf l = false := by
  induction ls generalizing q with
  | nil =>
    exact ⟨Option.map_id'.symm, .refl _, fun w _ l mem => absurd mem List.not_mem_nil⟩
  | cons l ls ih =>
    obtain ⟨current, waiting, none⟩ := ih (q.withoutCeilings l)
    rw [List.foldl_cons]
    refine ⟨?_, waiting.trans List.filter_sublist, fun w mem k memk => ?_⟩
    · rw [current]
      unfold PersistQueue.withoutCeilings
      rw [Option.map_map]
      rfl
    · rcases List.mem_cons.mp memk with rfl | later
      · have kept := (List.mem_filter.mp (waiting.subset mem)).2
        simpa using kept
      · exact none w mem k later

theorem length_foldl_withoutCeilings (ls : List LaneId) (q : PersistQueue) :
    (ls.foldl PersistQueue.withoutCeilings q).unwritten.length ≤ q.unwritten.length := by
  obtain ⟨current, waiting, -⟩ := foldl_withoutCeilings ls q
  have fewer := waiting.length_le
  rw [PersistQueue.length_unwritten, PersistQueue.length_unwritten, current]
  cases q.current with
  | none => exact Nat.add_le_add_left fewer _
  | some c => exact Nat.add_le_add_left fewer _

/-! ## The group joins (R147) -/

theorem State.setWaiting_of_writing {s : State} {c : Write} (ws : List Write) (h : s.persist.current = some c) :
    (s.setWaiting ws).persist = { s.persist with waiting := ws } :=
  congrArg State.persist (State.pump_of_writing (s := { s with persist := { s.persist with waiting := ws } }) h)

theorem State.setWaiting_of_idle {s : State} (w : Write) (rest : List Write) (h : s.persist.current = none) :
    (s.setWaiting (w :: rest)).persist = ⟨some w, rest, w.imageOn s.store⟩ := by
  unfold State.setWaiting State.pump
  dsimp only
  rw [h]

/-- A group that joins a queue with room stands at its tail, and the queue is writing. -/
theorem State.joinGroup_queued {s : State} (g : CommitGroup) {ok : Write → Prop} (room : s.persist.full = false)
    (good : ∀ w ∈ s.persist.waiting, ok w) : ∃ c, GroupQueued g ok c [] (s.joinGroup g).persist ∧
      (s.persist.current = some c ∨ c = .group g ∨ ok c) := by
  have joined : s.joinGroup g = s.setWaiting (s.persist.waiting ++ [.group g]) := if_neg (by simp [room])
  have none : ∀ w ∈ ([] : List Write), w.isCeiling = true := fun w mem => absurd mem List.not_mem_nil
  rw [joined]
  cases current : s.persist.current with
  | some c =>
    rw [State.setWaiting_of_writing _ current]
    exact ⟨c, ⟨current, none, .inr ⟨s.persist.waiting, rfl, good⟩⟩, .inl rfl⟩
  | none =>
    cases waiting : s.persist.waiting with
    | nil =>
      rw [List.nil_append, State.setWaiting_of_idle _ _ current]
      exact ⟨.group g, ⟨rfl, none, .inl ⟨rfl, rfl⟩⟩, .inr (.inl rfl)⟩
    | cons w rest =>
      rw [waiting] at good
      rw [List.cons_append, State.setWaiting_of_idle _ _ current]
      exact ⟨w, ⟨rfl, none, .inr ⟨rest, rfl, fun x mem => good x (List.mem_cons_of_mem w mem)⟩⟩,
        .inr (.inr (good w List.mem_cons_self))⟩

end Sys2Proof.Machine
end

section
/-! SUPPORT. COMMIT as a whole (R142, R146, R147, R179, R186). -/

namespace Sys2Proof.Machine

open Sys2Proof.Safety

/-! ## An application at a queue with room -/

theorem commitGroup_touches {s : State} {es : List StagedEntry} {l : LaneId} (mem : l ∈ laneEntries es) :
    (Write.group (commitGroup s es)).touchesLane l = true := by
  rw [← Bool.not_eq_false]
  intro untouched
  have carried := commitGroup_laneOf s es l
  rw [if_pos mem, (CommitGroup.laneOf_eq_none_iff _ l).mpr untouched] at carried
  exact absurd carried nofun

theorem mem_resetLanes {s : State} {es : List StagedEntry} {l : LaneId} (h : l ∈ resetLanes s es) :
    l ∈ laneEntries es ∧ baseChanges (s.lane l).config (lanesApplied s es)[l].config = true := List.mem_filter.mp h

theorem length_resetLanes (s : State) (es : List StagedEntry) : (resetLanes s es).length ≤ es.length :=
  (List.length_filter_le _ _).trans (List.length_filterMap_le _ _)

/-- The advance write of a reset lane (R52, R56). -/
theorem advanceWrite_reset {s u : State} {es : List StagedEntry} {l : LaneId} (mem : l ∈ resetLanes s es)
    (lane : u.lane l = (lanesApplied s es)[l]) : u.advanceWrite l =
      .ceiling l (lanesApplied s es)[l].config.base (lanesApplied s es)[l].config.baseGen 513 false := by
  have one := lanesApplied_ceiling s es l (mem_resetLanes mem).2
  rw [State.advanceWrite, lane, one]
  rfl

/-- A write is no ceiling write of the lanes of a list. -/
def noCeilingOf (ls : List LaneId) (w : Write) : Prop := ∀ l ∈ ls, w.isCeilingOf l = false

/-- The queue behind an application at a queue with room. -/
structure Queued (s : State) (es : List StagedEntry) (t : State) : Prop where
  lanes : ∀ l : LaneId, t.lane l = { (lanesApplied s es)[l] with advancePending := (t.lane l).advancePending }
  tested : ∀ l ∈ laneEntries es, (t.lane l).wantsAdvance = false
  pending : ∀ l ∈ resetLanes s es, (t.lane l).advancePending = true
  events : t.events = s.events
  queue : ∃ before behind, t.persist.unwritten = before ++ .group (commitGroup s es) ::
      (resetLanes s es).map (fun l => .ceiling l (lanesApplied s es)[l].config.base
        (lanesApplied s es)[l].config.baseGen 513 false) ++ behind ∧
    ∀ w ∈ before, ∀ l ∈ resetLanes s es, w.isCeilingOf l = true →
      s.persist.current ≠ none ∧ t.persist.current = some w ∧ w.stale l = w

/-- The group joins the queue of a set whose tables stand. -/
theorem State.joinGroup_stood (s : State) (es : List StagedEntry) (ups : List (Position × Upset))
    (room : s.persist.unwritten.length < 4096) {u : State} (is : u = (s.stood es ups).joinGroup (commitGroup s es)) :
    (∀ l : LaneId, u.lane l = (lanesApplied s es)[l]) ∧ u.events = s.events ∧
    u.persist.unwritten.length ≤ s.persist.unwritten.length + 1 ∧
    ∃ c, GroupQueued (commitGroup s es) (noCeilingOf (resetLanes s es)) c [] u.persist ∧
      ∀ l ∈ resetLanes s es, c.isCeilingOf l = true → s.persist.current ≠ none ∧ c.stale l = c := by
  subst is
  obtain ⟨current, -, none⟩ := foldl_withoutCeilings (resetLanes s es) s.persist
  have fewer := length_foldl_withoutCeilings (resetLanes s es) s.persist
  have persist : (s.stood es ups).persist = (resetLanes s es).foldl PersistQueue.withoutCeilings s.persist := rfl
  have lane : ∀ l : LaneId, (s.stood es ups).lane l = (lanesApplied s es)[l] := fun _ => rfl
  have events : (s.stood es ups).events = s.events := rfl
  rw [← persist] at current none fewer
  generalize s.stood es ups = m at *
  have free : m.persist.full = false := PersistQueue.room_of_length (by omega)
  have joined : m.joinGroup (commitGroup s es) = m.setWaiting (m.persist.waiting ++ [.group (commitGroup s es)]) :=
    if_neg (by simp [free])
  have unwritten := m.unwritten_setWaiting (m.persist.waiting ++ [.group (commitGroup s es)])
  refine ⟨fun l => ?_, ?_, ?_, ?_⟩
  · rw [joined, State.setWaiting_lane, lane]
  · obtain ⟨q, d, form⟩ := m.setWaiting_form (m.persist.waiting ++ [.group (commitGroup s es)])
    rw [joined, form]
    exact events
  · rw [joined, unwritten, ← List.append_assoc, List.length_append]
    exact Nat.add_le_add_right fewer 1
  · obtain ⟨c, queued, origin⟩ := State.joinGroup_queued (commitGroup s es) free none
    refine ⟨c, queued, fun l mem is => ?_⟩
    rcases origin with written | group | ok
    · rw [current] at written
      obtain ⟨w, was, rfl⟩ := Option.map_eq_some_iff.mp written
      exact ⟨by rw [was]; nofun, stale_foldl_stale _ w mem is⟩
    · rw [group] at is
      exact absurd is nofun
    · exact absurd ((ok l mem).symm.trans is) nofun

theorem State.applySet_queued (s : State) (p : Port) (es : List StagedEntry)
    (room : s.persist.unwritten.length + es.length + 49 ≤ 4096) : Queued s es (s.applySet p es) := by
  obtain ⟨ups, is⟩ := s.applySet_eq p es
  rw [is]
  obtain ⟨lanes, events, length, c, queued, staled⟩ := s.joinGroup_stood es ups (by omega) rfl
  generalize (s.stood es ups).joinGroup (commitGroup s es) = u at *
  have short := length_resetLanes s es
  obtain ⟨queued, length', reset, pending⟩ := queued.resets (resetLanes s es)
    (fun l mem => commitGroup_touches (mem_resetLanes mem).1) (by omega)
  rw [State.advanceAll]
  generalize (resetLanes s es).foldl State.resetAdvance u = v at *
  have few := v.card_unasked_le
  obtain ⟨⟨advances, ⟨behind, queued⟩, -⟩, none⟩ := queued.tests (laneEntries es) (fun l => commitGroup_touches) (by omega)
    (fun l idle k mem => by
      refine beq_false_of_ne (fun same => ?_)
      rw [same, pending k mem] at idle
      exact absurd idle nofun)
  generalize (laneEntries es).foldl State.foundedAdvanceTest v = t at *
  have all := reset.trans advances
  have writes : (resetLanes s es).map u.advanceWrite = (resetLanes s es).map (fun l => .ceiling l
      (lanesApplied s es)[l].config.base (lanesApplied s es)[l].config.baseGen 513 false) :=
    List.map_congr_left (fun l mem => advanceWrite_reset mem (lanes l))
  obtain ⟨before, unwritten, old⟩ := queued.unwritten
  rw [List.nil_append, writes, ← List.cons_append, ← List.append_assoc] at unwritten
  exact {
    lanes := fun l => (all.lane l).trans (by rw [lanes l]; rfl)
    tested := none
    pending := fun l mem => advances.pending l (pending l mem)
    events := all.events.trans events
    queue := by
      refine ⟨before, behind, unwritten, fun w mem l meml is => ?_⟩
      rcases old w mem with rfl | ok
      · obtain ⟨writing, stands⟩ := staled l meml is
        exact ⟨writing, queued.current, stands⟩
      · exact absurd ((ok l meml).symm.trans is) nofun }

/-! ## The request (R142) -/

theorem State.exec_commit {s : State} {p : Port} {f : EthFrame} {g : ControlFrame} (haccepted : accepted s p f g)
    (read : g.read = some .commit) : exec (.commit p f) s =
      .next (((heard s p g).commitRequest p).1.answer p g (s.controlKey p) ((heard s p g).commitRequest p).2 false) := by
  have run : exec (.commit p f) s = .next (s.receiveFrame p f) := rfl
  rw [run, State.receiveFrame_of_accepted haccepted]
  simp only [State.carryOut, read, State.replyCarried, Bool.false_eq_true, if_false]

theorem State.commitRequest_cases (s : State) (p : Port) {es : List StagedEntry} (is : es = (s.ctl p).changeSet.entries) :
    (es = [] → s.commitRequest p = (s, ⟨.refused .empty, .noEntry⟩)) ∧
    (es ≠ [] → (∀ e k r, s.judge p es = some (e, k, r) →
        s.commitRequest p = (s, ⟨.refused r, .failed e.record.table e.index k⟩)) ∧
      (s.judge p es = none → s.commitRequest p = (s.applySet p es, ⟨.done, .applied es.length⟩))) := by
  subst is
  unfold State.commitRequest
  refine ⟨fun none => if_pos none, fun some => ⟨fun e k r fails => ?_, fun passes => ?_⟩⟩
  · dsimp only
    rw [if_neg some, fails]
  · dsimp only
    rw [if_neg some, passes]

/-- Settles O25: the request is judged and applied in the state that has heard the frame, which has the same tables. -/
theorem commitAppliesAllOrNothing : Obligations.CommitAppliesAllOrNothing := by
  intro p f g es s haccepted read is
  have same := SameTables.heard s p g
  obtain ⟨empty, judged⟩ := (heard s p g).commitRequest_cases p (is.trans (heard_entries s p g).symm)
  rw [State.exec_commit haccepted read]
  refine ⟨fun none => by rw [empty none], fun some => ?_⟩
  obtain ⟨fails, passes⟩ := judged some
  rw [same.judge_eq] at fails passes
  refine ⟨fun e k reason failed => by rw [fails e k reason failed], fun none => ?_⟩
  rw [passes none]
  have persist : (heard s p g).persist = s.persist := by rw [heard_eq]; rfl
  have events : (heard s p g).events = s.events := by rw [heard_eq]; rfl
  have full : ((resetLanes (heard s p g) es).foldl State.dropCeilings (heard s p g)).persist.full =
      ((resetLanes s es).foldl State.dropCeilings s).persist.full := by
    rw [State.foldl_dropCeilings, State.foldl_dropCeilings, same.resetLanes_eq, persist]
  have committed := (heard s p g).applySet_committed p es
  have queued := (heard s p g).applySet_queued p es
  generalize (heard s p g).applySet p es = t at *
  refine ⟨t, rfl, ?_, ?_, ?_, fun l => ?_, fun isFull h => ⟨fun l mem => ?_, fun l absent => ?_⟩, committed.changeSet,
    committed.hold.trans same.hold, ?_, ?_, fun room => ?_⟩
  · rw [committed.slots, same.slotsApplied_eq]
  · rw [committed.settings, heard_eq]
    rfl
  · rw [committed.standIn, heard_eq]
    rfl
  · rw [← same.lanesApplied_eq]
    exact committed.lanes l
  · rw [committed.lost l mem, full, ← h, same.lanesApplied_eq]
  · rw [committed.kept l absent, same.lane]
  · obtain ⟨exchanges, log, engine⟩ := committed.work
    refine ⟨exchanges.trans ?_, log.trans ?_, engine.trans same.engine⟩ <;> rw [heard_eq] <;> rfl
  · obtain ⟨sent, reassembly, answers, monitor⟩ := committed.chain
    refine ⟨sent.trans ?_, reassembly.trans ?_, answers.trans ?_, monitor.trans ?_⟩ <;> rw [heard_eq] <;> rfl
  · rw [persist] at queued
    obtain ⟨lanes, tested, pending, latches, before, behind, queue, old⟩ := queued room
    rw [same.lanesApplied_eq, same.resetLanes_eq, same.commitGroup_eq] at queue
    rw [same.resetLanes_eq, persist] at old
    rw [same.resetLanes_eq] at pending
    refine ⟨fun l => ?_, tested, pending, latches.trans events, before, behind, queue, old⟩
    have lane := lanes l
    rw [same.lanesApplied_eq] at lane
    obtain ⟨mailbox, counters⟩ := lanesApplied_frame s es l
    exact ⟨(congrArg LaneRecord.config lane :), (congrArg LaneRecord.mailbox lane :).trans mailbox,
      (congrArg LaneRecord.counters lane :).trans counters⟩

end Sys2Proof.Machine
end

section
/-! SUPPORT. What the work of a start may write (R182 to R184). -/

namespace Sys2Proof.Machine

open Sys2Proof.Safety

/-! ## Events of a start (R173, R175) -/

/-- The latches after one more event of a kind. -/
def relatched (es : Vector EventLatch 18) (k : EventNumber) : Vector EventLatch 18 :=
  es.set k ⟨true, satInc Config.count8Max es[k].count⟩

theorem relatched_get (es : Vector EventLatch 18) (j k : EventNumber) :
    (relatched es j)[k] = if k = j then ⟨true, satInc Config.count8Max es[k].count⟩ else es[k] := by
  unfold relatched
  by_cases e : k = j
  · subst e
    rw [if_pos rfl]
    exact Vector.getElem_set_self _
  · rw [if_neg e]
    exact Vector.getElem_set_ne _ _ (fun h => e (Fin.ext h.symm))

theorem satInc_count8_bounds (n : Nat) : 0 < satInc Config.count8Max n ∧ satInc Config.count8Max n ≤ n + 1 ∧
    min 255 n ≤ satInc Config.count8Max n := by
  have is : satInc Config.count8Max n = if n < 255 then n + 1 else 255 := rfl
  rw [is]
  split <;> omega

/-- What is seen of one kind's latch once events have occurred. -/
structure LatchGrown (n : Nat) (old new : EventLatch) : Prop where
  latched : new = old ∨ new.latched = true
  least : min 255 old.count ≤ new.count
  most : new.count ≤ old.count + n
  agrees : (old.latched = true ↔ 0 < old.count) → (new.latched = true ↔ 0 < new.count)

theorem LatchGrown.foldl_relatched (ks : List EventNumber) (es : Vector EventLatch 18) (k : EventNumber) :
    LatchGrown ks.length es[k] (ks.foldl relatched es)[k] ∧ (k ∉ ks → (ks.foldl relatched es)[k] = es[k]) := by
  induction ks generalizing es with
  | nil => exact ⟨⟨.inl rfl, Nat.min_le_right _ _, Nat.le_add_right _ _, id⟩, fun _ => rfl⟩
  | cons j ks ih =>
    obtain ⟨⟨latched, least, most, agrees⟩, other⟩ := ih (relatched es j)
    obtain ⟨positive, high, low⟩ := satInc_count8_bounds es[k].count
    rw [List.foldl_cons, List.length_cons]
    have at_ := relatched_get es j k
    by_cases e : k = j
    · rw [if_pos e] at at_
      rw [at_] at latched least most agrees
      refine ⟨⟨.inr (latched.elim (fun h => by rw [h]) id), ?_, ?_, fun _ => agrees ⟨fun _ => positive, fun _ => rfl⟩⟩, ?_⟩
      · dsimp only at least
        omega
      · dsimp only at most
        omega
      · exact fun h => absurd (List.mem_cons.mpr (.inl e)) h
    · rw [if_neg e] at at_
      rw [at_] at latched least most agrees other
      exact ⟨⟨latched, least, by omega, agrees⟩, fun h => other (fun mem => h (List.mem_cons_of_mem j mem))⟩

/-! ## The work of a start -/

/-- Without what a start restores, prepares, latches and queues. -/
def eraseStart (u : State) : State :=
  { u with
    startCount := 0
    epoch := 0
    settings := factorySettings
    standIn := Vector.replicate 10 factoryClass
    slots := factorySlots
    lanes := Vector.replicate 48 (factoryLaneConfig.started zeroLaneCounters)
    log := []
    monitor := ⟨.down, 0, none, 0, 0⟩
    events := Vector.replicate 18 clearLatch
    freeCount := 0
    store := factoryStore
    persist := ⟨none, [], none⟩ }

/-- A start is in progress, and no lane holds a frame. -/
def Quiet (s : State) : Prop := s.phase = .starting ∧ ∀ l, (s.lane l).mailbox = none

/-- `t` comes of `s` by work of a start: nothing else is written, every event is of a kind that a start raises, and no
frame enters a mailbox. -/
structure Onward (s t : State) : Prop where
  outside : eraseStart t = eraseStart s
  raised : ∃ ks : List EventNumber, (∀ k ∈ ks, k ∈ startKinds) ∧ t.events = ks.foldl relatched s.events ∧
    t.startCount = s.startCount + ks.length
  mailbox : (∀ l, (s.lane l).mailbox = none) → ∀ l, (t.lane l).mailbox = none

namespace Onward

variable {s t u : State}

theorem phase (h : Onward s t) : t.phase = s.phase := (congrArg State.phase h.outside :)

theorem quiet (h : Onward s t) (q : Quiet s) : Quiet t := ⟨h.phase.trans q.1, h.mailbox q.2⟩

theorem refl (s : State) : Onward s s := ⟨rfl, ⟨[], fun _ mem => absurd mem List.not_mem_nil, rfl, rfl⟩, id⟩

theorem trans (h : Onward s t) (k : Onward t u) : Onward s u where
  outside := k.outside.trans h.outside
  raised := by
    obtain ⟨js, kinds, events, count⟩ := h.raised
    obtain ⟨ks, kinds', events', count'⟩ := k.raised
    refine ⟨js ++ ks, fun n mem => (List.mem_append.mp mem).elim (kinds n) (kinds' n), ?_, ?_⟩
    · rw [events', events, List.foldl_append]
    · rw [count', count, List.length_append, Nat.add_assoc]
  mailbox none := k.mailbox (h.mailbox none)

/-- What writes only restored or queued fields. -/
theorem of_write (outside : eraseStart t = eraseStart s) (events : t.events = s.events)
    (count : t.startCount = s.startCount) (mailbox : (∀ l, (s.lane l).mailbox = none) → ∀ l, (t.lane l).mailbox = none) :
    Onward s t := ⟨outside, ⟨[], fun _ mem => absurd mem List.not_mem_nil, events, count⟩, mailbox⟩

/-- What writes no lane besides. -/
theorem of_table (outside : eraseStart t = eraseStart s) (events : t.events = s.events)
    (count : t.startCount = s.startCount) (lanes : t.lanes = s.lanes) : Onward s t :=
  of_write outside events count (fun none l => by rw [State.lane, lanes]; exact none l)

/-- The tables and the log may be written. -/
theorem tables (s : State) (settings : SettingsBlock) (standIn : Vector ClassRecord 10) (slots : Vector SlotRecord 96)
    (log : List LogEntry) (epoch : Nat) (monitor : Monitor) (free : Nat) : Onward s { s with
      settings := settings, standIn := standIn, slots := slots, log := log, epoch := epoch, monitor := monitor
      freeCount := free } := of_table rfl rfl rfl rfl

theorem raise (starting : s.phase = .starting) (d : EventDetails) (kind : d.kind.number ∈ startKinds) :
    Onward s (s.raise d) := by
  rw [State.raise_of_starting starting]
  refine ⟨rfl, ⟨[d.kind.number], fun k mem => ?_, rfl, rfl⟩, id⟩
  rw [List.mem_singleton.mp mem]
  exact kind

theorem foldl {α : Type} {op : State → α → State} (step : ∀ s a, Quiet s → Onward s (op s a)) (xs : List α) {s : State}
    (h : Quiet s) : Onward s (xs.foldl op s) := by
  induction xs generalizing s with
  | nil => exact refl s
  | cons x xs ih => exact (step s x h).trans (ih ((step s x h).quiet h))

/-- A fold of work that needs the start alone. -/
theorem foldl_starting {α : Type} {op : State → α → State} (step : ∀ s a, s.phase = .starting → Onward s (op s a))
    (xs : List α) {s : State} (h : s.phase = .starting) : Onward s (xs.foldl op s) := by
  induction xs generalizing s with
  | nil => exact refl s
  | cons x xs ih => exact (step s x h).trans (ih ((step s x h).phase.trans h))

/-- An event latched before the work is latched after it. -/
theorem latched (h : Onward s t) : latchKept s t := by
  obtain ⟨ks, -, events, -⟩ := h.raised
  intro k was
  obtain ⟨⟨grown, -, -, -⟩, -⟩ := LatchGrown.foldl_relatched ks s.events k
  rw [events]
  exact grown.elim (fun same => by rw [same]; exact was) id

/-! ## Its parts -/

theorem setWaiting (s : State) (ws : List Write) : Onward s (s.setWaiting ws) := by
  obtain ⟨q, d, form⟩ := s.setWaiting_form ws
  rw [form]
  exact of_table rfl rfl rfl rfl

theorem enqueue (join : List Write → List Write) {failed : State → State} (fails : Onward s (failed s)) :
    Onward s (s.enqueue join failed) := by
  unfold State.enqueue
  split
  · exact fails
  · exact setWaiting s _

theorem writeFailed (h : s.phase = .starting) (k : WriteKind) (x : FailSubject) : Onward s (s.writeFailed k x) :=
  raise h _ (show (16 : EventNumber) ∈ startKinds by decide)

theorem modLane (s : State) (l : LaneId) (f : LaneRecord → LaneRecord) (mailbox : ∀ r, (f r).mailbox = r.mailbox) :
    Onward s (s.modLane l f) := by
  refine of_write rfl rfl rfl (fun none k => ?_)
  rw [State.lane_modLane]
  split
  · exact (mailbox _).trans (none k)
  · exact none k

theorem queueLaneState (h : s.phase = .starting) (l : LaneId) : Onward s (s.queueLaneState l) := by
  unfold State.queueLaneState State.replaceOrAppend
  split
  · exact setWaiting s _
  · exact enqueue _ (writeFailed h _ _)

theorem clearMailbox_eq (h : Quiet s) (l : LaneId) : s.clearMailbox l = s := by
  unfold State.clearMailbox
  rw [h.2 l]

theorem changeState (h : Quiet s) (l : LaneId) (st : LaneState) (d : EventDetails) (kind : d.kind.number ∈ startKinds) :
    Onward s (s.changeState l st (some d)) := by
  have changed : Onward s (s.modLane l (fun r => { r with config := { r.config with state := st } })) :=
    modLane s l _ (fun _ => rfl)
  have raised := changed.trans (raise (changed.quiet h).1 d kind)
  have same := clearMailbox_eq (raised.quiet h) l
  have queued := raised.trans (queueLaneState (raised.quiet h).1 l)
  unfold State.changeState
  dsimp only
  rw [same]
  exact queued

theorem faultLane (h : Quiet s) (l : LaneId) (c : FaultCause) : Onward s (s.faultLane l c) := by
  cases stays : staysAtFault (s.lane l).config.state with
  | true =>
    rw [s.faultLane_of_stays l c stays]
    exact refl s
  | false =>
    rw [s.faultLane_of_live l c stays]
    exact changeState h l _ _ (show (5 : EventNumber) ∈ startKinds by decide)

theorem faultNaming (h : Quiet s) (n : SlotId) (l : LaneId) : Onward s (s.faultNaming n l) := by
  unfold State.faultNaming
  dsimp only
  split
  · exact faultLane h l _
  · split
    · exact faultLane h l _
    · exact refl s

theorem advanceTest (h : Quiet s) (l : LaneId) : Onward s (s.advanceTest l) := by
  have marked := modLane s l (fun r => { r with advancePending := true }) (fun _ => rfl)
  have failed := marked.trans (writeFailed (marked.quiet h).1 .ceiling (.lane l))
  have cleared := failed.trans (modLane _ l (fun r => { r with advancePending := false }) (fun _ => rfl))
  unfold State.advanceTest State.requestAdvance State.enqueue
  split
  · split
    · exact cleared.trans (faultLane (cleared.quiet h) l .ceiling)
    · exact marked.trans (setWaiting _ _)
  · exact refl s

theorem exhaustRestored (h : Quiet s) (l : LaneId) : Onward s (s.exhaustRestored l) := by
  unfold State.exhaustRestored
  split
  · exact changeState h l _ _ (show (3 : EventNumber) ∈ startKinds by decide)
  · exact refl s

end Onward

end Sys2Proof.Machine
end

section
/-! SUPPORT. The restore of the tables (R37, R46, R118, R134, R157, R183). -/

namespace Sys2Proof.Machine

open Sys2Proof.Safety

/-! ## Settings, slots, classes and the epoch -/

theorem State.raise_form {s : State} (starting : s.phase = .starting) (d : EventDetails) :
    ∃ es n, s.raise d = { s with events := es, startCount := n } := ⟨_, _, State.raise_of_starting starting⟩

theorem State.restoreFailed_form {s : State} (starting : s.phase = .starting) (r : RecordName) :
    ∃ es n, s.restoreFailed r = { s with events := es, startCount := n } := State.raise_form starting _

theorem Onward.restoreFailed {s : State} (starting : s.phase = .starting) (r : RecordName) : Onward s (s.restoreFailed r) :=
  .raise starting _ (show (16 : EventNumber) ∈ startKinds by decide)

theorem State.restoreSettings_form {s : State} (starting : s.phase = .starting) : ∃ es n, s.restoreSettings =
    { s with settings := s.store.settings.read.getD factorySettings, events := es, startCount := n } := by
  unfold State.restoreSettings
  split
  · rename_i b read
    rw [read]
    exact ⟨_, _, rfl⟩
  · rename_i read
    obtain ⟨es, n, form⟩ := State.restoreFailed_form (s := { s with settings := factorySettings }) starting .settings
    rw [form, read]
    exact ⟨es, n, rfl⟩

theorem Onward.restoreSettings {s : State} (starting : s.phase = .starting) : Onward s s.restoreSettings := by
  unfold State.restoreSettings
  split
  · exact .tables _ _ _ _ _ _ _ _
  · exact (Onward.tables s _ _ _ _ _ _ _).trans
      (.restoreFailed (by exact starting) _)

theorem State.restoreEpoch_form {s : State} (starting : s.phase = .starting) : ∃ es n, s.restoreEpoch =
    { s with epoch := s.store.epoch.read.getD 0, events := es, startCount := n } := by
  unfold State.restoreEpoch
  split
  · rename_i b read
    rw [read]
    exact ⟨_, _, rfl⟩
  · rename_i read
    obtain ⟨es, n, form⟩ := State.restoreFailed_form (s := { s with epoch := 0 }) starting .epoch
    rw [form, read]
    exact ⟨es, n, rfl⟩

theorem Onward.restoreEpoch {s : State} (starting : s.phase = .starting) : Onward s s.restoreEpoch := by
  unfold State.restoreEpoch
  split
  · exact .tables _ _ _ _ _ _ _ _
  · exact (Onward.tables s _ _ _ _ _ _ _).trans (.restoreFailed (by exact starting) _)

theorem Onward.restoreSlots (s : State) : Onward s s.restoreSlots := .tables s _ _ _ _ _ _ _

theorem State.reportSlots_form {s : State} (starting : s.phase = .starting) :
    ∃ es n, s.reportSlots = { s with events := es, startCount := n } := by
  unfold State.reportSlots
  generalize List.finRange 96 = ns
  induction ns generalizing s with
  | nil => exact ⟨_, _, rfl⟩
  | cons n ns ih =>
    rw [List.foldl_cons]
    by_cases faulted : (s.slot n).state = .faulted
    · rw [if_pos faulted]
      obtain ⟨es, c, form⟩ := State.raise_form starting (.slotFaulted n (s.slot n).usage)
      rw [form]
      obtain ⟨es', c', form'⟩ := ih (s := { s with events := es, startCount := c }) starting
      exact ⟨es', c', form'⟩
    · rw [if_neg faulted]
      exact ih starting

theorem Onward.reportSlots {s : State} (starting : s.phase = .starting) : Onward s s.reportSlots := by
  refine .foldl_starting (fun t n still => ?_) _ starting
  split
  · exact .raise still _ (show (6 : EventNumber) ∈ startKinds by decide)
  · exact .refl t

/-- What a start makes of a Stand-In class. -/
def PersistentStore.classRestored (d : PersistentStore) (c : CardClass) : ClassRecord := d.standIn[c].read.getD factoryClass

theorem State.restoreClass_form {s : State} (starting : s.phase = .starting) (c : CardClass) : ∃ es n, s.restoreClass c =
    { s with standIn := s.standIn.set c (s.store.classRestored c), events := es, startCount := n } := by
  unfold State.restoreClass PersistentStore.classRestored
  split
  · rename_i r read
    rw [read]
    exact ⟨_, _, rfl⟩
  · rename_i read
    obtain ⟨es, n, form⟩ := State.restoreFailed_form (s := { s with standIn := s.standIn.set c factoryClass }) starting
      (.standIn c)
    rw [form, read]
    exact ⟨es, n, rfl⟩

theorem Onward.restoreClasses {s : State} (starting : s.phase = .starting) : Onward s s.restoreClasses := by
  refine .foldl_starting (fun t c still => ?_) _ starting
  unfold State.restoreClass
  split
  · exact .tables _ _ _ _ _ _ _ _
  · exact (Onward.tables t _ _ _ _ _ _ _).trans
      (.restoreFailed (by exact still) _)

theorem State.restoreClasses_form {s : State} (starting : s.phase = .starting) : ∃ v es n, s.restoreClasses =
    { s with standIn := v, events := es, startCount := n } ∧ ∀ c : CardClass, v[c] = s.store.classRestored c := by
  have fold : ∀ (cs : List CardClass) {s : State}, s.phase = .starting → ∃ v es n, cs.foldl State.restoreClass s =
      { s with standIn := v, events := es, startCount := n } ∧
      ∀ c : CardClass, v[c] = if c ∈ cs then s.store.classRestored c else s.standIn[c] := by
    intro cs
    induction cs with
    | nil => exact fun _ => ⟨_, _, _, rfl, fun c => (if_neg List.not_mem_nil).symm⟩
    | cons k cs ih =>
      intro s starting
      obtain ⟨es, n, form⟩ := State.restoreClass_form starting k
      obtain ⟨v, es', n', form', is⟩ := ih (s := { s with
        standIn := s.standIn.set k (s.store.classRestored k), events := es, startCount := n }) starting
      refine ⟨v, es', n', by rw [List.foldl_cons, form, form'], fun c => ?_⟩
      rw [is c]
      by_cases later : c ∈ cs
      · rw [if_pos later, if_pos (List.mem_cons_of_mem k later)]
      · rw [if_neg later]
        by_cases e : c = k
        · subst e
          rw [if_pos List.mem_cons_self]
          exact Vector.getElem_set_self _
        · rw [if_neg (fun mem => (List.mem_cons.mp mem).elim e later)]
          exact Vector.getElem_set_ne k.isLt c.isLt (fun h => e (Fin.ext h.symm))
  obtain ⟨v, es, n, form, is⟩ := fold (List.finRange 10) starting
  exact ⟨v, es, n, form, fun c => (is c).trans (if_pos (List.mem_finRange c))⟩

/-! ## The lanes (R37, R183) -/

/-- A lane as a start restores it: its record with the ceiling that its ceiling record gives, or the lost one. -/
def PersistentStore.laneRestored (d : PersistentStore) (k : StartKind) (old : LaneCounters) (l : LaneId) (q : LaneRecord) :
    Prop :=
  ∃ c : LaneConfig, q = c.started (keptCounters k old) ∧
    (∀ r, d.lanes[l].read = some r → c = { r with ceiling := restoredCeiling r d.ceilings[l] }) ∧
    (d.lanes[l].read = none → ∃ n, c = lostLane (.faulted .record) n)

theorem State.restoreLane_form {s : State} (starting : s.phase = .starting) (l : LaneId) : ∃ q es n f, s.restoreLane l =
    { s.setLane l q with events := es, startCount := n, freeCount := f } ∧
    s.store.laneRestored s.startKind (s.lane l).counters l q := by
  unfold State.restoreLane
  dsimp only
  split
  · rename_i c read
    refine ⟨_, _, _, _, rfl, _, rfl, fun r is => ?_, fun none => absurd (read.symm.trans none) nofun⟩
    rw [Option.some.inj (read.symm.trans is)]
  · rename_i read
    obtain ⟨es, n, form⟩ := State.restoreFailed_form (s := { s.setLane l
      ((lostLane (.faulted .record) ((Config.lostCeiling s.freeCount).val + 1)).started
        (keptCounters s.startKind (s.lane l).counters)) with freeCount := s.freeCount + 1 }) starting (.lane l)
    rw [form]
    exact ⟨_, es, n, s.freeCount + 1, rfl, _, rfl, fun r is => absurd (read.symm.trans is) nofun, fun _ => ⟨_, rfl⟩⟩

theorem State.restoreLanes_form {s : State} (starting : s.phase = .starting) : ∃ v es n f, s.restoreLanes =
    { s with lanes := v, events := es, startCount := n, freeCount := f } ∧
    ∀ l : LaneId, s.store.laneRestored s.startKind (s.lane l).counters l v[l] := by
  have fold : ∀ (ls : List LaneId) {s : State}, s.phase = .starting → ls.Nodup → ∃ v es n f,
      ls.foldl State.restoreLane s = { s with lanes := v, events := es, startCount := n, freeCount := f } ∧
      ∀ l : LaneId, (l ∉ ls → v[l] = s.lane l) ∧
        (l ∈ ls → s.store.laneRestored s.startKind (s.lane l).counters l v[l]) := by
    intro ls
    induction ls with
    | nil => exact fun _ _ => ⟨_, _, _, _, rfl, fun l => ⟨fun _ => rfl, fun mem => absurd mem List.not_mem_nil⟩⟩
    | cons k ls ih =>
      intro s starting once
      obtain ⟨fresh, once⟩ := List.nodup_cons.mp once
      obtain ⟨q, es, n, f, form, restored⟩ := State.restoreLane_form starting k
      obtain ⟨v, es', n', f', form', is⟩ := ih (s := { s.setLane k q with
        events := es, startCount := n, freeCount := f }) starting once
      refine ⟨v, es', n', f', by rw [List.foldl_cons, form, form']; rfl, fun l => ⟨fun out => ?_, fun mem => ?_⟩⟩
      · obtain ⟨other, out⟩ := not_or.mp (fun h => out (List.mem_cons.mpr h))
        rw [(is l).1 out]
        exact State.lane_setLane_ne s q other
      · by_cases e : l = k
        · subst e
          have lane : v[l] = q := ((is l).1 fresh).trans (State.lane_setLane_same s l q)
          rw [lane]
          exact restored
        · have later := (is l).2 ((List.mem_cons.mp mem).resolve_left e)
          have lane : (s.setLane k q).lane l = s.lane l := State.lane_setLane_ne s q e
          rw [← lane]
          exact later
  obtain ⟨v, es, n, f, form, is⟩ := fold allLanes starting (List.nodup_finRange 48)
  exact ⟨v, es, n, f, form, fun l => (is l).2 (List.mem_finRange l)⟩

theorem PersistentStore.laneRestored_mailbox {d : PersistentStore} {k : StartKind} {old : LaneCounters} {l : LaneId}
    {q : LaneRecord} (h : d.laneRestored k old l q) : q.mailbox = none := by
  obtain ⟨c, rfl, -⟩ := h
  rfl

theorem Onward.restoreLane {s : State} (starting : s.phase = .starting) (l : LaneId) : Onward s (s.restoreLane l) := by
  have set : ∀ (q : LaneRecord) f, q.mailbox = none → Onward s { s.setLane l q with freeCount := f } := by
    refine fun q f empty => .of_write rfl rfl rfl (fun none k => ?_)
    have lane : ({ s.setLane l q with freeCount := f } : State).lane k = (s.setLane l q).lane k := rfl
    rw [lane]
    by_cases e : k = l
    · rw [e, State.lane_setLane_same]
      exact empty
    · rw [State.lane_setLane_ne s q e]
      exact none k
  unfold State.restoreLane
  dsimp only
  split
  · exact set _ s.freeCount rfl
  · exact (set _ (s.freeCount + 1) rfl).trans (.restoreFailed (by exact starting) _)

theorem Onward.restoreLanes {s : State} (starting : s.phase = .starting) : Onward s s.restoreLanes :=
  .foldl_starting (fun _ l still => .restoreLane still l) _ starting

/-! ## The log (R134) -/

/-- A stored place joins the log, where its record holds an entry. -/
def joinRestored (log : List LogEntry) (x : PlaceId × Stored (Option LogEntry)) : List LogEntry :=
  x.2.read.join.elim log (fun e => insertBySerial e.restored log)

theorem State.restorePlace_form {s : State} (starting : s.phase = .starting) (x : PlaceId × Stored (Option LogEntry)) :
    ∃ es n f, s.restorePlace x = { s with log := joinRestored s.log x, events := es, startCount := n, freeCount := f } := by
  unfold State.restorePlace joinRestored
  split
  · rename_i e read
    rw [read]
    exact ⟨_, _, _, rfl⟩
  · rename_i read
    rw [read]
    exact ⟨_, _, _, rfl⟩
  · rename_i read
    rw [read]
    obtain ⟨es, n, form⟩ := State.raise_form (s := { s with freeCount := s.freeCount + 1 }) starting
      (.logEntryAbandoned (Config.lostLogDetails s.freeCount))
    exact ⟨es, n, _, form⟩

theorem State.restoreLog_form {s : State} (starting : s.phase = .starting) : ∃ es n f, s.restoreLog =
    { s with log := s.store.log.foldl joinRestored s.log, events := es, startCount := n, freeCount := f } := by
  unfold State.restoreLog
  generalize s.store.log = m
  induction m generalizing s with
  | nil => exact ⟨_, _, _, rfl⟩
  | cons x m ih =>
    obtain ⟨es, n, f, form⟩ := State.restorePlace_form starting x
    obtain ⟨es', n', f', form'⟩ := ih (s := { s with
      log := joinRestored s.log x, events := es, startCount := n, freeCount := f }) starting
    exact ⟨es', n', f', by rw [List.foldl_cons, form, form', List.foldl_cons]⟩

theorem Onward.restorePlace {s : State} (starting : s.phase = .starting) (x : PlaceId × Stored (Option LogEntry)) :
    Onward s (s.restorePlace x) := by
  unfold State.restorePlace
  split
  · exact .tables _ _ _ _ _ _ _ _
  · exact .refl s
  · exact (Onward.tables s _ _ _ _ _ _ _).trans
      (.raise (by exact starting) _ (show (13 : EventNumber) ∈ startKinds by decide))

theorem Onward.restoreLog {s : State} (starting : s.phase = .starting) : Onward s s.restoreLog :=
  .foldl_starting (fun _ x still => .restorePlace still x) _ starting

/-- A bad record of a log place is reported (R134, R183). -/
theorem State.restoreLog_abandons {s : State} (starting : s.phase = .starting)
    (bad : ∃ x ∈ s.store.log, x.2.read = none) : (s.restoreLog).events[13].latched = true := by
  unfold State.restoreLog
  generalize s.store.log = m at bad
  induction m generalizing s with
  | nil =>
    obtain ⟨x, mem, -⟩ := bad
    exact absurd mem List.not_mem_nil
  | cons y m ih =>
    have step := Onward.restorePlace starting y
    have still := step.phase.trans starting
    rw [List.foldl_cons]
    obtain ⟨x, mem, none⟩ := bad
    rcases List.mem_cons.mp mem with rfl | later
    · refine (Onward.foldl_starting (fun _ x still => .restorePlace still x) m still).latched 13 ?_
      unfold State.restorePlace
      rw [none]
      exact State.raise_latched _ (.logEntryAbandoned (Config.lostLogDetails s.freeCount))
    · exact ih still ⟨x, later, none⟩

end Sys2Proof.Machine
end

section
/-! SUPPORT. What the work of a start queues to the store (R15, R52, R179, R184). -/

namespace Sys2Proof.Machine

open Sys2Proof.Safety

/-! ## The store reads as it did -/

/-- The records read as they did, and the log is stored as it was. -/
def StoreKept (a b : PersistentStore) : Prop := (∀ x, sameRecord a b x) ∧ b.log = a.log

theorem StoreKept.refl (a : PersistentStore) : StoreKept a a := ⟨sameRecord_refl a, rfl⟩

theorem StoreKept.trans {a b c : PersistentStore} (h : StoreKept a b) (k : StoreKept b c) : StoreKept a c :=
  ⟨fun x => sameRecord_trans (h.1 x) (k.1 x), k.2.trans h.2⟩

/-- A write of a kind that a start queues. -/
def Write.ofStart : Write → Bool
  | .laneState _ _ => true
  | .ceiling _ _ _ _ _ => true
  | .epoch _ => true
  | _ => false

theorem Write.storeKept_beginOn {w : Write} (h : w.ofStart = true) (t : PersistentStore) : StoreKept t (w.beginOn t) := by
  have log : (w.beginOn t).log = t.log := by
    cases w with
    | laneState _ _ => rfl
    | ceiling _ _ _ _ _ => rfl
    | epoch _ => rfl
    | group _ => exact absurd h nofun
    | slotState _ _ => exact absurd h nofun
    | append _ _ _ => exact absurd h nofun
    | update _ => exact absurd h nofun
    | removal _ _ _ => exact absurd h nofun
  refine ⟨fun x => ?_, log⟩
  cases x with
  | logPlace p =>
    have same : logGet (w.beginOn t).log p = logGet t.log p := by rw [log]
    exact congrArg Stored.read same
  | settings => exact w.sameRecord_beginOn _ (.inl nofun)
  | slot n => exact w.sameRecord_beginOn _ (.inl nofun)
  | lane l => exact w.sameRecord_beginOn _ (.inl nofun)
  | ceiling l => exact w.sameRecord_beginOn _ (.inl nofun)
  | standIn c => exact w.sameRecord_beginOn _ (.inl nofun)
  | epoch => exact w.sameRecord_beginOn _ (.inl nofun)

theorem State.storeKept_setWaiting (s : State) {ws : List Write} (h : ∀ w ∈ ws, w.ofStart = true) :
    StoreKept s.store (s.setWaiting ws).store := by
  unfold State.setWaiting State.pump
  split
  · rename_i w rest _ waiting
    have mem : w ∈ ws := by
      rw [show ws = w :: rest from waiting]
      exact List.mem_cons_self
    exact Write.storeKept_beginOn (h w mem) s.store
  · exact .refl _

/-! ## The writes match the lanes (R179, R184) -/

/-- A write carries what its lane is: a state that satisfies a test, or the advance its fields ask. -/
def matchesLane (P : LaneState → Bool) (s : State) (w : Write) : Prop :=
  (∃ l, w = .laneState l (s.lane l).config.state ∧ P (s.lane l).config.state = true) ∨
    ∃ l, w = .ceiling l (s.lane l).config.base (s.lane l).config.baseGen
      (min ((s.lane l).config.ceiling + 512) 4194304) false

def writesMatch (P : LaneState → Bool) (s : State) : Prop := ∀ w ∈ s.persist.unwritten, matchesLane P s w

theorem matchesLane.ofStart {P : LaneState → Bool} {s : State} {w : Write} (h : matchesLane P s w) : w.ofStart = true := by
  rcases h with ⟨l, rfl, -⟩ | ⟨l, rfl⟩ <;> rfl

theorem matchesLane.mono {P Q : LaneState → Bool} {s : State} {w : Write} (h : matchesLane P s w)
    (imp : ∀ st, P st = true → Q st = true) : matchesLane Q s w :=
  h.imp_left (fun ⟨l, is, test⟩ => ⟨l, is, imp _ test⟩)

/-- Writes go on matching while no lane whose state is written changes it. -/
theorem matchesLane.congr {P : LaneState → Bool} {s t : State} {w : Write} (h : matchesLane P s w)
    (state : ∀ l, P (s.lane l).config.state = true → (t.lane l).config.state = (s.lane l).config.state)
    (fields : ∀ l, (t.lane l).config.base = (s.lane l).config.base ∧ (t.lane l).config.baseGen = (s.lane l).config.baseGen ∧
      (t.lane l).config.ceiling = (s.lane l).config.ceiling) : matchesLane P t w := by
  rcases h with ⟨l, rfl, test⟩ | ⟨l, rfl⟩
  · have same := state l test
    exact .inl ⟨l, by rw [same], by rw [same]; exact test⟩
  · obtain ⟨base, gen, ceiling⟩ := fields l
    rw [← base, ← gen, ← ceiling]
    exact .inr ⟨l, rfl⟩

/-- A lane-state write joins, or takes an earlier one's place. -/
theorem State.queueLaneState_joins {s : State} (l : LaneId) (room : s.persist.full = false) :
    ∃ ws, s.queueLaneState l = s.setWaiting ws ∧
      (∀ w ∈ ws, w = .laneState l (s.lane l).config.state ∨ w ∈ s.persist.waiting) ∧
      ws.length ≤ s.persist.waiting.length + 1 := by
  have members : ∀ (stop hit : Write → Bool) (new : Write) (ws vs : List Write), replaceLast stop hit new ws = some vs →
      ∀ w ∈ vs, w = new ∨ w ∈ ws := by
    intro stop hit new ws
    induction ws with
    | nil => exact fun vs h => absurd h nofun
    | cons x ws ih =>
      intro vs h w mem
      unfold replaceLast at h
      split at h
      · exact absurd h nofun
      · split at h
        · rw [← Option.some.inj h] at mem
          exact (List.mem_cons.mp mem).imp_right (List.mem_cons_of_mem x)
        · obtain ⟨xs, found, rfl⟩ := Option.map_eq_some_iff.mp h
          rcases List.mem_cons.mp mem with rfl | later
          · exact .inr List.mem_cons_self
          · exact (ih xs found w later).imp_right (List.mem_cons_of_mem x)
  unfold State.queueLaneState State.replaceOrAppend
  split
  · rename_i ws replaced
    refine ⟨ws.reverse, rfl, fun w mem => ?_, ?_⟩
    · exact (members _ _ _ _ _ replaced w (List.mem_reverse.mp mem)).imp_right List.mem_reverse.mp
    · rw [List.length_reverse, replaceLast_length _ _ _ _ _ replaced, List.length_reverse]
      exact Nat.le_succ _
  · refine ⟨_, if_neg (by simp [room]), fun w mem => ?_, by rw [List.length_append]; exact le_rfl⟩
    exact (List.mem_append.mp mem).symm.imp_left List.mem_singleton.mp

/-- A change of state in a start queues the lane's new state. -/
theorem State.changeState_joins {s : State} (h : Quiet s) (room : s.persist.full = false) (l : LaneId) (st : LaneState)
    (d : EventDetails) : ∃ ws, (s.changeState l st (some d)).persist.unwritten = s.persist.current.toList ++ ws ∧
      (∀ w ∈ ws, w = .laneState l st ∨ w ∈ s.persist.waiting) ∧ ws.length ≤ s.persist.waiting.length + 1 ∧
      ((∀ w ∈ ws, w.ofStart = true) → StoreKept s.store (s.changeState l st (some d)).store) := by
  set m := s.modLane l (fun r => { r with config := { r.config with state := st } }) with hm
  have quiet : Quiet (m.raise d) := by
    refine ⟨(State.raise_phase m d).trans h.1, fun k => ?_⟩
    rw [State.raise_lane, hm, State.lane_modLane]
    split
    · exact h.2 k
    · exact h.2 k
  have persist : (m.raise d).persist = s.persist := (State.raise_persist m d).trans rfl
  have store : (m.raise d).store = s.store := (State.raise_store m d).trans rfl
  have entered : ((m.raise d).lane l).config.state = st := by rw [State.raise_lane, hm, State.lane_modLane_same]
  have is : s.changeState l st (some d) = (m.raise d).queueLaneState l :=
    congrArg (fun u : State => u.queueLaneState l) (Onward.clearMailbox_eq quiet l)
  rw [is]
  generalize m.raise d = v at *
  obtain ⟨ws, queued, members, length⟩ := State.queueLaneState_joins (s := v) l (by rw [persist]; exact room)
  rw [entered, persist] at members
  rw [persist] at length
  refine ⟨ws, ?_, members, length, fun all => ?_⟩
  · rw [queued, State.unwritten_setWaiting, persist]
  · rw [queued, ← store]
    exact v.storeKept_setWaiting all

/-! ## A lane's state settles -/

/-- The lanes whose state does not satisfy a test yet. -/
def unsettled (P : LaneState → Bool) (s : State) : Finset LaneId :=
  Finset.univ.filter (fun l => P (s.lane l).config.state = false)

theorem mem_unsettled (P : LaneState → Bool) (s : State) (l : LaneId) :
    l ∈ unsettled P s ↔ P (s.lane l).config.state = false := by simp [unsettled]

theorem card_unsettled_le (P : LaneState → Bool) (s : State) : (unsettled P s).card ≤ 48 :=
  (Finset.card_le_univ _).trans (Fintype.card_fin 48).le

/-- `t` comes of `s` by work of a start in which lanes enter states that satisfy a test, each with one write at most. -/
structure Settles (P : LaneState → Bool) (s t : State) : Prop where
  onward : Onward s t
  store : StoreKept s.store t.store
  writes : writesMatch P s → writesMatch P t
  count : t.persist.unwritten.length + (unsettled P t).card ≤ s.persist.unwritten.length + (unsettled P s).card

namespace Settles

variable {P : LaneState → Bool} {s t u : State}

theorem refl (P : LaneState → Bool) (s : State) : Settles P s s := ⟨.refl s, .refl _, id, le_rfl⟩

theorem trans (h : Settles P s t) (k : Settles P t u) : Settles P s u :=
  ⟨h.onward.trans k.onward, h.store.trans k.store, fun w => k.writes (h.writes w), k.count.trans h.count⟩

/-- A lane enters a state that satisfies the test. -/
theorem changeState (h : Quiet s) (matches_ : writesMatch P s)
    (room : s.persist.unwritten.length + (unsettled P s).card ≤ 4096) {l : LaneId} {st : LaneState} {d : EventDetails}
    (kind : d.kind.number ∈ startKinds) (was : P (s.lane l).config.state = false) (now : P st = true) :
    Settles P s (s.changeState l st (some d)) := by
  have one : 0 < (unsettled P s).card := Finset.card_pos.mpr ⟨l, (mem_unsettled P s l).mpr was⟩
  have lanes := s.lane_changeState l
  have lane : ∀ k, ((s.changeState l st (some d)).lane k).config =
      if k = l then { (s.lane k).config with state := st } else (s.lane k).config := fun k => by
    rw [lanes k]
    by_cases e : k = l
    · rw [if_pos e, if_pos e, LaneRecord.entered_config]
    · rw [if_neg e, if_neg e]
  have state : ∀ k, P (s.lane k).config.state = true →
      ((s.changeState l st (some d)).lane k).config.state = (s.lane k).config.state := fun k test => by
    rw [lane k, if_neg]
    rintro rfl
    exact absurd (was.symm.trans test) nofun
  have fields : ∀ k, ((s.changeState l st (some d)).lane k).config.base = (s.lane k).config.base ∧
      ((s.changeState l st (some d)).lane k).config.baseGen = (s.lane k).config.baseGen ∧
      ((s.changeState l st (some d)).lane k).config.ceiling = (s.lane k).config.ceiling := fun k => by
    rw [lane k]
    split <;> exact ⟨rfl, rfl, rfl⟩
  have entered : ((s.changeState l st (some d)).lane l).config.state = st := by rw [lane l, if_pos rfl]
  have onward := Onward.changeState h l st d kind
  have free : s.persist.full = false := PersistQueue.room_of_length (by omega)
  obtain ⟨ws, unwritten, members, length, store⟩ := State.changeState_joins h free l st d
  have waits : ∀ w ∈ s.persist.waiting, w ∈ s.persist.unwritten := fun w mem => List.mem_append_right _ mem
  refine ⟨onward, store (fun w mem => ?_), fun _ w mem => ?_, ?_⟩
  · rcases members w mem with rfl | old
    · rfl
    · exact (matches_ w (waits w old)).ofStart
  · rw [unwritten] at mem
    rcases List.mem_append.mp mem with current | joined
    · exact (matches_ w (List.mem_append_left _ current)).congr state fields
    · rcases members w joined with rfl | old
      · exact .inl ⟨l, by rw [entered], by rw [entered]; exact now⟩
      · exact (matches_ w (waits w old)).congr state fields
  · have fewer : (unsettled P (s.changeState l st (some d))).card < (unsettled P s).card := by
      refine Finset.card_lt_card ((Finset.ssubset_iff_of_subset fun k mem => ?_).mpr ⟨l, ?_, ?_⟩)
      · rw [mem_unsettled] at mem ⊢
        cases test : P (s.lane k).config.state with
        | false => rfl
        | true =>
          rw [state k test, test] at mem
          exact absurd mem nofun
      · exact (mem_unsettled P s l).mpr was
      · rw [mem_unsettled, entered, now]
        nofun
    rw [unwritten, List.length_append]
    have total := s.persist.length_unwritten
    omega

/-- A fold of work, each step of which settles lanes at a queue with room. -/
theorem foldl {α : Type} {op : State → α → State} (step : ∀ s a, Quiet s → writesMatch P s →
      s.persist.unwritten.length + (unsettled P s).card ≤ 4096 → Settles P s (op s a)) (xs : List α) {s : State}
    (h : Quiet s) (matches_ : writesMatch P s) (room : s.persist.unwritten.length + (unsettled P s).card ≤ 4096) :
    Settles P s (xs.foldl op s) := by
  induction xs generalizing s with
  | nil => exact refl P s
  | cons x xs ih =>
    have first := step s x h matches_ room
    exact first.trans (ih (first.onward.quiet h) (first.writes matches_) (first.count.trans room))

/-- A lane that names a FAULTED slot leaves the states that a fault ends (R34). -/
theorem faultNaming (n : SlotId) (l : LaneId) (h : Quiet s) (matches_ : writesMatch staysAtFault s)
    (room : s.persist.unwritten.length + (unsettled staysAtFault s).card ≤ 4096) :
    Settles staysAtFault s (s.faultNaming n l) := by
  have fault : ∀ c, Settles staysAtFault s (s.faultLane l c) := by
    intro c
    cases stays : staysAtFault (s.lane l).config.state with
    | true =>
      rw [s.faultLane_of_stays l c stays]
      exact refl _ s
    | false =>
      rw [s.faultLane_of_live l c stays]
      exact changeState h matches_ room (show (5 : EventNumber) ∈ startKinds by decide) stays rfl
  unfold State.faultNaming
  dsimp only
  split
  · exact fault _
  · split
    · exact fault _
    · exact refl _ s

/-- The lanes of the slots restored FAULTED (R37). -/
theorem faultRestored (h : Quiet s) (matches_ : writesMatch staysAtFault s)
    (room : s.persist.unwritten.length + (unsettled staysAtFault s).card ≤ 4096) :
    Settles staysAtFault s s.faultRestored := by
  refine foldl (fun t n quiet held free => ?_) _ h matches_ room
  split
  · exact foldl (fun u l quiet held free => faultNaming n l quiet held free) _ quiet held free
  · exact refl _ t

/-- Whether a lane is in another state than READY. -/
def notReady (st : LaneState) : Bool := decide (st ≠ .ready)

/-- The lanes past the payment limit (R37). -/
theorem exhaustAll (h : Quiet s) (matches_ : writesMatch notReady s)
    (room : s.persist.unwritten.length + (unsettled notReady s).card ≤ 4096) :
    Settles notReady s (allLanes.foldl State.exhaustRestored s) := by
  refine foldl (fun t l quiet held free => ?_) _ h matches_ room
  unfold State.exhaustRestored
  split
  · rename_i spent
    exact changeState quiet held free (show (3 : EventNumber) ∈ startKinds by decide)
      (decide_eq_false (not_not.mpr spent.1)) rfl
  · exact refl _ t

end Settles

end Sys2Proof.Machine
end

section
/-! SUPPORT. What the work of a start makes of the lanes, and its last writes (R37, R52, R184). -/

namespace Sys2Proof.Machine

open Sys2Proof.Safety

/-! ## The lanes of FAULTED slots (R34, R37) -/

/-- The slots that are FAULTED, in ascending order. -/
def State.faultedSlots (s : State) : List SlotId := (List.finRange 96).filter (fun n => decide ((s.slot n).state = .faulted))

theorem State.mem_faultedSlots (s : State) (n : SlotId) : n ∈ s.faultedSlots ↔ (s.slot n).state = .faulted := by
  simp [State.faultedSlots]

theorem State.lane_faultRestored (s : State) (l : LaneId) :
    s.faultRestored.lane l = s.faultedSlots.foldl LaneRecord.slotFaulted (s.lane l) := by
  unfold State.faultRestored State.faultedSlots
  generalize List.finRange 96 = ns
  induction ns generalizing s with
  | nil => rfl
  | cons n ns ih =>
    rw [List.foldl_cons]
    by_cases faulted : (s.slot n).state = .faulted
    · have slot : ∀ m, (s.faultLanesOf n).slot m = s.slot m := fun m => by
        rw [State.slot, State.slots_of_lanes (s.sansLanes_faultLanesOf n), State.slot]
      rw [if_pos faulted, ih, State.lane_faultLanesOf, List.filter_cons_of_pos (by simpa using faulted), List.foldl_cons]
      simp only [slot]
    · rw [if_neg faulted, ih, List.filter_cons_of_neg (by simpa using faulted)]

/-- A lane stays, or enters FAULTED with the cause by which one of the slots reaches it. -/
theorem LaneRecord.foldl_slotFaulted (ns : List SlotId) (r : LaneRecord) :
    (ns.foldl LaneRecord.slotFaulted r = r ∧
      (staysAtFault r.config.state = true ∨ ∀ n ∈ ns, r.config.causeOf n = none)) ∨
    (staysAtFault r.config.state = false ∧
      ∃ n ∈ ns, ∃ c, r.config.causeOf n = some c ∧ ns.foldl LaneRecord.slotFaulted r = r.entered (.faulted c)) := by
  have stays : ∀ (ns : List SlotId) (q : LaneRecord), staysAtFault q.config.state = true →
      ns.foldl LaneRecord.slotFaulted q = q := by
    intro ns q stays
    induction ns with
    | nil => rfl
    | cons n ns ih =>
      have same : q.slotFaulted n = q := by
        unfold LaneRecord.slotFaulted
        cases q.config.causeOf n with
        | none => rfl
        | some c => exact if_pos stays
      rw [List.foldl_cons, same, ih]
  cases live : staysAtFault r.config.state with
  | true => exact .inl ⟨stays ns r live, .inl rfl⟩
  | false =>
    induction ns with
    | nil => exact .inl ⟨rfl, .inr (fun n mem => absurd mem List.not_mem_nil)⟩
    | cons n ns ih =>
      rw [List.foldl_cons]
      cases cause : r.config.causeOf n with
      | some c =>
        have hit : r.slotFaulted n = r.entered (.faulted c) := by
          unfold LaneRecord.slotFaulted
          rw [cause, live]
          rfl
        rw [hit, stays ns _ (by rw [LaneRecord.entered_config]; rfl)]
        exact .inr ⟨rfl, n, List.mem_cons_self, c, cause, rfl⟩
      | none =>
        have missed : r.slotFaulted n = r := by
          unfold LaneRecord.slotFaulted
          rw [cause]
        rw [missed]
        rcases ih with ⟨same, live' | none⟩ | ⟨-, m, mem, c, cause', is⟩
        · exact absurd live' nofun
        · refine .inl ⟨same, .inr (fun m mem => ?_)⟩
          rcases List.mem_cons.mp mem with rfl | later
          · exact cause
          · exact none m later
        · exact .inr ⟨rfl, m, List.mem_cons_of_mem n mem, c, cause', is⟩

/-! ## The lanes past the payment limit (R37) -/

/-- A lane as the first step of the preparation leaves it. -/
def LaneRecord.exhausts (r : LaneRecord) : LaneRecord :=
  if r.config.state = .ready ∧ r.spentForPayments = true then r.entered .exhausted else r

theorem State.lane_exhaustRestored (s : State) (l k : LaneId) :
    (s.exhaustRestored l).lane k = if k = l then (s.lane k).exhausts else s.lane k := by
  unfold State.exhaustRestored LaneRecord.exhausts
  by_cases e : k = l
  · subst e
    rw [if_pos rfl]
    split
    · rw [State.lane_changeState, if_pos rfl]
    · rfl
  · rw [if_neg e]
    split
    · rw [State.lane_changeState, if_neg e]
    · rfl

theorem State.lane_exhaustAll (s : State) (k : LaneId) :
    (allLanes.foldl State.exhaustRestored s).lane k = (s.lane k).exhausts := by
  have fold : ∀ (ls : List LaneId) (t : State), ls.Nodup → (ls.foldl State.exhaustRestored t).lane k =
      if k ∈ ls then (t.lane k).exhausts else t.lane k := by
    intro ls
    induction ls with
    | nil => exact fun t _ => (if_neg List.not_mem_nil).symm
    | cons l ls ih =>
      intro t once
      obtain ⟨fresh, once⟩ := List.nodup_cons.mp once
      rw [List.foldl_cons, ih _ once, State.lane_exhaustRestored]
      by_cases e : k = l
      · subst e
        rw [if_neg fresh, if_pos rfl, if_pos List.mem_cons_self]
      · rw [if_neg e]
        simp only [List.mem_cons, e, false_or]
  exact (fold allLanes s (List.nodup_finRange 48)).trans (if_pos (List.mem_finRange k))

theorem State.sansLanes_exhaustRestored (s : State) (l : LaneId) : (s.exhaustRestored l).sansLanes = s.sansLanes := by
  unfold State.exhaustRestored
  split
  · exact State.sansLanes_changeState _ _ _ _
  · rfl

theorem State.sansLanes_faultRestored (s : State) : s.faultRestored.sansLanes = s.sansLanes := by
  refine foldl_keeps State.sansLanes _ (fun t n => ?_) _ s
  split
  · exact t.sansLanes_faultLanesOf n
  · rfl

theorem State.sansLanes_prepareCounters (s : State) : s.prepareCounters.sansLanes = s.sansLanes :=
  (foldl_keeps State.sansLanes _ State.sansLanes_advanceTest allLanes _).trans
    (foldl_keeps State.sansLanes _ State.sansLanes_exhaustRestored allLanes s)

/-! ## The advances (R52) -/

/-- `t` comes of `s` by advance tests of a start at a queue with room. -/
structure Asks (P : LaneState → Bool) (s t : State) : Prop where
  onward : Onward s t
  advances : Advances s t
  store : StoreKept s.store t.store
  writes : writesMatch P s → writesMatch P t
  count : t.persist.unwritten.length + t.unasked.card ≤ s.persist.unwritten.length + s.unasked.card

theorem Asks.refl (P : LaneState → Bool) (s : State) : Asks P s s := ⟨.refl s, .refl s, .refl _, id, le_rfl⟩

theorem Asks.trans {P : LaneState → Bool} {s t u : State} (h : Asks P s t) (k : Asks P t u) : Asks P s u :=
  ⟨h.onward.trans k.onward, h.advances.trans k.advances, h.store.trans k.store, fun w => k.writes (h.writes w),
    k.count.trans h.count⟩

theorem Asks.advanceTest {P : LaneState → Bool} {s : State} (h : Quiet s) (matches_ : writesMatch P s)
    (room : s.persist.unwritten.length + s.unasked.card ≤ 4096) (l : LaneId) : Asks P s (s.advanceTest l) := by
  have onward := Onward.advanceTest h l
  cases wants : (s.lane l).wantsAdvance with
  | false =>
    have stands : s.advanceTest l = s := if_neg (by rw [wants]; exact Bool.false_ne_true)
    rw [stands]
    exact .refl P s
  | true =>
    obtain ⟨was, -⟩ := (LaneRecord.wantsAdvance_iff _).mp wants
    have one : 0 < s.unasked.card := Finset.card_pos.mpr ⟨l, (s.mem_unasked l).mpr was⟩
    have free : s.persist.full = false := PersistQueue.room_of_length (by omega)
    have asked : s.advanceTest l = s.requestAdvance l joinCeiling := if_pos wants
    have queued : s.requestAdvance l joinCeiling = (s.modLane l (fun r => { r with advancePending := true })).setWaiting
        (joinCeiling (s.advanceWrite l) s.persist.waiting) := if_neg (by simp [free])
    rw [asked, queued] at onward ⊢
    set m := s.modLane l (fun r => { r with advancePending := true }) with hm
    have unwritten : (m.setWaiting (joinCeiling (s.advanceWrite l) s.persist.waiting)).persist.unwritten =
        s.persist.current.toList ++ joinCeiling (s.advanceWrite l) s.persist.waiting := m.unwritten_setWaiting _
    have lane : ∀ k, (m.setWaiting (joinCeiling (s.advanceWrite l) s.persist.waiting)).lane k =
        if k = l then { s.lane k with advancePending := true } else s.lane k := fun k => by
      rw [State.setWaiting_lane, hm, State.lane_modLane]
    have events : (m.setWaiting (joinCeiling (s.advanceWrite l) s.persist.waiting)).events = s.events := by
      obtain ⟨q, d, form⟩ := m.setWaiting_form (joinCeiling (s.advanceWrite l) s.persist.waiting)
      rw [form]
      rfl
    have members : ∀ w ∈ joinCeiling (s.advanceWrite l) s.persist.waiting, w = s.advanceWrite l ∨ w ∈ s.persist.waiting :=
      fun w mem => List.mem_cons.mp ((joinCeiling_perm _ _).mem_iff.mp mem)
    have started : ∀ w ∈ joinCeiling (s.advanceWrite l) s.persist.waiting, w.ofStart = true := fun w mem => by
      rcases members w mem with rfl | old
      · rfl
      · exact (matches_ w (List.mem_append_right _ old)).ofStart
    have store : StoreKept s.store (m.setWaiting (joinCeiling (s.advanceWrite l) s.persist.waiting)).store :=
      m.storeKept_setWaiting started
    generalize m.setWaiting (joinCeiling (s.advanceWrite l) s.persist.waiting) = t at *
    have advances : Advances s t := by
      refine ⟨events, fun k => ?_, fun k pending => ?_⟩
      · rw [lane k]
        split <;> rfl
      · rw [lane k]
        split
        · rfl
        · exact pending
    have config : ∀ k, (t.lane k).config = (s.lane k).config := fun k => by
      rw [advances.lane k]
    refine ⟨onward, advances, store, fun held w mem => ?_, ?_⟩
    · have old : w ∈ s.persist.unwritten → matchesLane P t w := fun mem =>
        (held w mem).congr (fun k _ => by rw [config]) (fun k => by rw [config]; exact ⟨rfl, rfl, rfl⟩)
      rw [unwritten] at mem
      rcases List.mem_append.mp mem with current | joined
      · exact old (List.mem_append_left _ current)
      · rcases members w joined with rfl | waited
        · refine .inr ⟨l, ?_⟩
          rw [config]
          rfl
        · exact old (List.mem_append_right _ waited)
    · have fewer := advances.card_unasked was (by rw [lane l, if_pos rfl])
      have total := s.persist.length_unwritten
      rw [unwritten, List.length_append, joinCeiling_length]
      omega

theorem Asks.advanceAll {P : LaneState → Bool} (ls : List LaneId) {s : State} (h : Quiet s) (matches_ : writesMatch P s)
    (room : s.persist.unwritten.length + s.unasked.card ≤ 4096) : Asks P s (ls.foldl State.advanceTest s) := by
  induction ls generalizing s with
  | nil => exact .refl P s
  | cons l ls ih =>
    have first := Asks.advanceTest h matches_ room l
    exact first.trans (ih (first.onward.quiet h) (first.writes matches_) (first.count.trans room))

/-! ## The epoch (R184) -/

/-- The epoch rises, and its write stands last in the queue. -/
theorem State.prepareEpoch_of_room {s : State} {P : LaneState → Bool} (matches_ : writesMatch P s)
    (room : s.persist.unwritten.length < 4096) : Onward s s.prepareEpoch ∧ StoreKept s.store s.prepareEpoch.store ∧
    s.prepareEpoch.epoch = (s.epoch + 1) % 1024 ∧ s.prepareEpoch.lanes = s.lanes ∧
    { s.prepareEpoch with epoch := 0, persist := s.persist, store := s.store } = { s with epoch := 0 } ∧
    s.prepareEpoch.persist.unwritten = s.persist.unwritten ++ [.epoch s.prepareEpoch.epoch] := by
  set m : State := { s with epoch := (s.epoch + 1) % 1024 } with hm
  have is : s.prepareEpoch = m.setWaiting (s.persist.waiting ++ [.epoch ((s.epoch + 1) % 1024)]) :=
    if_neg (by rw [PersistQueue.room_of_length room]; exact Bool.false_ne_true)
  obtain ⟨q, d, form⟩ := m.setWaiting_form (s.persist.waiting ++ [.epoch ((s.epoch + 1) % 1024)])
  have unwritten : q.unwritten = s.persist.unwritten ++ [.epoch ((s.epoch + 1) % 1024)] := by
    have eq := m.unwritten_setWaiting (s.persist.waiting ++ [.epoch ((s.epoch + 1) % 1024)])
    rw [form, ← List.append_assoc] at eq
    exact eq
  have store : StoreKept s.store d := by
    have kept := m.storeKept_setWaiting (ws := s.persist.waiting ++ [.epoch ((s.epoch + 1) % 1024)]) (fun w mem => by
      rcases List.mem_append.mp mem with old | last
      · exact (matches_ w (List.mem_append_right _ old)).ofStart
      · rw [List.mem_singleton.mp last]
        rfl)
    rw [form] at kept
    exact kept
  rw [is, form]
  refine ⟨?_, store, rfl, rfl, rfl, unwritten⟩
  · have risen : Onward s m := .tables s _ _ _ _ _ _ _
    have kept := risen.trans (.setWaiting m (s.persist.waiting ++ [.epoch ((s.epoch + 1) % 1024)]))
    rw [form] at kept
    exact kept

end Sys2Proof.Machine
end

section
/-! SUPPORT. The Deferred Log as a start restores it (R134). -/

namespace Sys2Proof.Machine

open Sys2Proof.Safety

/-! ## The restored entries -/

theorem insertBySerial_perm (e : LogEntry) (log : List LogEntry) : (insertBySerial e log).Perm (e :: log) := by
  induction log with
  | nil => exact .refl _
  | cons x r ih =>
    unfold insertBySerial
    split
    · exact .refl _
    · exact (ih.cons x).trans (.swap e x r)

theorem insertBySerial_sorted (e : LogEntry) {log : List LogEntry} (h : log.Pairwise (fun x y => x.serial ≤ y.serial)) :
    (insertBySerial e log).Pairwise (fun x y => x.serial ≤ y.serial) := by
  induction log with
  | nil => exact List.pairwise_singleton _ e
  | cons x r ih =>
    obtain ⟨first, rest⟩ := List.pairwise_cons.mp h
    unfold insertBySerial
    split
    · rename_i earlier
      refine List.pairwise_cons.mpr ⟨fun y mem => ?_, h⟩
      rcases List.mem_cons.mp mem with rfl | later
      · exact earlier.le
      · exact earlier.le.trans (first y later)
    · rename_i later
      refine List.pairwise_cons.mpr ⟨fun y mem => ?_, ih rest⟩
      rcases List.mem_cons.mp ((insertBySerial_perm e r).mem_iff.mp mem) with rfl | old
      · exact Nat.not_lt.mp later
      · exact first y old

/-- Whether a stored place holds an entry that can be read. -/
def readable (w : Stored (Option LogEntry)) : Bool := w.read.join.isSome

theorem joinRestored_of_read {log : List LogEntry} {x : PlaceId × Stored (Option LogEntry)} {e : LogEntry}
    (read : x.2.read = some (some e)) : joinRestored log x = insertBySerial e.restored log := by
  rw [joinRestored, read]
  rfl

theorem readable_iff (w : Stored (Option LogEntry)) : readable w = true ↔ ∃ e, w.read = some (some e) := by
  unfold readable
  cases read : w.read with
  | none => simp
  | some o => cases o <;> simp

theorem joinRestored_of_unreadable {log : List LogEntry} {x : PlaceId × Stored (Option LogEntry)}
    (none : readable x.2 = false) : joinRestored log x = log := by
  have is : x.2.read.join = Option.none := by
    unfold readable at none
    exact Option.not_isSome_iff_eq_none.mp (by rw [none]; exact Bool.false_ne_true)
  rw [joinRestored, is]
  rfl

/-- The log holds the readable entries of the places, and the ones it held. -/
theorem mem_foldl_joinRestored (m : StoredLog) (log : List LogEntry) (y : LogEntry) : y ∈ m.foldl joinRestored log ↔
    y ∈ log ∨ ∃ x ∈ m, ∃ e, x.2.read = some (some e) ∧ y = e.restored := by
  induction m generalizing log with
  | nil => simp
  | cons x m ih =>
    rw [List.foldl_cons, ih]
    cases holds : readable x.2 with
    | true =>
      obtain ⟨e, read⟩ := (readable_iff _).mp holds
      rw [joinRestored_of_read read, (insertBySerial_perm _ _).mem_iff, List.mem_cons]
      simp only [List.mem_cons, exists_eq_or_imp, read, Option.some.injEq, exists_eq_left']
      tauto
    | false =>
      have unread : ¬ ∃ e, x.2.read = some (some e) ∧ y = e.restored := by
        rintro ⟨e, read, -⟩
        exact absurd (holds.symm.trans ((readable_iff _).mpr ⟨e, read⟩)) nofun
      rw [joinRestored_of_unreadable holds]
      simp only [List.mem_cons, exists_eq_or_imp, unread, false_or]

theorem length_foldl_joinRestored (m : StoredLog) (log : List LogEntry) :
    (m.foldl joinRestored log).length = log.length + m.countP (fun x => readable x.2) := by
  induction m generalizing log with
  | nil => rfl
  | cons x m ih =>
    rw [List.foldl_cons, ih, List.countP_cons]
    cases holds : readable x.2 with
    | true =>
      obtain ⟨e, read⟩ := (readable_iff _).mp holds
      rw [joinRestored_of_read read, (insertBySerial_perm _ _).length_eq, List.length_cons, if_pos rfl]
      omega
    | false =>
      rw [joinRestored_of_unreadable holds, if_neg Bool.false_ne_true]
      rfl

theorem foldl_joinRestored_sorted (m : StoredLog) {log : List LogEntry}
    (h : log.Pairwise (fun x y => x.serial ≤ y.serial)) :
    (m.foldl joinRestored log).Pairwise (fun x y => x.serial ≤ y.serial) := by
  induction m generalizing log with
  | nil => exact h
  | cons x m ih =>
    refine ih ?_
    unfold joinRestored
    cases x.2.read.join with
    | none => exact h
    | some e => exact insertBySerial_sorted _ h

/-! ## The places of the stored log -/

theorem logGet_mem {m : StoredLog} {p : PlaceId} (h : logGet m p ≠ freeStored) : (p, logGet m p) ∈ m := by
  induction m with
  | nil => exact absurd rfl h
  | cons x rest ih =>
    obtain ⟨q, w⟩ := x
    unfold logGet at h ⊢
    by_cases e : q = p
    · rw [if_pos e, e]
      exact List.mem_cons_self
    · rw [if_neg e] at h ⊢
      exact List.mem_cons_of_mem _ (ih h)

theorem logGet_of_mem {m : StoredLog} (form : logForm m = true) {p : PlaceId} {w : Stored (Option LogEntry)}
    (mem : (p, w) ∈ m) : logGet m p = w := by
  induction m with
  | nil => exact absurd mem List.not_mem_nil
  | cons x rest ih =>
    obtain ⟨q, v⟩ := x
    obtain ⟨-, above, form⟩ := logForm_cons.mp form
    rw [logGet]
    rcases List.mem_cons.mp mem with same | later
    · obtain ⟨rfl, rfl⟩ := Prod.mk.inj same
      exact if_pos rfl
    · rw [if_neg (above _ later).ne]
      exact ih form later

theorem logForm_nodup {m : StoredLog} (form : logForm m = true) : (m.map Prod.fst).Nodup := by
  induction m with
  | nil => exact List.nodup_nil
  | cons x rest ih =>
    obtain ⟨q, v⟩ := x
    obtain ⟨-, above, form⟩ := logForm_cons.mp form
    refine List.nodup_cons.mpr ⟨fun mem => ?_, ih form⟩
    obtain ⟨y, memy, is⟩ := List.mem_map.mp mem
    have lt : q < y.1 := above y memy
    rw [is] at lt
    exact absurd lt (lt_irrefl q)

theorem read_freeStored : freeStored.read = some none := rfl

/-- As many places read an entry as the list holds readable ones. -/
theorem countP_readable {m : StoredLog} (form : logForm m = true) :
    m.countP (fun x => readable x.2) = (List.finRange 1024).countP (fun p => readable (logGet m p)) := by
  rw [List.countP_eq_length_filter, List.countP_eq_length_filter, ← List.length_map (f := Prod.fst)]
  refine ((List.perm_ext_iff_of_nodup ?_ ?_).mpr fun p => ?_).length_eq
  · exact (logForm_nodup form).sublist (List.filter_sublist.map _)
  · exact (List.nodup_finRange 1024).filter _
  · simp only [List.mem_map, List.mem_filter, List.mem_finRange, true_and]
    constructor
    · rintro ⟨⟨q, w⟩, ⟨mem, holds⟩, rfl⟩
      rw [logGet_of_mem form mem]
      exact holds
    · intro holds
      refine ⟨(p, logGet m p), ⟨logGet_mem (fun free => ?_), holds⟩, rfl⟩
      rw [free] at holds
      exact absurd holds nofun

end Sys2Proof.Machine
end

section
/-! SUPPORT. A start as a whole (R182 to R184). -/

namespace Sys2Proof.Machine

open Sys2Proof.Safety

/-! ## The restore -/

/-- The restore up to the lanes (R37, R46, R183). -/
def State.restoreRecords (s : State) : State := s.restoreSettings.restoreSlots.reportSlots.restoreLanes

/-- The restore after the lanes (R118, R134, R183). -/
def State.restoreRest (s : State) : State := s.restoreClasses.restoreLog.restoreEpoch

theorem State.restore_eq (s : State) : s.restore = s.restoreRecords.faultRestored.restoreRest := rfl

theorem State.restoreSlots_of_store {s : State} {d : PersistentStore} (h : s.store = d) :
    s.restoreSlots = { s with slots := Vector.ofFn d.slotRestored } := by
  rw [State.restoreSlots, h]

theorem State.restoreRecords_form {u : State} (starting : u.phase = .starting) : ∃ v es n f, u.restoreRecords =
    { u with
      settings := u.store.settings.read.getD factorySettings
      slots := Vector.ofFn u.store.slotRestored
      lanes := v
      events := es
      startCount := n
      freeCount := f } ∧ ∀ l : LaneId, u.store.laneRestored u.startKind (u.lane l).counters l v[l] := by
  unfold State.restoreRecords
  obtain ⟨es, n, settings⟩ := State.restoreSettings_form starting
  have slots := State.restoreSlots_of_store (d := u.store) (s := { u with
    settings := u.store.settings.read.getD factorySettings, events := es, startCount := n }) rfl
  rw [settings, slots]
  clear slots
  generalize u.store.settings.read.getD factorySettings = b
  generalize Vector.ofFn u.store.slotRestored = slots
  obtain ⟨es', n', reported⟩ := State.reportSlots_form (s := { u with
    settings := b, events := es, startCount := n, slots := slots }) starting
  rw [reported]
  obtain ⟨v, es'', n'', f, lanes, restored⟩ := State.restoreLanes_form (s := { u with
    settings := b, events := es', startCount := n', slots := slots }) starting
  exact ⟨v, es'', n'', f, lanes, restored⟩

theorem Onward.restoreRecords {u : State} (starting : u.phase = .starting) : Onward u u.restoreRecords := by
  have settings := Onward.restoreSettings starting
  have slots := settings.trans (.restoreSlots _)
  have reported := slots.trans (.reportSlots (slots.phase.trans starting))
  exact reported.trans (.restoreLanes (reported.phase.trans starting))

theorem State.restoreRest_form {u : State} (starting : u.phase = .starting) : ∃ v es n f, u.restoreRest =
    { u with
      standIn := v
      log := u.store.log.foldl joinRestored u.log
      epoch := u.store.epoch.read.getD 0
      events := es
      startCount := n
      freeCount := f } ∧ ∀ c : CardClass, v[c] = u.store.classRestored c := by
  unfold State.restoreRest
  obtain ⟨v, es, n, classes, restored⟩ := State.restoreClasses_form starting
  rw [classes]
  obtain ⟨es', n', f, log⟩ := State.restoreLog_form (s := { u with standIn := v, events := es, startCount := n }) starting
  rw [log]
  obtain ⟨es'', n'', epoch⟩ := State.restoreEpoch_form (s := { u with
    standIn := v, log := u.store.log.foldl joinRestored u.log, events := es', startCount := n', freeCount := f }) starting
  exact ⟨v, es'', n'', f, epoch, restored⟩

theorem Onward.restoreRest {u : State} (starting : u.phase = .starting) : Onward u u.restoreRest := by
  have classes := Onward.restoreClasses starting
  have log := classes.trans (.restoreLog (classes.phase.trans starting))
  exact log.trans (.restoreEpoch (log.phase.trans starting))

theorem State.restoreRest_abandons {u : State} (starting : u.phase = .starting)
    (bad : ∃ x ∈ u.store.log, x.2.read = none) : u.restoreRest.events[13].latched = true := by
  obtain ⟨v, es, n, form, -⟩ := State.restoreClasses_form starting
  have classes := Onward.restoreClasses starting
  have still := classes.phase.trans starting
  have store : u.restoreClasses.store = u.store := by rw [form]
  have latched := State.restoreLog_abandons still (by rw [store]; exact bad)
  exact (Onward.restoreEpoch ((Onward.restoreLog still).phase.trans still)).latched 13 latched

/-- What a start has restored before it prepares. -/
structure Restored (u v : State) : Prop where
  onward : Onward u v
  quiet : Quiet v
  store : StoreKept u.store v.store
  settings : v.settings = u.store.settings.read.getD factorySettings
  slots : ∀ n, v.slot n = u.store.slotRestored n
  standIn : ∀ c : CardClass, v.standIn[c] = u.store.classRestored c
  lanes : ∀ l, ∃ q, u.store.laneRestored u.startKind (u.lane l).counters l q ∧
    v.lane l = v.faultedSlots.foldl LaneRecord.slotFaulted q
  log : v.log = u.store.log.foldl joinRestored u.log
  abandons : (∃ x ∈ u.store.log, x.2.read = none) → v.events[13].latched = true
  epoch : v.epoch = u.store.epoch.read.getD 0
  writes : writesMatch staysAtFault v
  count : v.persist.unwritten.length ≤ 48

theorem PersistentStore.classRestored_congr {a b : PersistentStore} (h : StoreKept a b) (c : CardClass) :
    b.classRestored c = a.classRestored c := by
  have same : b.standIn[c].read = a.standIn[c].read := h.1 (.standIn c)
  rw [PersistentStore.classRestored, same, PersistentStore.classRestored]

theorem State.restore_restored {u : State} (starting : u.phase = .starting) (empty : u.persist.unwritten = []) :
    Restored u u.restore := by
  rw [State.restore_eq]
  obtain ⟨v, es, n, f, form, restored⟩ := State.restoreRecords_form starting
  have records := Onward.restoreRecords starting
  have lane : ∀ l, u.restoreRecords.lane l = v[l] := fun l => by rw [form]; rfl
  have slot : ∀ n, u.restoreRecords.slot n = u.store.slotRestored n := fun n => by
    have get : (Vector.ofFn u.store.slotRestored)[n] = u.store.slotRestored n := Vector.getElem_ofFn n.isLt
    rw [form]
    exact get
  have settings : u.restoreRecords.settings = u.store.settings.read.getD factorySettings := by rw [form]
  have store : u.restoreRecords.store = u.store := by rw [form]
  have log : u.restoreRecords.log = u.log := by rw [form]
  have persist : u.restoreRecords.persist = u.persist := by rw [form]
  have quiet : Quiet u.restoreRecords :=
    ⟨records.phase.trans starting, fun l => by rw [lane]; exact PersistentStore.laneRestored_mailbox (restored l)⟩
  generalize u.restoreRecords = x at *
  have none : writesMatch staysAtFault x := fun w mem => by
    rw [persist, empty] at mem
    exact absurd mem List.not_mem_nil
  have few := card_unsettled_le staysAtFault x
  have settles := Settles.faultRestored quiet none (by
    rw [persist, empty, List.length_nil]
    omega)
  have count : x.faultRestored.persist.unwritten.length ≤ 48 := by
    have bound := settles.count
    rw [persist, empty, List.length_nil] at bound
    omega
  have lanes := x.lane_faultRestored
  have same := x.sansLanes_faultRestored
  have kept := settles.store
  have held := settles.writes none
  have onward := records.trans settles.onward
  have slots : ∀ n, x.faultRestored.slot n = x.slot n := fun n => by rw [State.slot, State.slots_of_lanes same, State.slot]
  have settings' := State.settings_of_lanes same
  have log' := State.log_of_lanes same
  have quiet' := settles.onward.quiet quiet
  have faulted : x.faultRestored.faultedSlots = x.faultedSlots := by simp only [State.faultedSlots, slots]
  clear settles same
  generalize x.faultRestored = y at *
  rw [store] at kept
  obtain ⟨w, es', n', f', form', classes⟩ := State.restoreRest_form quiet'.1
  have rest := Onward.restoreRest quiet'.1
  have abandons := State.restoreRest_abandons quiet'.1
  rw [kept.2] at abandons
  have faultedSlots : y.restoreRest.faultedSlots = y.faultedSlots := by rw [form']; rfl
  exact {
    onward := onward.trans rest
    quiet := rest.quiet quiet'
    store := by rw [form']; exact kept
    settings := by rw [form']; exact settings'.trans settings
    slots := fun n => by
      rw [← slot n, ← slots n, form']; rfl
    standIn := fun c => by
      rw [← PersistentStore.classRestored_congr kept, ← classes c, form']
    lanes := fun l => by
      refine ⟨v[l], restored l, ?_⟩
      rw [faultedSlots, faulted, ← lane l, ← lanes l, form']
      rfl
    log := by rw [form', ← log, ← log', ← kept.2]
    abandons := abandons
    epoch := by
      have same : y.store.epoch.read = u.store.epoch.read := kept.1 .epoch
      rw [form', same]
    writes := by
      rw [form']
      exact held
    count := by rw [form']; exact count }

end Sys2Proof.Machine
end

section
/-! SUPPORT. The preparation of a start, and the start as a whole (R182 to R184). -/

namespace Sys2Proof.Machine

open Sys2Proof.Safety

/-! ## The preparation (R184) -/

/-- What the first step of the preparation leaves, at a queue with few writes. -/
structure CountersPrepared (x t : State) : Prop where
  onward : Onward x t
  store : StoreKept x.store t.store
  lanes : ∀ l, t.lane l = { (x.lane l).exhausts with advancePending := (t.lane l).advancePending }
  writes : writesMatch Settles.notReady t
  count : t.persist.unwritten.length ≤ 144
  same : t.sansLanes = x.sansLanes

theorem notReady_of_stays (st : LaneState) (stays : staysAtFault st = true) : Settles.notReady st = true := by
  refine decide_eq_true (fun ready => ?_)
  rw [ready] at stays
  exact absurd stays nofun

theorem State.prepareCounters_prepared {x : State} (h : Quiet x) (matches_ : writesMatch staysAtFault x)
    (few : x.persist.unwritten.length ≤ 48) : CountersPrepared x x.prepareCounters := by
  have weaker : writesMatch Settles.notReady x := fun w mem => (matches_ w mem).mono notReady_of_stays
  have unsettled_le := card_unsettled_le Settles.notReady x
  have settles := Settles.exhaustAll h weaker (by omega)
  have lanes := x.lane_exhaustAll
  have same := foldl_keeps State.sansLanes _ State.sansLanes_exhaustRestored allLanes x
  rw [State.prepareCounters]
  generalize allLanes.foldl State.exhaustRestored x = y at *
  have held := settles.writes weaker
  have total := settles.count
  have unasked_le := y.card_unasked_le
  have asks := Asks.advanceAll allLanes (settles.onward.quiet h) held (by omega)
  have total' := asks.count
  exact {
    onward := settles.onward.trans asks.onward
    store := settles.store.trans asks.store
    lanes := fun l => by rw [asks.advances.lane l, lanes l]
    writes := asks.writes held
    count := by omega
    same := (foldl_keeps State.sansLanes _ State.sansLanes_advanceTest allLanes y).trans same }

/-! ## The start -/

/-- What a start makes of a part whose work was discarded. -/
structure Started (u t : State) : Prop where
  onward : Onward u t
  store : StoreKept u.store t.store
  settings : t.settings = u.store.settings.read.getD factorySettings
  slots : ∀ n, t.slot n = u.store.slotRestored n
  standIn : ∀ c : CardClass, t.standIn[c] = u.store.classRestored c
  lanes : ∀ l, ∃ q, u.store.laneRestored u.startKind (u.lane l).counters l q ∧
    t.lane l = { (t.faultedSlots.foldl LaneRecord.slotFaulted q).exhausts with
      advancePending := (t.lane l).advancePending }
  log : t.log = u.store.log.foldl joinRestored u.log
  abandons : (∃ x ∈ u.store.log, x.2.read = none) → t.events[13].latched = true
  epoch : t.epoch = (u.store.epoch.read.getD 0 + 1) % 1024
  monitor : t.monitor = ⟨.down, t.settings.missLimit, none, 0, 0⟩
  writes : ∃ ws, t.persist.unwritten = ws ++ [.epoch t.epoch] ∧ ∀ w ∈ ws, matchesLane Settles.notReady t w

/-- The preparation (R184). -/
def State.prepare (v : State) : State := v.prepareMonitor.prepareCounters.prepareEpoch

/-- What the second step of the preparation changes. -/
theorem State.eq_of_epoch {s t : State}
    (h : { t with epoch := 0, persist := s.persist, store := s.store } = { s with epoch := 0 }) :
    t = { s with epoch := t.epoch, persist := t.persist, store := t.store } := by
  have whole := congrArg (fun x : State => { x with epoch := t.epoch, persist := t.persist, store := t.store }) h
  exact whole

theorem Restored.prepare {u v : State} (h : Restored u v) : Started u v.prepare := by
  have monitored : Onward v v.prepareMonitor := .tables v _ _ _ _ _ _ _
  have prepared := State.prepareCounters_prepared (monitored.quiet h.quiet) (x := v.prepareMonitor) h.writes h.count
  have few := prepared.count
  obtain ⟨risen, kept, epoch, lanes, only, unwritten⟩ := State.prepareEpoch_of_room prepared.writes (by omega)
  have only := State.eq_of_epoch only
  have onward := (monitored.trans prepared.onward).trans risen
  have store := prepared.store.trans kept
  obtain ⟨-, -, advanced, writes, -, same⟩ := prepared
  rw [State.prepare]
  generalize v.prepareMonitor.prepareCounters.prepareEpoch = t at *
  generalize v.prepareMonitor.prepareCounters = y at *
  have slots : t.slots = v.prepareMonitor.slots := by rw [only, ← State.slots_of_lanes same]
  have settings : t.settings = v.prepareMonitor.settings := by rw [only, ← State.settings_of_lanes same]
  have standIn : t.standIn = v.prepareMonitor.standIn := by rw [only, ← State.standIn_of_lanes same]
  have log : t.log = v.prepareMonitor.log := by rw [only, ← State.log_of_lanes same]
  have monitor : t.monitor = v.prepareMonitor.monitor := by rw [only, ← State.monitor_of_lanes same]
  have slot : ∀ n, t.slot n = v.slot n := fun n => by
    rw [State.slot, slots]
    rfl
  have lane : ∀ l, t.lane l = y.lane l := fun l => by rw [State.lane, lanes, State.lane]
  have faulted : t.faultedSlots = v.faultedSlots := by simp only [State.faultedSlots, slot]
  exact {
    onward := h.onward.trans onward
    store := h.store.trans store
    settings := settings.trans h.settings
    slots := fun n => (slot n).trans (h.slots n)
    standIn := fun c => by rw [standIn]; exact h.standIn c
    lanes := fun l => by
      obtain ⟨q, restored, is⟩ := h.lanes l
      refine ⟨q, restored, ?_⟩
      rw [faulted, ← is, lane l]
      exact advanced l
    log := log.trans h.log
    abandons := fun bad => onward.latched 13 (h.abandons bad)
    epoch := by
      rw [epoch, State.epoch_of_lanes same, ← h.epoch]
      rfl
    monitor := by
      rw [monitor, settings]
      rfl
    writes := ⟨_, unwritten, fun w mem =>
      (writes w mem).congr (fun l _ => by rw [lane]) (fun l => by rw [lane]; exact ⟨rfl, rfl, rfl⟩)⟩ }

/-- A part at the beginning of a start (R182), its persistent copies decayed. -/
def State.cleared (s : State) (powered : Bool) (decays : List Decay) : State :=
  { s.discardAll (s.startKindFor powered) with store := decays.foldl PersistentStore.decay s.store }

theorem State.beginStart_started (s : State) (powered : Bool) (decays : List Decay) :
    Started (s.cleared powered decays) (s.beginStart powered decays) :=
  (State.restore_restored (u := s.cleared powered decays) rfl rfl).prepare

end Sys2Proof.Machine
end

section
/-! SUPPORT. What a start restores (R37, R46, R134, R183, R184). -/

namespace Sys2Proof.Machine

open Sys2Proof.Safety

/-! ## A lane at the end of a start -/

theorem LaneConfig.causeOf_eq_none_iff (c : LaneConfig) (n : SlotId) :
    c.causeOf n = none ↔ c.link ≠ some n ∧ c.base ≠ some n := by
  unfold LaneConfig.causeOf
  by_cases link : c.link = some n
  · rw [if_pos link]
    exact ⟨nofun, fun h => absurd link h.1⟩
  · rw [if_neg link]
    by_cases base : c.base = some n
    · rw [if_pos base]
      exact ⟨nofun, fun h => absurd base h.2⟩
    · rw [if_neg base]
      exact ⟨fun _ => ⟨link, base⟩, fun _ => rfl⟩

theorem LaneConfig.causeOf_eq_some_iff (c : LaneConfig) (n : SlotId) (x : FaultCause) : c.causeOf n = some x ↔
    (c.link = some n ∧ x = .linkKey) ∨ (c.link ≠ some n ∧ c.base = some n ∧ x = .baseKey) := by
  unfold LaneConfig.causeOf
  by_cases link : c.link = some n
  · rw [if_pos link, Option.some.injEq]
    exact ⟨fun h => .inl ⟨link, h.symm⟩, fun h => (h.resolve_right (fun g => g.1 link)).2.symm⟩
  · rw [if_neg link]
    by_cases base : c.base = some n
    · rw [if_pos base, Option.some.injEq]
      exact ⟨fun h => .inr ⟨link, base, h.symm⟩, fun h => (h.resolve_left (fun g => link g.1)).2.2.symm⟩
    · rw [if_neg base]
      exact ⟨nofun, fun h => h.elim (fun g => absurd g.1 link) (fun g => absurd g.2.1 base)⟩

/-- What the FAULTED slots and the payment limit make of a restored lane. -/
structure LanePrepared (ns : List SlotId) (q f : LaneRecord) : Prop where
  rest : f = { q with config := { q.config with state := f.config.state } }
  stays : staysAtFault q.config.state = true → f.config.state = q.config.state
  sound : staysAtFault q.config.state = false → (∀ n ∈ ns, q.config.causeOf n = none) → f.config.state =
    if q.config.state = .ready ∧ q.spentForPayments = true then .exhausted else q.config.state
  faulted : staysAtFault q.config.state = false → (∃ n ∈ ns, q.config.causeOf n ≠ none) →
    ∃ n ∈ ns, ∃ c, q.config.causeOf n = some c ∧ f.config.state = .faulted c

theorem LaneRecord.exhausts_of_other {r : LaneRecord} (h : r.config.state ≠ .ready) : r.exhausts = r :=
  if_neg (fun g => h g.1)

theorem LaneRecord.ne_ready_of_stays {r : LaneRecord} (h : staysAtFault r.config.state = true) : r.config.state ≠ .ready :=
  fun ready => by
    rw [ready] at h
    exact absurd h nofun

theorem LanePrepared.of_restored (ns : List SlotId) {q : LaneRecord} (empty : q.mailbox = none) :
    LanePrepared ns q (ns.foldl LaneRecord.slotFaulted q).exhausts := by
  rcases LaneRecord.foldl_slotFaulted ns q with ⟨same, why⟩ | ⟨live, n, mem, c, cause, is⟩
  · rw [same]
    have unfolds : q.exhausts = if q.config.state = .ready ∧ q.spentForPayments = true then
        { q with config := { q.config with state := .exhausted } } else q := by
      rw [LaneRecord.exhausts, LaneRecord.entered_of_empty _ _ empty]
    refine ⟨?_, fun stays => ?_, fun live none => ?_, fun live ⟨n, mem, reached⟩ => ?_⟩
    · rw [unfolds]
      split <;> rfl
    · rw [LaneRecord.exhausts_of_other (LaneRecord.ne_ready_of_stays stays)]
    · rw [unfolds]
      split <;> rfl
    · rcases why with stays | none
      · exact absurd (stays.symm.trans live) nofun
      · exact absurd (none n mem) reached
  · have state : (q.entered (.faulted c)).config.state = .faulted c := by rw [LaneRecord.entered_config]
    rw [is, LaneRecord.exhausts_of_other (by rw [state]; nofun)]
    refine ⟨?_, fun stays => absurd (stays.symm.trans live) nofun, fun _ none => ?_, fun _ _ => ⟨n, mem, c, cause, state⟩⟩
    · rw [state]
      exact LaneRecord.entered_of_empty _ _ empty
    · exact absurd (cause.symm.trans (none n mem)) nofun

/-! ## What a start makes of the store's records -/

theorem PersistentStore.slotRestored_eq (d : PersistentStore) (n : SlotId) :
    d.slotRestored n = d.slots[n].read.getD ⟨.faulted, none, 65535, none, none, []⟩ := by
  unfold PersistentStore.slotRestored
  split
  · rename_i r read
    rw [read, Option.getD_some]
  · rename_i read
    rw [read, Option.getD_none]
    rfl

/-- A start's lane and the restored record it comes of. -/
theorem Started.lane {u t : State} (h : Started u t) (l : LaneId) : ∃ q,
    u.store.laneRestored u.startKind (u.lane l).counters l q ∧
    ∃ f, LanePrepared t.faultedSlots q f ∧ t.lane l = { f with advancePending := (t.lane l).advancePending } := by
  obtain ⟨q, restored, is⟩ := h.lanes l
  exact ⟨q, restored, _, .of_restored _ (PersistentStore.laneRestored_mailbox restored), is⟩

/-- The rows that begin a start (R170, R182). -/
theorem exec_start {c : Instr} {decays : List Decay} {s : State} (is : c = .powerApplied decays ∨ c = .resetLine decays ∨
    (c = .restartReplyLeft decays ∧ ∃ p, (s.ctl p).restart = .left)) :
    exec c s = .next (s.beginStart (decide (c = .powerApplied decays)) decays) := by
  rcases is with rfl | rfl | ⟨rfl, p, left⟩
  · rw [decide_eq_true rfl]
    rfl
  · rw [decide_eq_false nofun]
    rfl
  · have due : s.restartDue = true := by
      unfold State.restartDue
      rw [Bool.or_eq_true]
      cases p with
      | s => exact .inl (decide_eq_true left)
      | c => exact .inr (decide_eq_true left)
    have run : exec (.restartReplyLeft decays) s =
        .next (if s.restartDue = true then s.beginStart false decays else s) := rfl
    rw [decide_eq_false nofun, run, if_pos due]

/-- The state of a lane whose record was good (R37; log 34). -/
theorem Started.laneState {u t : State} (h : Started u t) {l : LaneId} {r : LaneConfig}
    (read : u.store.lanes[l].read = some r) :
    (t.lane l).config = { r with
      state := (t.lane l).config.state
      ceiling := restoredCeiling r u.store.ceilings[l] } ∧
    ((r.state = .unused ∨ ∃ x, r.state = .faulted x) → (t.lane l).config.state = r.state) ∧
    (r.state ≠ .unused → (∀ x, r.state ≠ .faulted x) →
      ((∀ n, (r.link = some n ∨ r.base = some n) → (t.slot n).state ≠ .faulted) →
        (t.lane l).config.state =
          if r.state = .ready ∧ 4194047 < restoredCeiling r u.store.ceilings[l] then .exhausted else r.state) ∧
      ((∃ n, (r.link = some n ∨ r.base = some n) ∧ (t.slot n).state = .faulted) → ∃ n c, (t.slot n).state = .faulted ∧
        r.causeOf n = some c ∧ (t.lane l).config.state = .faulted c)) := by
  obtain ⟨q, ⟨c, rfl, good, -⟩, f, prepared, lane⟩ := h.lane l
  obtain rfl := good r read
  have state : (t.lane l).config.state = f.config.state := by rw [lane]
  have config : (t.lane l).config = { r with
      state := (t.lane l).config.state
      ceiling := restoredCeiling r u.store.ceilings[l] } := by
    rw [state, lane]
    exact congrArg LaneRecord.config prepared.rest
  refine ⟨config, fun quiet => ?_, fun used live => ?_⟩
  · rw [state]
    refine prepared.stays ?_
    rcases quiet with is | ⟨x, is⟩
    · exact congrArg staysAtFault is
    · exact congrArg staysAtFault is
  · have moves : staysAtFault r.state = false := (staysAtFault_eq_false_iff _).mpr ⟨used, live⟩
    refine ⟨fun sound => ?_, fun ⟨n, names, bad⟩ => ?_⟩
    · rw [state]
      refine (prepared.sound moves (fun n mem => ?_)).trans ?_
      · refine (LaneConfig.causeOf_eq_none_iff _ n).mpr ⟨fun link => ?_, fun base => ?_⟩
        · exact sound n (.inl link) ((t.mem_faultedSlots n).mp mem)
        · exact sound n (.inr base) ((t.mem_faultedSlots n).mp mem)
      · exact if_congr (and_congr_right' decide_eq_true_iff) rfl rfl
    · have reached : ∃ n ∈ t.faultedSlots, r.causeOf n ≠ none := by
        refine ⟨n, (t.mem_faultedSlots n).mpr bad, fun none => ?_⟩
        obtain ⟨link, base⟩ := (LaneConfig.causeOf_eq_none_iff r n).mp none
        exact names.elim link base
      obtain ⟨m, mem, x, cause, is⟩ := prepared.faulted moves reached
      exact ⟨m, x, (t.mem_faultedSlots m).mp mem, cause, state.trans is⟩

/-- Settles O10. -/
theorem startRestores : Obligations.StartRestores := by
  rintro c decays s d rfl start
  have h := s.beginStart_started (decide (c = .powerApplied decays)) decays
  refine ⟨_, exec_start start, ?_⟩
  have store : (s.cleared (decide (c = .powerApplied decays)) decays).store = decays.foldl PersistentStore.decay s.store :=
    rfl
  have empty : (s.cleared (decide (c = .powerApplied decays)) decays).log = [] := rfl
  generalize s.beginStart (decide (c = .powerApplied decays)) decays = t at *
  generalize s.cleared (decide (c = .powerApplied decays)) decays = u at *
  rw [← store]
  have log := h.log
  rw [empty] at log
  have holds : ∀ p e, (logGet u.store.log p).read = some (some e) → (p, logGet u.store.log p) ∈ u.store.log := by
    refine fun p e read => logGet_mem (fun free => ?_)
    rw [free, read_freeStored] at read
    exact absurd (Option.some.inj read) nofun
  refine ⟨(presentKept_iff _ _).mpr h.store.1, h.settings, h.standIn,
    fun n => (h.slots n).trans (u.store.slotRestored_eq n), fun l r read => ?_, fun l bad => ?_, fun p e read => ?_,
    fun form => ?_, fun ⟨p, bad⟩ => ?_, h.epoch⟩
  · obtain ⟨config, stays, live⟩ := h.laneState read
    refine ⟨config, stays, fun used sound => ?_⟩
    obtain ⟨exhausts, faults⟩ := live used sound
    refine ⟨exhausts, fun n link bad only => ?_, fun m base bad fine => ?_, fun n m link base bad bad' => ?_⟩
    · obtain ⟨k, x, faulted, cause, is⟩ := faults ⟨n, .inl link, bad⟩
      rcases (r.causeOf_eq_some_iff k x).mp cause with ⟨-, rfl⟩ | ⟨other, base, -⟩
      · exact is
      · exact absurd (link.trans (congrArg some (only k base faulted).symm)) other
    · obtain ⟨k, x, faulted, cause, is⟩ := faults ⟨m, .inr base, bad⟩
      rcases (r.causeOf_eq_some_iff k x).mp cause with ⟨link, -⟩ | ⟨-, -, rfl⟩
      · exact absurd faulted (fine k link)
      · exact is
    · obtain ⟨k, x, faulted, cause, is⟩ := faults ⟨n, .inl link, bad⟩
      rcases (r.causeOf_eq_some_iff k x).mp cause with ⟨-, rfl⟩ | ⟨-, -, rfl⟩
      · exact .inl is
      · exact .inr is
  · obtain ⟨q, ⟨k, rfl, -, lost⟩, f, prepared, lane⟩ := h.lane l
    obtain ⟨n, rfl⟩ := lost bad
    have state : f.config.state = .faulted .record := prepared.stays rfl
    have config := congrArg LaneRecord.config prepared.rest
    rw [lane, config, state]
    exact ⟨rfl, rfl, rfl, rfl, rfl, rfl, rfl⟩
  · rw [log, mem_foldl_joinRestored]
    exact .inr ⟨_, holds p e read, e, read, rfl⟩
  · have form' : logForm u.store.log = true := by
      rw [store]
      exact PersistentStore.decays_form decays s.store form
    refine ⟨fun x mem => ?_, ?_, ?_⟩
    · rw [log, mem_foldl_joinRestored] at mem
      obtain ⟨⟨p, w⟩, memw, e, read, rfl⟩ := mem.resolve_left List.not_mem_nil
      exact ⟨p, e, by rw [logGet_of_mem form' memw]; exact read, rfl⟩
    · rw [log, length_foldl_joinRestored, countP_readable form']
      exact Nat.zero_add _
    · rw [log]
      exact foldl_joinRestored_sorted _ List.Pairwise.nil
  · refine h.abandons ⟨(p, logGet u.store.log p), logGet_mem (fun free => ?_), bad⟩
    rw [free, read_freeStored] at bad
    exact absurd bad nofun

end Sys2Proof.Machine
end

section
/-! SUPPORT. What a start discards, clears and keeps (R13, R14, R117, R171, R174, R182). -/

namespace Sys2Proof.Machine

open Sys2Proof.Safety

/-! ## What the work of a start leaves of the part at its beginning -/

/-- The fields that neither the restore nor the preparation writes. -/
theorem Onward.fields {u t : State} (h : Onward u t) : t.startKind = u.startKind ∧ t.clock = u.clock ∧
    t.exchanges = u.exchanges ∧ t.engine = u.engine ∧ t.sendQueue = u.sendQueue ∧ t.reassembly = u.reassembly ∧
    t.answerQueue = u.answerQueue ∧ t.scrub = u.scrub ∧ t.device = u.device ∧ t.ports = u.ports ∧ t.control = u.control ∧
    t.wire = u.wire :=
  ⟨(congrArg State.startKind h.outside :), (congrArg State.clock h.outside :), (congrArg State.exchanges h.outside :),
    (congrArg State.engine h.outside :), (congrArg State.sendQueue h.outside :), (congrArg State.reassembly h.outside :),
    (congrArg State.answerQueue h.outside :), (congrArg State.scrub h.outside :), (congrArg State.device h.outside :),
    (congrArg State.ports h.outside :), (congrArg State.control h.outside :), (congrArg State.wire h.outside :)⟩

/-- The latches after the work of a start. -/
theorem Onward.latches {u t : State} (h : Onward u t) (none : u.startCount = 0) (k : EventNumber) :
    LatchGrown t.startCount u.events[k] t.events[k] ∧ (k ∉ startKinds → t.events[k] = u.events[k]) := by
  obtain ⟨ks, kinds, events, count⟩ := h.raised
  obtain ⟨grown, other⟩ := LatchGrown.foldl_relatched ks u.events k
  rw [none, Nat.zero_add] at count
  rw [events, count]
  exact ⟨grown, fun out => other (fun mem => out (kinds k mem))⟩

/-- A lane at the end of a start: volatile fields empty, counters as the start's kind asks (R37). -/
theorem Started.laneVolatile {u t : State} (h : Started u t) (l : LaneId) :
    ((t.lane l).mailbox = none ∧ (t.lane l).openPayment = none ∧ (t.lane l).tagFailures = 0 ∧
      (t.lane l).lastAccepted = none ∧ (t.lane l).recent = [] ∧ (t.lane l).counter = (t.lane l).config.ceiling) ∧
    (t.lane l).counters = keptCounters u.startKind (u.lane l).counters := by
  obtain ⟨q, ⟨c, rfl, -⟩, f, prepared, lane⟩ := h.lane l
  rw [lane, prepared.rest]
  exact ⟨⟨rfl, rfl, rfl, rfl, rfl, rfl⟩, rfl⟩

/-- The queue holds the writes of the start, the epoch's last (R184). -/
theorem Started.startWrites {u t : State} (h : Started u t) : startWrites t := by
  obtain ⟨ws, unwritten, matches_⟩ := h.writes
  rw [Safety.startWrites, unwritten]
  refine ⟨List.getLast?_concat, fun w mem => ?_⟩
  rw [List.dropLast_concat] at mem
  exact (matches_ w mem).imp_left (fun ⟨l, is, _⟩ => ⟨l, is⟩)

/-! ## What a start discards (R182) -/

/-- A part whose work was discarded. -/
theorem inFlightGone_started {s t : State} {powered : Bool} {decays : List Decay} (h : Started (s.cleared powered decays) t) :
    inFlightGone s t := by
  obtain ⟨-, clock, exchanges, engine, sendQueue, reassembly, answers, scrub, -, ports, control, wire⟩ := h.onward.fields
  have port : ∀ p, t.port p = (s.port p).started (s.startKindFor powered) := fun p => by
    rw [State.port, ports]
    cases p <;> rfl
  have ctl : ∀ p, t.ctl p = (s.ctl p).started (s.startKindFor powered) := fun p => by
    rw [State.ctl, control]
    cases p <;> rfl
  refine ⟨h.onward.phase, fun i => ?_, ?_, sendQueue, answers, fun b => ?_, fun p => ?_, fun p => ?_,
    fun l => (h.laneVolatile l).1, h.monitor, ?_, clock, wire, h.startWrites⟩
  · rw [State.exchange, exchanges]
    exact Vector.getElem_replicate i.isLt
  · rw [engine]
    rfl
  · rw [reassembly]
    exact Vector.getElem_replicate b.isLt
  · rw [port]
    exact ⟨rfl, rfl, rfl⟩
  · rw [ctl]
    exact ⟨rfl, rfl, rfl⟩
  · rw [scrub]
    have walk : ∀ k, (s.scrub.started k).walk = 0 := fun k => by cases k <;> rfl
    exact walk _

/-- The histories at the end of a start, by its kind. -/
theorem Started.histories {s t : State} {powered : Bool} {decays : List Decay} {k : StartKind}
    (h : Started (s.cleared powered decays) t) (kind : s.startKindFor powered = k) : t.startKind = k ∧
    (∀ p, (t.port p).counters = ((s.port p).started k).counters ∧
      (t.ctl p).noticeAddress = ((s.ctl p).started k).noticeAddress) ∧
    t.device = (s.discardAll k).device ∧ (∀ l, (t.lane l).counters = keptCounters k (s.lane l).counters) ∧
    t.scrub = s.scrub.started k ∧ ∀ j : EventNumber, LatchGrown t.startCount (s.discardAll k).events[j] t.events[j] ∧
      (j ∉ startKinds → t.events[j] = (s.discardAll k).events[j]) := by
  subst kind
  obtain ⟨kind, -, -, -, -, -, -, scrub, device, ports, control, -⟩ := h.onward.fields
  refine ⟨kind, fun p => ⟨?_, ?_⟩, device, fun l => (h.laneVolatile l).2, scrub, h.onward.latches rfl⟩
  · rw [State.port, ports]
    cases p <;> rfl
  · rw [State.ctl, control]
    cases p <;> rfl

theorem startKindFor_powered (s : State) : s.startKindFor true = .cold := rfl

theorem startKindFor_serving {s : State} (serving : s.phase = .serving) : s.startKindFor false = .warm := by
  unfold State.startKindFor
  rw [serving]
  rfl

theorem startKindFor_cold {s : State} (starting : s.phase = .starting) (cold : s.startKind = .cold) :
    s.startKindFor false = .cold := by
  unfold State.startKindFor
  rw [starting, cold]
  rfl

/-- A start's kind is all that the power decides. -/
theorem State.beginStart_congr {s : State} {a b : Bool} (same : s.startKindFor a = s.startKindFor b) (decays : List Decay) :
    s.beginStart a decays = s.beginStart b decays := by
  unfold State.beginStart
  rw [same]

/-- Settles O8. -/
theorem startsClearOrKeep : Obligations.StartsClearOrKeep := by
  intro decays s
  refine ⟨?_, fun c serving start => ?_, fun starting cold => ?_, fun none => ?_⟩
  · have h := s.beginStart_started true decays
    obtain ⟨kind, ports, device, lanes, scrub, latches⟩ := h.histories (startKindFor_powered s)
    have clear : ∀ k : EventNumber, (s.discardAll .cold).events[k] = clearLatch := fun k => Vector.getElem_replicate k.isLt
    refine ⟨_, rfl, inFlightGone_started h, kind, ports, device, lanes, by rw [scrub]; rfl, by rw [scrub]; rfl,
      by rw [scrub]; rfl, by rw [scrub]; rfl, fun k out => ((latches k).2 out).trans (clear k), fun k => ?_⟩
    obtain ⟨-, -, most, agrees⟩ := (latches k).1
    rw [clear] at most agrees
    exact ⟨most.trans (Nat.zero_add _).le, agrees ⟨nofun, fun h => absurd h (Nat.lt_irrefl 0)⟩⟩
  · have h := s.beginStart_started false decays
    obtain ⟨kind, ports, device, lanes, scrub, latches⟩ := h.histories (startKindFor_serving serving)
    have run : exec c s = .next (s.beginStart false decays) := by
      have not : decide (c = .powerApplied decays) = false := by
        rcases start with rfl | ⟨rfl, -⟩ <;> exact decide_eq_false nofun
      rw [exec_start (.inr start), not]
    refine ⟨_, run, inFlightGone_started h, kind, ports, device, lanes, scrub, fun k out => (latches k).2 out, fun k => ?_⟩
    obtain ⟨latched, least, most, -⟩ := (latches k).1
    exact ⟨latched, least, most⟩
  · have reset : exec (.resetLine decays) s = .next (s.beginStart false decays) := rfl
    have power : exec (.powerApplied decays) s = .next (s.beginStart true decays) := rfl
    have same : s.startKindFor false = s.startKindFor true := startKindFor_cold starting cold
    rw [reset, power, State.beginStart_congr same]
  · have due : s.restartDue = false := by
      rw [State.restartDue, decide_eq_false (none .s), decide_eq_false (none .c)]
      rfl
    have run : exec (.restartReplyLeft decays) s =
        .next (if s.restartDue = true then s.beginStart false decays else s) := rfl
    rw [run, due, if_neg Bool.false_ne_true]

end Sys2Proof.Machine
end
